-- ==== Sys2Proof/Word.lean ====
section
/-! DEFINITION. The byte of the links, the room bus and the record layouts. -/

namespace Sys2Proof

/-- One byte as it travels on a link or on the room bus (R43, R161). -/
abbrev Byte := BitVec 8

end Sys2Proof
end

