-- ==== Sys2Proof/Config.lean ====
section
/-! DEFINITION. What the spec fixes once for the part (durations, caps), and the free values: constants without a body for
values the spec leaves unstated, so that nothing can be proved of them but what holds for every value. -/

namespace Sys2Proof.Config

/-- Microseconds in a second and in a millisecond, the units of the model's time (log entry 1). -/
def second : Nat := 1000000
def millisecond : Nat := 1000

/-- R4: the cap of the wear figure, 65,536 × 57,600 − 1. -/
def wearCap : Nat := 3774873599
/-- R2: wear units in one lamp-hour at NORMAL. -/
def wearPerHour : Nat := 57600
/-- R4: the caps of the 32-bit and the 16-bit counters, and the byte counters of R58 and R173. -/
def cap32 : Nat := 4294967295
def cap16 : Nat := 65535
def cap8 : Nat := 255
/-- R6: where the warm count stops. -/
def warmCap : Nat := 1800
/-- R15: charged seconds between two checkpoints of a burning lamp. -/
def checkpointEvery : Nat := 360
/-- R25, R31: how long LIT must hold, µs. -/
def litHold : Nat := 100000
/-- R25: the unit of time-to-light, µs. -/
def lightUnit : Nat := 20000
/-- R43: time of a three-byte POLL, µs. -/
def pollTime : Nat := 240
/-- R47: length of the reply window, µs. -/
def replyWindow : Nat := 2000
/-- R45: length of the cycle gap, µs. -/
def cycleGap : Nat := 50000
/-- R93: the stale time, µs. -/
def staleTime : Nat := 5000000
/-- R163: the gap limit inside a frame, µs. -/
def gapLimit : Nat := 10000
/-- R164: bytes of a receive buffer. -/
def bufferSize : Nat := 64
/-- R162: the SYNC byte. -/
def sync : Byte := 0xC3
/-- R174: engine silence, µs. -/
def silenceTime : Nat := 10000000
/-- R127: entries the schedule table holds. -/
def tableSize : Nat := 32
/-- R120, R122: days from 2000-01-01 to 2099-12-31, both included. -/
def calendarDays : Nat := 36525

/-- FREE VALUE (log entry 14). R176: bytes that arrive during start-up are received once the receivers are enabled; the
spec does not say which bytes come before that. Applied to the counter `choices` of the state. DESIGN CHOICE, safe. -/
opaque receiversEnabledBy : Nat → Bool

/-- FREE VALUE (log entry 15). R167: the response CODE of an unknown request code of 0x80 or above, whose sum with 0x80
does not fit a byte. DESIGN CHOICE, safe. -/
opaque codeBeyondByte : Byte → Byte

/-- FREE VALUE (log entry 16). R159, R186: the two minute bytes sent for an absent start or end of a session.
DESIGN CHOICE, safe. -/
opaque absentMinute : BitVec 16

/-- FREE VALUE (log entry 16). R132: the weekday bits sent for an entry that has no weekday set; the ignored bit 7 of that
byte is sent as 0 (R186). DESIGN CHOICE, safe. -/
opaque absentWeekdays : BitVec 7

/-- FREE VALUE (log entry 16). R132: the source plate sent for an entry that has none, within the 0 … 12 of a plate field in a
response (R186). DESIGN CHOICE, safe. -/
opaque absentPlate : Fin 13

end Sys2Proof.Config
end

