-- ==== Sys2Proof/Syntax.lean ====
section
/-! DEFINITION. The commands of the block: one constructor of Instr for each row of spec/opcode_table.json. -/

namespace Sys2Proof

/-- The three links (00_scope, 09). -/
inductive Link where
  | engine | lectern | campus
  deriving DecidableEq, Repr

/-- The polarity of a VSYNC edge (R48, R75). -/
inductive SyncEdge where
  | rising | falling
  deriving DecidableEq, Repr

/-- How a slot of the retained store is found: with its previous content, with the new content of the write, or bad (R185).
On a reset it says how far a cut write had gone; at WRITE_COMPLETE it says what the read-back finds (log entry 8). -/
inductive SlotLeft where
  | previous | new | bad
  deriving DecidableEq, Repr

/-- A date field as it is sent: year (two bytes), month, day (11, ENCODINGS). -/
structure RawDate where
  year : BitVec 16
  month : Byte
  day : Byte
  deriving DecidableEq, Repr

/-- The payload of ENTRY_PUT, field by field (11, ENTRY_PUT PAYLOAD). -/
structure RawEntry where
  id : Byte
  kind : Byte
  weekdays : Byte
  first : RawDate
  last : RawDate
  date : RawDate
  start : BitVec 16
  stop : BitVec 16
  source : Byte
  level : Byte
  lamp : Byte
  label : List Byte
  deriving DecidableEq, Repr

/-- The commands. Request rows name the link the request comes from and carry its payload fields as sent, valid or not;
`dt` is the time in µs by which a pin event follows the command before it (log entry 3). -/
inductive Instr where
  -- resets and start-up (R183 to R185)
  | powerOn (cut : SlotLeft) (backup : Option Nat)
  | resetPin (cut : SlotLeft)
  | supplyDrop (cut : SlotLeft)
  | startUpComplete
  -- link events (R161 to R176)
  | receiveByte (l : Link) (b : Byte)
  | gap (l : Link)
  | frameTake (l : Link)
  | responseSent (l : Link) (cut : SlotLeft)
  | engineSilence
  -- requests (11, COMMAND CODES)
  | roomRead (l : Link)
  | noticeRead (l : Link)
  | countersRead (l : Link)
  | countersClear (l : Link)
  | restart (l : Link)
  | sessionStart (l : Link)
  | sessionEnd (l : Link)
  | sessionExtend (l : Link)
  | lampLevel (l : Link) (level : Byte)
  | lampRead (l : Link)
  | lampReplaced (l : Link)
  | accountSet (l : Link) (hours : BitVec 16)
  | sourceSelect (l : Link) (plate : Byte)
  | pictureMute (l : Link) (onOff : Byte)
  | sourceRead (l : Link)
  | plateRead (l : Link)
  | geometrySet (l : Link) (mode v h trim : Byte)
  | geometryTrim (l : Link) (dv dh : Byte)
  | presetStore (l : Link)
  | geometryRead (l : Link) (plate : Option Byte)
  | tiltReport (l : Link) (tilt : BitVec 16)
  | engineReport (l : Link) (temperature : Byte)
  | overrideSet (l : Link) (level : Byte) (minutes : Option (BitVec 16))
  | overrideClear (l : Link)
  | lockoutRead (l : Link)
  | clockSet (l : Link) (date : RawDate) (hour minute : Byte)
  | clockRead (l : Link)
  | entryPut (l : Link) (entry : RawEntry)
  | entryDelete (l : Link) (id : Byte)
  | entryRead (l : Link) (id : Byte)
  | entryList (l : Link)
  | scheduleClear (l : Link)
  | occurrenceRead (l : Link)
  | settingWrite (l : Link) (id : Byte) (value : BitVec 32)
  | settingRead (l : Link) (id : Byte)
  -- room clock and lamp
  | secondEvent (chargeFirst countdownFirst : Bool)
  | litChange (high : Bool) (dt : Nat)
  | litConfirmed
  | outage
  | strikeWindowExpiry
  | retryWaitExpiry
  | warmUpExpiry
  | cooldownExpiry
  -- room bus
  | pollSent
  | busByteReceived (b : Byte)
  | replyWindowExpiry
  | cycleGapExpiry
  -- picture
  | vsyncEdge (edge : SyncEdge) (dt : Nat)
  | muteLeadExpiry
  | maskExpiry
  | seekWindowExpiry
  | confirmDelayExpiry
  | syncWatchExpiry
  | tiltSilenceExpiry
  -- retained store and supply
  | writeComplete (readBack : SlotLeft)
  | supplyWarning
  | supplyRecover
  deriving DecidableEq, Repr

end Sys2Proof
end

