-- ==== Sys2Proof/WellFormed.lean ====
section
/-! DEFINITION. Which commands could be sent as they are written. The operand types bound every field but one. -/

namespace Sys2Proof

/-- R162, R187: a request frame carries at most 59 payload bytes, and ENTRY_PUT has 23 before its label, so a label of more
than 36 characters cannot be sent. Every other command is well formed by the types of its operands. -/
def Instr.wellFormed : Instr → Bool
  | .entryPut _ e => e.label.length ≤ 36
  | _ => true

end Sys2Proof
end

