-- ==== Sys2Proof/Decode.lean ====
section
/-! DEFINITION. The command a table word spells. spec/opcode_table.json gives bits to none of its 66 rows, so no word spells
a command. (Request frames are decoded in Machine/Frames.lean, where R165 to R167 put that decoding.) -/

namespace Sys2Proof

/-- The rows of the table have neither "fixed" nor "fields" bits: no word of any width spells a command. -/
def decodeTableWord (_nbits _w : Nat) : Option Instr := none

end Sys2Proof
end

