-- ==== Sys2Proof/Machine/State.lean ====
section
/-! DEFINITION. The whole state of the LH14 as plain data, block by block, and the state after reset. -/

namespace Sys2Proof.Machine

/-! ## Names of the spec -/

/-- The five lockout levels, in the spec's order (06). -/
inductive Level where
  | closed | openRoom | present | exam | service
  deriving DecidableEq, Repr

/-- The lamp levels, ECO < NORMAL < BOOST (R37). -/
inductive LampLevel where
  | eco | normal | boost
  deriving DecidableEq, Repr

/-- The engine temperature states (R20). -/
inductive TempState where
  | normal | warm | hot | unknown
  deriving DecidableEq, Repr

/-- The account status (R2). -/
inductive WearStatus where
  | good | warn | expired
  deriving DecidableEq, Repr

/-- The phases of STRIKING (R20). -/
inductive Phase where
  | attempt | retryWait
  deriving DecidableEq, Repr

/-- Why a strike is held in OFF (R33). -/
inductive Blocked where
  | none | account | thermal
  deriving DecidableEq, Repr

/-- The lamp states (R20); phase, strike blocked and pending strike stand where R20 says they are present. -/
inductive LampState where
  | off (blocked : Blocked)
  | striking (phase : Phase)
  | warming
  | lit
  | cooling (pendingStrike : Bool)
  | failed
  deriving DecidableEq, Repr

/-- The plate states (R49). -/
inductive PlateState where
  | unconfigured | absent | present | lost
  deriving DecidableEq, Repr

/-- The kinds of input a plate carries (R48). -/
inductive PlateKind where
  | digital | analog | camera | stream
  deriving DecidableEq, Repr

/-- The sequencer's states (R62). -/
inductive SwitchState where
  | dark | muting | masking | seeking | confirming | showing | noSignal
  deriving DecidableEq, Repr

/-- The requester classes (R105). -/
inductive Requester where
  | remote | lectern | campus | schedule | plate | follow
  deriving DecidableEq, Repr

/-- The origin of a switch: a class, or REVERT (R62). -/
inductive Origin where
  | by (c : Requester)
  | revert
  deriving DecidableEq, Repr

/-- The fallback setting (R63). -/
inductive Fallback where
  | hold | revert
  deriving DecidableEq, Repr

/-- The geometry modes (R88). -/
inductive GeometryMode where
  | manual | auto
  deriving DecidableEq, Repr

/-- The twelve notices (R169). -/
inductive Notice where
  | restarted | lamp | account | picture | geometry | plates | lockout | session | schedule | clock | store | link
  deriving DecidableEq, Repr

/-- A set of notice flags: the manual numbers its bits (11, ENCODINGS). -/
abbrev NoticeSet := BitVec 12

/-- The record kinds of the retained store (R177). -/
inductive Kind where
  | account | settings | schedule | presets
  deriving DecidableEq, Repr

/-- The reset causes (R183). -/
inductive Cause where
  | powerOn | resetPin | supplyDrop | restart
  deriving DecidableEq, Repr

/-- The status codes of a response (09, STATUS CODES). -/
inductive Status where
  | ok | accepted | refusedLockout | refusedState | badArgument | notFound | conflict | tableFull | sourceLost
  | lampExpired | wrongLink | unknownCommand
  deriving DecidableEq, Repr

/-- The command catalogue (09): every command a link accepts. -/
inductive Command where
  | roomRead | noticeRead | countersRead | countersClear | restart
  | sessionStart | sessionEnd | sessionExtend | lampLevel | lampRead | lampReplaced | accountSet
  | sourceSelect | pictureMute | sourceRead | plateRead
  | geometrySet | geometryTrim | presetStore | geometryRead | tiltReport | engineReport
  | overrideSet | overrideClear | lockoutRead
  | clockSet | clockRead | entryPut | entryDelete | entryRead | entryList | scheduleClear | occurrenceRead
  | settingWrite | settingRead
  deriving DecidableEq, Repr

/-- The rows of the policy table (R112). -/
inductive PolicyRow where
  | sessionStart | sessionEnd | sessionExtend | lampLevel | sourceSelect | pictureMute | geometry
  deriving DecidableEq, Repr

/-- How a command is judged (R112, R113). -/
inductive Judgement where
  | row (r : PolicyRow)
  | serviceOnly
  | everyLevel
  deriving DecidableEq, Repr

/-- The setting identifiers (11, SETTING IDENTIFIERS). -/
inductive SettingId where
  | lifeLimit | warningMargin | graceSetting | strikeCost | warmWindow
  | cooldown | warmUp | strikeWindow | retryWait | attempts
  | finalAddress | missLimit | follow
  | muteLead | maskTime | seekWindow | averaging | tolerance | stableCount | confirmFactor | fallback
  | panelWidth | panelHeight | tiltGain | tiltAveraging
  | lead | bridgeMax | walkupLength | extendStep | idleLevel | walkupLevel
  | rate (l : Link)
  | mask (l : Link)
  deriving DecidableEq, Repr

/-! ## Settings (R181) -/

/-- The thirty-seven settings. The defaults are those of 11, SETTING IDENTIFIERS. -/
structure Settings where
  lifeLimit : Nat := 3000
  warningMargin : Nat := 200
  graceSetting : Nat := 2
  strikeCost : Nat := 15
  warmWindow : Nat := 600
  cooldown : Nat := 90
  warmUp : Nat := 40
  strikeWindow : Nat := 4
  retryWait : Nat := 30
  attempts : Nat := 3
  finalAddress : Nat := 4
  missLimit : Nat := 3
  follow : Bool := true
  muteLead : Nat := 40
  maskTime : Nat := 120
  seekWindow : Nat := 2000
  averaging : Nat := 4
  tolerance : Nat := 3
  stableCount : Nat := 4
  confirmFactor : Nat := 8
  fallback : Fallback := .hold
  panelWidth : Nat := 1920
  panelHeight : Nat := 1200
  tiltGain : Nat := 16
  tiltAveraging : Nat := 4
  lead : Nat := 2
  bridgeMax : Nat := 60
  walkupLength : Nat := 90
  extendStep : Nat := 30
  idleLevel : Level := .closed
  walkupLevel : Level := .present
  engineRate : Nat := 57600
  lecternRate : Nat := 19200
  campusRate : Nat := 19200
  engineMask : NoticeSet := 0x05A
  lecternMask : NoticeSet := 0xFFF
  campusMask : NoticeSet := 0xFFF
  deriving DecidableEq, Repr

/-! ## Lamp account and lamp controller -/

/-- The retained account record (R1). -/
structure AccountRecord where
  wear : Nat := 0
  burnSeconds : Nat := 0
  ignitions : Nat := 0
  hotIgnitions : Nat := 0
  failedAttempts : Nat := 0
  outages : Nat := 0
  grace : Nat := 2
  unverified : Bool := false
  lastBurn : Nat := 0
  deriving DecidableEq, Repr

/-- The account with its working state (R1). `attempt` is the attempt in flight: `some true` is a hot one. -/
structure Account where
  record : AccountRecord := {}
  warmCount : Nat := 0
  currentBurn : Nat := 0
  attempt : Option Bool := none
  checkpoint : Nat := 0
  status : WearStatus := .good
  deriving DecidableEq, Repr

/-- The lamp controller (R20). The running timer is the one of the present state and phase; it was started at
`timerStart` and runs `timerLength` µs. -/
structure Lamp where
  state : LampState := .cooling false
  demand : Bool := false
  requested : LampLevel := .normal
  attempts : Nat := 0
  temp : TempState := .unknown
  effective : LampLevel := .eco
  timeToLight : Nat := 0
  timerStart : Nat := 0
  timerLength : Nat := 90 * 1000000
  igniteAt : Nat := 0
  litHold : Option Nat := none
  deriving DecidableEq, Repr

/-! ## Plate scanner -/

/-- One record of the plate table (R48). `signal` is `some true` for ACTIVE. -/
structure Plate where
  state : PlateState := .unconfigured
  kind : Option PlateKind := none
  signal : Option Bool := none
  syncEdge : Option SyncEdge := none
  connects : Nat := 0
  buttons : Nat := 0
  missStreak : Nat := 0
  deriving DecidableEq, Repr

/-- What the scanner is doing on the bus (R45 to R47): times in µs are ends. -/
inductive Slot where
  | stopped
  | polling (address : Nat) (frame : List Byte) (till : Nat)
  | window (address : Nat) (bytes : List Byte) (till : Nat)
  | cycleGap (till : Nat)
  deriving DecidableEq, Repr

/-- The plate scanner: the record of each address 1 … 12 in order, its bus counters (R58), the final address in force
(R59) and the slot. -/
structure Scanner where
  plates : List Plate
  badReplies : List Nat
  misses : List Nat
  finalInForce : Nat := 4
  slot : Slot := .stopped
  deriving DecidableEq, Repr

/-! ## Switch sequencer and geometry unit -/

/-- The switch record and the working state of its measurement (R62). The running timer is the one of the state; it ends
at `timerEnd`. `reference` and `routedAt` are moments in µs. -/
structure Switch where
  state : SwitchState := .dark
  routed : Nat := 0
  target : Nat := 0
  previous : Nat := 0
  origin : Option Origin := none
  lockTime : Nat := 0
  pictureMute : Bool := false
  bridgeMute : Bool := false
  edge : Option SyncEdge := none
  reference : Option Nat := none
  ring : List Nat := []
  streak : Nat := 0
  missMark : Bool := false
  timerEnd : Nat := 0
  routedAt : Nat := 0
  deriving DecidableEq, Repr

/-- The four stored fields of a geometry (R88), also one preset (R89). -/
structure Preset where
  mode : GeometryMode := .manual
  vManual : Int := 0
  h : Int := 0
  vTrim : Int := 0
  deriving DecidableEq, Repr

/-- One corner displacement in pixels (R96). -/
structure Corner where
  dx : Int := 0
  dy : Int := 0
  deriving DecidableEq, Repr

/-- The four corners (R96). -/
structure Corners where
  tl : Corner := {}
  tr : Corner := {}
  bl : Corner := {}
  br : Corner := {}
  deriving DecidableEq, Repr

/-- The geometry unit (R88, R89, R91). `average` is the tilt average of the last derivation of v_auto (R90, R92);
`tiltTimer` is the end of the tilt-silence timer, absent while it is stopped. -/
structure Geometry where
  active : Preset := {}
  average : Int := 0
  vAuto : Int := 0
  vEff : Int := 0
  tiltStale : Bool := false
  clamped : Bool := false
  requestClamp : Bool := false
  corners : Corners := {}
  ring : List Int := []
  tiltTimer : Option Nat := none
  presets : List Preset
  deriving DecidableEq, Repr

/-! ## Policy unit -/

/-- The override record (R107): minutes absent for a standing override. -/
structure Override where
  level : Level
  minutes : Option Nat
  deriving DecidableEq, Repr

/-- The policy unit (R106, R107, R110). -/
structure Policy where
  base : Level := .closed
  override : Option Override := none
  effective : Level := .closed
  deriving DecidableEq, Repr

/-! ## Room clock, schedule table, occurrence finder -/

/-- A civil date (R120). -/
structure Date where
  year : Nat
  month : Nat
  day : Nat
  deriving DecidableEq, Repr

/-- The room clock (R120). `secondStart` is the moment, in µs, the running second began; `backupLost` is what the backup
domain reports (R126). -/
structure Clock where
  date : Date := ⟨2000, 1, 1⟩
  hour : Nat := 0
  minute : Nat := 0
  second : Nat := 0
  unset : Bool := true
  secondStart : Nat := 0
  backupLost : Bool := true
  deriving DecidableEq, Repr

/-- What a booking entry asks for (R127): source plate, level, lamp level. -/
structure Terms where
  source : Nat
  level : Level
  lamp : LampLevel
  deriving DecidableEq, Repr

/-- The kinds of entry with the fields each kind uses (R127). `days` has bit 0 for Monday. -/
inductive EntryKind where
  | weekly (days : BitVec 7) (first last : Option Date) (terms : Terms)
  | dated (date : Date) (terms : Terms)
  | skip (date : Date)
  deriving DecidableEq, Repr

/-- One entry of the schedule table (R127). An absent label is the empty one (R186). -/
structure Entry where
  id : Nat
  kind : EntryKind
  start : Nat
  stop : Nat
  label : List Byte
  deriving DecidableEq, Repr

/-- One day's instance of an entry (R133). -/
structure Occurrence where
  id : Nat
  date : Date
  start : Nat
  stop : Nat
  deriving DecidableEq, Repr

/-- What the occurrence finder holds (R134). -/
structure Finder where
  current : Option Occurrence := none
  next : Option Occurrence := none
  lead : Nat := 0
  deriving DecidableEq, Repr

/-! ## Session controller -/

/-- A booked session (R139): `running` is phase RUNNING; `owed` is the owed base while source owed is set. Start and stop
are minute counts. -/
structure Booking where
  id : Nat
  date : Date
  running : Bool
  start : Nat
  stop : Nat
  label : List Byte
  owed : Option Nat
  deriving DecidableEq, Repr

/-- The use of the room with the fields of its kind (R139). -/
inductive RoomUse where
  | none
  | booked (b : Booking)
  | walkup (start stop : Nat) (warned : Bool)
  | bridge (start stop : Nat)
  deriving DecidableEq, Repr

/-- The session record (R139). -/
structure Session where
  use : RoomUse := .none
  demand : Bool := false
  requested : LampLevel := .normal
  deriving DecidableEq, Repr

/-! ## Link interfaces -/

/-- The answering side of a link (R166). -/
inductive Answering where
  | held | ready | sending
  deriving DecidableEq, Repr

/-- One link interface (R162 to R173). `collecting` is the frame being collected, absent in HUNT. -/
structure LinkState where
  collecting : Option (List Byte) := none
  lastByteAt : Nat := 0
  frames : List (List Byte) := []
  inHand : Option (List Byte) := none
  answering : Answering := .held
  response : List Byte := []
  sendEnd : Nat := 0
  badCrc : Nat := 0
  gaps : Nat := 0
  overruns : Nat := 0
  notices : NoticeSet := 1
  attention : Bool := false
  rate : Nat
  rateDue : Bool := false
  deriving DecidableEq, Repr

/-- The engine link's silence count and flag (R174): `since` is when the running count was started. -/
structure Silence where
  since : Option Nat := none
  flag : Bool := false
  deriving DecidableEq, Repr

/-! ## Retained store and supply monitor -/

/-- One preset as its record holds it (R89): the mode is a code and no field is judged before start-up loads it. -/
structure StoredPreset where
  mode : Byte
  vManual : Int
  h : Int
  vTrim : Int
  deriving DecidableEq, Repr

/-- The content of a record (R177), as figures and codes that start-up judges when it loads them (R184): the value of every
setting in the order of 11's identifiers, the fields of every entry, the fields of every preset. -/
inductive Record where
  | account (r : AccountRecord)
  | settings (values : List Nat)
  | schedule (t : List RawEntry)
  | presets (p : List StoredPreset)
  deriving DecidableEq, Repr

/-- A slot of the retained store: content with its CRC-16, or bytes whose CRC fails (R177, R185). -/
inductive StoreSlot where
  | whole (content : Record) (crc : BitVec 16)
  | bad
  deriving DecidableEq, Repr

/-- A value for each record kind. -/
structure PerKind (α : Type) where
  account : α
  settings : α
  schedule : α
  presets : α
  deriving DecidableEq, Repr

/-- The store's write in progress (R179): `retry` is the state RETRYING. -/
structure Write where
  kind : Kind
  slot : StoreSlot
  retry : Bool
  till : Nat
  deriving DecidableEq, Repr

/-- The retained store (R177 to R179): IDLE is `write = none`. -/
structure Store where
  slots : PerKind StoreSlot := ⟨.bad, .bad, .bad, .bad⟩
  faulted : PerKind Bool := ⟨false, false, false, false⟩
  foundBad : PerKind Bool := ⟨false, false, false, false⟩
  queue : List Kind := []
  write : Option Write := none
  deriving DecidableEq, Repr

/-- The supply monitor (R180, R183): the SUPPLY_SENSE input, the supply warning and the reset cause set. -/
structure Supply where
  senseLow : Bool := false
  warning : Bool := false
  powerOn : Bool := true
  resetPin : Bool := false
  supplyDrop : Bool := false
  restart : Bool := false
  deriving DecidableEq, Repr

/-- Output pins as driven, and the LIT input as last seen (11, PIN LIST). -/
structure Pins where
  lampEn : Bool := false
  ignite : Bool := false
  level : LampLevel := .eco
  fan : Bool := true
  srcSel : Nat := 0
  mute : Bool := true
  busDe : Bool := false
  lit : Bool := false
  deriving DecidableEq, Repr

/-! ## The whole state -/

/-- The state of the LH14, with the queue of waiting commands, the model's time `now` in µs (log entry 1) and the counter
`choices` that the free value of log entry 14 is applied to. -/
structure State where
  pending : List Instr
  now : Nat
  choices : Nat
  settings : Settings
  account : Account
  lamp : Lamp
  scanner : Scanner
  switch : Switch
  geometry : Geometry
  policy : Policy
  clock : Clock
  table : List Entry
  finder : Finder
  session : Session
  engine : LinkState
  lectern : LinkState
  campus : LinkState
  receiversOn : Bool
  silence : Silence
  restartArmed : Bool
  store : Store
  supply : Supply
  startUpDone : Bool
  pins : Pins
  deriving DecidableEq, Repr

/-- What carrying out a request leaves: the state, the status and the payload of the answer (R166). -/
structure Answer where
  state : State
  status : Status
  payload : List Byte
  deriving DecidableEq, Repr

/-- Why the machine stops with a fault. The LH14 has no fault: every command leaves a state (INVENTORY, Faults). -/
inductive Fault where
  deriving DecidableEq, Repr

/-- Why a command has no meaning in this model. -/
inductive Refusal where
  /-- Raised by an arm of `exec` for a row that is not modelled; no arm uses it. Safe. -/
  | notModelled (mnemonic : String)
  deriving DecidableEq, Repr

/-! ## The state after reset -/

/-- R60: the plate table after a reset when the final address is `final`. -/
def platesAfterReset (final : Nat) : List Plate :=
  (List.range 12).map fun i => { state := if i + 1 ≤ final then .absent else .unconfigured }

/-- R60: twelve counters at 0. -/
def zeroCounts : List Nat := List.replicate 12 0

/-- R60: the plate scanner after any reset, before start-up has loaded the final address (log entry 12). -/
def scannerAfterReset : Scanner :=
  { plates := platesAfterReset 4, badReplies := zeroCounts, misses := zeroCounts }

/-- R89: thirteen presets at MANUAL and zero. -/
def blankPresets : List Preset := List.replicate 13 {}

/-- R42, R87, R176: the link interfaces after a reset. -/
def linkAfterReset (rate : Nat) : LinkState := { rate := rate }

/-- The LH14 right after a POWER_ON with its clock backup lost, start-up not yet run. Where the spec gives no value the log
entries 10 to 13 name it. -/
def State.reset : State where
  pending := []
  now := 0
  choices := 0
  settings := {}
  account := {}
  lamp := {}
  scanner := scannerAfterReset
  switch := {}
  geometry := { presets := blankPresets }
  policy := {}
  clock := {}
  table := []
  finder := {}
  session := {}
  engine := linkAfterReset 57600
  lectern := linkAfterReset 19200
  campus := linkAfterReset 19200
  receiversOn := false
  silence := {}
  restartArmed := false
  store := {}
  supply := {}
  startUpDone := false
  pins := {}

end Sys2Proof.Machine
end

