-- ==== Sys2Proof/Machine/Ops.lean ====
section
/-! DEFINITION. The shared operations: bytes and CRCs, time, saturation and clamping, links and notices. -/

namespace Sys2Proof.Machine

open Sys2Proof.Config

/-! ## Bytes and CRCs -/

/-- Multi-byte fields are sent most significant byte first (11). -/
def byte (n : Nat) : Byte := BitVec.ofNat 8 n
def be16 (n : Nat) : List Byte := [byte (n / 256), byte n]
def be32 (n : Nat) : List Byte := [byte (n / 16777216), byte (n / 65536), byte (n / 256), byte n]
/-- Signed fields are two's complement (11). -/
def signedByte (i : Int) : Byte := BitVec.ofInt 8 i
def signed16 (i : Int) : List Byte := be16 (BitVec.ofInt 16 i).toNat
/-- One bit of a flags byte. -/
def bit (b : Bool) (position : Nat) : Nat := if b then 2 ^ position else 0

/-- R165: one of the eight shifts of the CRC-8 register. -/
def crc8Shift (r : Byte) : Byte := if r.msb then (r <<< 1) ^^^ 0x2F else r <<< 1
/-- R165: a byte is combined with the register, which is then shifted eight times. -/
def crc8Byte (r b : Byte) : Byte :=
  crc8Shift (crc8Shift (crc8Shift (crc8Shift (crc8Shift (crc8Shift (crc8Shift (crc8Shift (r ^^^ b))))))))
/-- R165, R43: the CRC-8 of the links and the room bus. -/
def crc8 (bytes : List Byte) : Byte := bytes.foldl crc8Byte 0xFF

/-- R177: one of the eight shifts of the CRC-16 register. -/
def crc16Shift (r : BitVec 16) : BitVec 16 := if r.msb then (r <<< 1) ^^^ 0x1021 else r <<< 1
/-- R177: a byte is combined with the register's upper eight bits. -/
def crc16Byte (r : BitVec 16) (b : Byte) : BitVec 16 :=
  let r := r ^^^ (b.setWidth 16 <<< 8)
  crc16Shift (crc16Shift (crc16Shift (crc16Shift (crc16Shift (crc16Shift (crc16Shift (crc16Shift r)))))))
/-- R177: the CRC-16 of a retained record. -/
def crc16 (bytes : List Byte) : BitVec 16 := bytes.foldl crc16Byte 0xFFFF

/-! ## Saturation, clamping, rounding (00_scope, CONVENTIONS) -/

/-- An addition that saturates at a cap. -/
def satAdd (cap a b : Nat) : Nat := min cap (a + b)
/-- A number clamped to the nearer end of a range. -/
def clampNat (lo hi v : Nat) : Nat := max lo (min hi v)
def clampInt (lo hi v : Int) : Int := max lo (min hi v)
/-- R63, R90, R161: the nearest member not below the value, and above the largest member the largest; the members rise. -/
def clampList (last : Nat) : List Nat → Nat → Nat
  | [], _ => last
  | m :: ms, v => if v ≤ m then m else clampList last ms v
/-- round-half-up of n / d for non-negative quantities. -/
def roundHalfUp (n d : Nat) : Nat := (2 * n + d) / (2 * d)
/-- round-half-away of n / d: the magnitude is rounded half up and the sign is kept. -/
def roundHalfAway (n : Int) (d : Nat) : Int :=
  if n < 0 then -(roundHalfUp n.natAbs d : Int) else (roundHalfUp n.natAbs d : Int)

/-! ## Time (log entries 1 and 2) -/

/-- A timed event happens at its due moment; time never runs back. -/
def State.reach (s : State) (due : Nat) : State := { s with now := max s.now due }
/-- A pin event happens `dt` µs after the command before it. -/
def State.elapse (s : State) (dt : Nat) : State := { s with now := s.now + dt }

/-! ## Links and notices -/

def State.link (s : State) : Link → LinkState
  | .engine => s.engine
  | .lectern => s.lectern
  | .campus => s.campus

def State.setLink (s : State) (l : Link) (x : LinkState) : State :=
  match l with
  | .engine => { s with engine := x }
  | .lectern => { s with lectern := x }
  | .campus => { s with campus := x }

/-- R170: the enable mask of a link. -/
def Settings.maskOf (v : Settings) : Link → NoticeSet
  | .engine => v.engineMask
  | .lectern => v.lecternMask
  | .campus => v.campusMask

/-- R161: the rate setting of a link. -/
def Settings.rateOf (v : Settings) : Link → Nat
  | .engine => v.engineRate
  | .lectern => v.lecternRate
  | .campus => v.campusRate

/-- 11, ENCODINGS: the bit of each notice. -/
def Notice.bit : Notice → Nat
  | .restarted => 0 | .lamp => 1 | .account => 2 | .picture => 3 | .geometry => 4 | .plates => 5
  | .lockout => 6 | .session => 7 | .schedule => 8 | .clock => 9 | .store => 10 | .link => 11

/-- The set that holds one notice. -/
def Notice.flag (n : Notice) : NoticeSet := 1#12 <<< n.bit

/-- R171: the attention line is driven low while the answering side is READY or SENDING and a pending flag is in the mask. -/
def attentionLow (a : Answering) (pending mask : NoticeSet) : Bool :=
  a != .held && (pending &&& mask) != 0

/-- R171: the line is re-evaluated at each change of the pending set, the mask and the answering side. -/
def LinkState.settle (x : LinkState) (mask : NoticeSet) : LinkState :=
  { x with attention := attentionLow x.answering x.notices mask }

/-- R169: a flag is added to one pending set; one already pending leaves it as it is. -/
def LinkState.note (x : LinkState) (n : Notice) (mask : NoticeSet) : LinkState :=
  { x with notices := x.notices ||| n.flag, attention := attentionLow x.answering (x.notices ||| n.flag) mask }

/-- R169: to raise a notice other than LINK is to add it to the pending set of each of the three links. -/
def State.raise (s : State) (n : Notice) : State :=
  { s with
    engine := s.engine.note n s.settings.engineMask
    lectern := s.lectern.note n s.settings.lecternMask
    campus := s.campus.note n s.settings.campusMask }

/-- Raise a notice when a condition holds. -/
def State.raiseIf (s : State) (c : Bool) (n : Notice) : State := if c then s.raise n else s

/-- R169, R173: LINK is added to the pending set of its own link alone. -/
def State.raiseLink (s : State) (l : Link) : State :=
  s.setLink l ((s.link l).note .link (s.settings.maskOf l))

/-- R171: the attention line of one link is re-evaluated. -/
def State.settleLine (s : State) (l : Link) : State :=
  s.setLink l ((s.link l).settle (s.settings.maskOf l))

/-- R173: the three error counters of a link. -/
inductive ErrorCounter where
  | badCrc | gap | overrun
  deriving DecidableEq, Repr

def LinkState.count (x : LinkState) : ErrorCounter → Nat
  | .badCrc => x.badCrc
  | .gap => x.gaps
  | .overrun => x.overruns

def LinkState.setCount (x : LinkState) (c : ErrorCounter) (n : Nat) : LinkState :=
  match c with
  | .badCrc => { x with badCrc := n }
  | .gap => { x with gaps := n }
  | .overrun => { x with overruns := n }

/-- R173: a counter below 255 increases by 1 and raises LINK on that link; at 255 nothing happens. -/
def State.countError (s : State) (l : Link) (c : ErrorCounter) : State :=
  if (s.link l).count c < cap8 then
    (s.setLink l ((s.link l).setCount c ((s.link l).count c + 1))).raiseLink l
  else s

/-! ## Lists of fixed length, indexed from 1 (plates) or 0 (presets) -/

/-- The element at an index, or the value given where the list has none. -/
def nth {α : Type} (xs : List α) (i : Nat) (default : α) : α := xs.getD i default
/-- The newest `n` members of a list kept oldest to newest. -/
def newest {α : Type} (n : Nat) (xs : List α) : List α := xs.drop (xs.length - n)

end Sys2Proof.Machine
end

