-- ==== Sys2Proof/Machine/Flags.lean ====
section
/-! DEFINITION. What is derived from the state and never chosen: status, permissions, levels, the MUTE causes, the ballast
outputs, the policy table. -/

namespace Sys2Proof.Machine

open Sys2Proof.Config

/-! ## Lamp account (R2, R10) -/

/-- R2: hours is floor(wear / 57,600). -/
def hoursOf (wear : Nat) : Nat := wear / wearPerHour

/-- R2: status from hours, the life limit L and the warning margin M. -/
def statusOf (hours limit margin : Nat) : WearStatus :=
  if limit ≤ hours then .expired
  else if limit ≤ margin ∨ limit - margin ≤ hours then .warn
  else .good

/-- R10: strike permission is denied when status is EXPIRED, the level is not SERVICE and no grace remains. -/
def strikePermission (status : WearStatus) (level : Level) (grace : Nat) : Bool :=
  !(status == .expired && level != .service && grace == 0)

def State.strikePermitted (s : State) : Bool :=
  strikePermission s.account.status s.policy.effective s.account.record.grace

/-- R10: the account clamp. -/
def accountClamp : WearStatus → LampLevel
  | .good => .boost
  | .warn => .normal
  | .expired => .normal

/-! ## Lamp levels (R37, R38, R39) -/

def LampLevel.rank : LampLevel → Nat
  | .eco => 0
  | .normal => 1
  | .boost => 2

/-- The lesser of two levels in the order ECO < NORMAL < BOOST. -/
def LampLevel.lesser (a b : LampLevel) : LampLevel := if a.rank ≤ b.rank then a else b

/-- R37: the thermal cap. -/
def thermalCap : TempState → LampLevel
  | .normal => .boost
  | .warm => .eco
  | .unknown => .eco
  | .hot => .eco

/-- R37: the effective level is the lowest of the requested level, the thermal cap and the account clamp. -/
def effectiveLevel (requested : LampLevel) (temp : TempState) (status : WearStatus) : LampLevel :=
  (requested.lesser (thermalCap temp)).lesser (accountClamp status)

/-- R38: the warm-up level. -/
def warmUpLevel (temp : TempState) : LampLevel := LampLevel.lesser .normal (thermalCap temp)

/-- R38: what LEVEL is driven at. -/
def levelDriven (state : LampState) (temp : TempState) (effective : LampLevel) : LampLevel :=
  if state = .lit then effective else warmUpLevel temp

/-- R20: LAMP_EN in each state. -/
def lampEnDriven : LampState → Bool
  | .striking .attempt => true
  | .warming => true
  | .lit => true
  | _ => false

/-- R20, R24: IGNITE is high in STRIKING, phase ATTEMPT, alone. -/
def igniteDriven (state : LampState) : Bool := state == .striking .attempt

/-- R39: FAN. -/
def fanDriven (state : LampState) (temp : TempState) : Bool :=
  (match state with
    | .striking _ => true
    | .warming => true
    | .lit => true
    | .cooling _ => true
    | _ => false) || temp != .normal

/-- R30, R36: the states in which a burn or a strike is under way. -/
def LampState.burning : LampState → Bool
  | .striking _ => true
  | .warming => true
  | .lit => true
  | _ => false

/-- R41, R65: the lamp states that do not mute the picture. -/
def LampState.shining (x : LampState) : Bool := x == .warming || x == .lit

/-- R40: the view of a lamp state whose change raises LAMP; a change of pending strike alone raises nothing. -/
def LampState.noticed : LampState → LampState
  | .cooling _ => .cooling false
  | x => x

/-! ## MUTE (R65) -/

/-- R65: MUTE is asserted when any of the four causes holds. -/
def muteWanted (w : Switch) (lamp : LampState) : Bool :=
  w.state != .showing || w.pictureMute || w.bridgeMute || !lamp.shining

/-! ## Policy (R105, R112, R113, R116, R168) -/

/-- R105: the class of a link. -/
def requesterOf : Link → Requester
  | .engine => .remote
  | .lectern => .lectern
  | .campus => .campus

/-- R112: the classes other than CAMPUS and SCHEDULE admitted by each cell; these two are admitted in every cell. -/
def PolicyRow.admits : PolicyRow → Level → List Requester
  | .sessionStart, .closed => [.lectern]
  | .sessionStart, .openRoom => [.lectern, .remote]
  | .sessionStart, .present => [.lectern]
  | .sessionEnd, .closed => [.lectern]
  | .sessionEnd, .openRoom => [.lectern, .remote]
  | .sessionEnd, .present => [.lectern]
  | .sessionExtend, .closed => [.lectern]
  | .sessionExtend, .openRoom => [.lectern, .remote]
  | .sessionExtend, .present => [.lectern]
  | .lampLevel, .openRoom => [.lectern, .remote]
  | .sourceSelect, .closed => [.lectern]
  | .sourceSelect, .openRoom => [.lectern, .remote, .plate, .follow]
  | .sourceSelect, .present => [.lectern, .plate, .follow]
  | .sourceSelect, .service => [.lectern]
  | .pictureMute, .closed => [.lectern]
  | .pictureMute, .openRoom => [.lectern, .remote]
  | .pictureMute, .present => [.lectern, .remote]
  | .pictureMute, .exam => [.lectern]
  | .pictureMute, .service => [.lectern]
  | .geometry, .openRoom => [.lectern, .remote]
  | .geometry, .present => [.lectern]
  | .geometry, .service => [.lectern]
  | _, _ => []

/-- R112: whether the policy table permits a class at a level. -/
def permits (row : PolicyRow) (c : Requester) (level : Level) : Bool :=
  c == .campus || c == .schedule || (row.admits level).contains c

/-- R116: SELECTABLE. -/
def selectable (level : Level) : Bool := permits .sourceSelect .plate level

/-- R112, R113: how each command is judged. TILT_REPORT and ENGINE_REPORT are not judged, which no level refuses. -/
def Command.judgement : Command → Judgement
  | .sessionStart => .row .sessionStart
  | .sessionEnd => .row .sessionEnd
  | .sessionExtend => .row .sessionExtend
  | .lampLevel => .row .lampLevel
  | .sourceSelect => .row .sourceSelect
  | .pictureMute => .row .pictureMute
  | .geometrySet => .row .geometry
  | .geometryTrim => .row .geometry
  | .presetStore => .row .geometry
  | .lampReplaced => .serviceOnly
  | .accountSet => .serviceOnly
  | .scheduleClear => .serviceOnly
  | .settingWrite => .serviceOnly
  | .restart => .serviceOnly
  | _ => .everyLevel

/-- R168: the links that accept a command. -/
def Command.acceptedOn (c : Command) (l : Link) : Bool :=
  match c with
  | .tiltReport => l == .engine
  | .engineReport => l == .engine
  | .clockSet => l == .campus
  | .entryPut => l == .campus
  | .entryDelete => l == .campus
  | .scheduleClear => l == .campus
  | .overrideSet => l == .campus
  | .overrideClear => l == .campus
  | .lampReplaced => l == .campus
  | .accountSet => l == .campus
  | .settingWrite => l == .campus
  | .restart => l == .campus
  | .countersClear => l == .campus
  | _ => true

/-- R111 step 3: whether the policy unit permits a command of a class at a level. -/
def Judgement.permits (j : Judgement) (c : Requester) (level : Level) : Bool :=
  match j with
  | .row r => Machine.permits r c level
  | .serviceOnly => level == .service
  | .everyLevel => true

/-- R111 steps 2 and 3: the refusal a command meets before its payload is looked at, if any. -/
def judge (c : Command) (l : Link) (level : Level) : Option Status :=
  if !c.acceptedOn l then some .wrongLink
  else if !c.judgement.permits (requesterOf l) level then some .refusedLockout
  else none

end Sys2Proof.Machine
end

