-- ==== Sys2Proof/Machine/Calendar.lean ====
section
/-! DEFINITION. The civil calendar of the room clock: dates, day numbers, weekdays, minute counts (R121, R122, R139). -/

namespace Sys2Proof.Machine

open Sys2Proof.Config

/-- R121: a year is a leap year when its number is divisible by 4. -/
def leapYear (y : Nat) : Bool := y % 4 == 0

/-- R121: the lengths of the twelve months of a year. -/
def monthLengths (leap : Bool) : List Nat := [31, if leap then 29 else 28, 31, 30, 31, 30, 31, 31, 30, 31, 30, 31]

/-- R121: the length of a month of a year, 0 for a number that names no month. -/
def monthLength (y m : Nat) : Nat := if m = 0 then 0 else nth (monthLengths (leapYear y)) (m - 1) 0

/-- R124: a date of the calendar, 2000-01-01 to 2099-12-31. -/
def Date.valid (d : Date) : Bool :=
  2000 ≤ d.year && d.year ≤ 2099 && 1 ≤ d.month && d.month ≤ 12 && 1 ≤ d.day && d.day ≤ monthLength d.year d.month

/-- R122: the number of days from 2000-01-01 to a date. -/
def Date.number (d : Date) : Nat :=
  let y := d.year - 2000
  365 * y + (y + 3) / 4 + ((monthLengths (leapYear d.year)).take (d.month - 1)).sum + (d.day - 1)

/-- The month and day that lie `n` days into a year with the month lengths given, counted from month `m`. -/
def monthAndDay (m : Nat) : List Nat → Nat → Nat × Nat
  | [], n => (m, n + 1)
  | len :: rest, n => if n < len then (m, n + 1) else monthAndDay (m + 1) rest (n - len)

/-- The date with a day number: the inverse of `Date.number`. A cycle of four years from 2000 has 1,461 days. -/
def dateOfNumber (n : Nat) : Date :=
  let r := n % 1461
  let yearInCycle := if r < 366 then 0 else 1 + (r - 366) / 365
  let dayInYear := if r < 366 then r else (r - 366) % 365
  let year := 2000 + 4 * (n / 1461) + yearInCycle
  let md := monthAndDay 1 (monthLengths (leapYear year)) dayInYear
  ⟨year, md.1, md.2⟩

/-- R122, 11: the weekday of a date as bit and byte number, 0 Monday through 6 Sunday. -/
def Date.weekday (d : Date) : Nat := (d.number + 5) % 7

/-- R129, R133: whether the first date lies before or on the second. -/
def Date.upTo (a b : Date) : Bool := a.number ≤ b.number

/-- R120: the minute of the day. -/
def Clock.minuteOfDay (c : Clock) : Nat := c.hour * 60 + c.minute

/-- R139: the minute count of a minute of a date. -/
def minuteCount (d : Date) (minute : Nat) : Nat := d.number * 1440 + minute

/-- R139: the present minute count. -/
def Clock.minuteCount (c : Clock) : Nat := Machine.minuteCount c.date c.minuteOfDay

/-- The clock as a count of seconds from 2000-01-01 00:00:00. -/
def Clock.seconds (c : Clock) : Nat := c.date.number * 86400 + c.hour * 3600 + c.minute * 60 + c.second

/-- R123, R126: the clock advanced by `n` seconds at once, as the backup domain advances it while the main supply is away.
Passing the end of the range goes on from 2000-01-01 and sets CLOCK_UNSET. -/
def Clock.advance (c : Clock) (n : Nat) : Clock :=
  let total := c.seconds + n
  let inRange := total % (calendarDays * 86400)
  let inDay := inRange % 86400
  { c with
    date := dateOfNumber (inRange / 86400)
    hour := inDay / 3600
    minute := inDay % 3600 / 60
    second := inDay % 60
    unset := c.unset || calendarDays * 86400 ≤ total }

/-- R121, R123: the day after a date; after 2099-12-31 comes 2000-01-01. -/
def Date.next (d : Date) : Date :=
  if d.day < monthLength d.year d.month then { d with day := d.day + 1 }
  else if d.month < 12 then ⟨d.year, d.month + 1, 1⟩
  else if d.year < 2099 then ⟨d.year + 1, 1, 1⟩
  else ⟨2000, 1, 1⟩

/-- R121: what one second does to the clock. -/
inductive Tick where
  | second | minute | wrap
  deriving DecidableEq, Repr

/-- R121, R123: what the next advance of a clock is: a second event alone, a minute event too, or the end-of-range wrap. -/
def Clock.tickKind (c : Clock) : Tick :=
  if c.second < 59 then .second
  else if c.minute = 59 ∧ c.hour = 23 ∧ c.date = ⟨2099, 12, 31⟩ then .wrap
  else .minute

/-- R121, R123: the clock advanced by one second. -/
def Clock.tick (c : Clock) : Clock :=
  if c.second < 59 then { c with second := c.second + 1 }
  else if c.minute < 59 then { c with second := 0, minute := c.minute + 1 }
  else if c.hour < 23 then { c with second := 0, minute := 0, hour := c.hour + 1 }
  else
    { c with
      second := 0, minute := 0, hour := 0, date := c.date.next
      unset := c.unset || c.date == ⟨2099, 12, 31⟩ }

end Sys2Proof.Machine
end

