-- ==== Sys2Proof/Machine/Operands.lean ====
section
/-! DEFINITION. Operand bytes read as the values they name (11, ENCODINGS; R186), and values written back as bytes. -/

namespace Sys2Proof.Machine

/-! ## Enumeration codes -/

def levelOfCode : Nat → Option Level
  | 0 => some .closed
  | 1 => some .openRoom
  | 2 => some .present
  | 3 => some .exam
  | 4 => some .service
  | _ => none

def Level.code : Level → Nat
  | .closed => 0 | .openRoom => 1 | .present => 2 | .exam => 3 | .service => 4

def lampLevelOfCode : Nat → Option LampLevel
  | 0 => some .eco
  | 1 => some .normal
  | 2 => some .boost
  | _ => none

def LampLevel.code : LampLevel → Nat
  | .eco => 0 | .normal => 1 | .boost => 2

/-- R34: the values a report carries; UNKNOWN is for reads only. -/
def reportOfCode : Nat → Option TempState
  | 0 => some .normal
  | 1 => some .warm
  | 2 => some .hot
  | _ => none

def TempState.code : TempState → Nat
  | .normal => 0 | .warm => 1 | .hot => 2 | .unknown => 3

def modeOfCode : Nat → Option GeometryMode
  | 0 => some .manual
  | 1 => some .auto
  | _ => none

def GeometryMode.code : GeometryMode → Nat
  | .manual => 0 | .auto => 1

def onOffOfCode : Nat → Option Bool
  | 0 => some false
  | 1 => some true
  | _ => none

def syncEdgeCode : SyncEdge → Nat
  | .rising => 0 | .falling => 1

def plateKindOfCode : Nat → PlateKind
  | 0 => .digital
  | 1 => .analog
  | 2 => .camera
  | _ => .stream

def PlateKind.code : PlateKind → Nat
  | .digital => 0 | .analog => 1 | .camera => 2 | .stream => 3

def PlateState.code : PlateState → Nat
  | .unconfigured => 0 | .absent => 1 | .present => 2 | .lost => 3

def SwitchState.code : SwitchState → Nat
  | .dark => 0 | .muting => 1 | .masking => 2 | .seeking => 3 | .confirming => 4 | .showing => 5 | .noSignal => 6

def Requester.code : Requester → Nat
  | .remote => 0 | .lectern => 1 | .campus => 2 | .schedule => 3 | .plate => 4 | .follow => 5

def Origin.code : Origin → Nat
  | .by c => c.code
  | .revert => 6

def Status.code : Status → Byte
  | .ok => 0x00 | .accepted => 0x01 | .refusedLockout => 0x10 | .refusedState => 0x11 | .badArgument => 0x12
  | .notFound => 0x13 | .conflict => 0x14 | .tableFull => 0x15 | .sourceLost => 0x16 | .lampExpired => 0x17
  | .wrongLink => 0x18 | .unknownCommand => 0x19

/-- 11, COMMAND CODES. -/
def Command.code : Command → Byte
  | .roomRead => 0x01 | .noticeRead => 0x02 | .countersRead => 0x03 | .countersClear => 0x04 | .restart => 0x05
  | .sessionStart => 0x10 | .sessionEnd => 0x11 | .sessionExtend => 0x12 | .lampLevel => 0x13 | .lampRead => 0x14
  | .lampReplaced => 0x15 | .accountSet => 0x16
  | .sourceSelect => 0x20 | .pictureMute => 0x21 | .sourceRead => 0x22 | .plateRead => 0x23
  | .geometrySet => 0x30 | .geometryTrim => 0x31 | .presetStore => 0x32 | .geometryRead => 0x33
  | .tiltReport => 0x38 | .engineReport => 0x39
  | .overrideSet => 0x40 | .overrideClear => 0x41 | .lockoutRead => 0x42
  | .clockSet => 0x50 | .clockRead => 0x51 | .entryPut => 0x52 | .entryDelete => 0x53 | .entryRead => 0x54
  | .entryList => 0x55 | .scheduleClear => 0x56 | .occurrenceRead => 0x57
  | .settingWrite => 0x60 | .settingRead => 0x61

/-- The catalogue of 09. -/
def allCommands : List Command :=
  [.roomRead, .noticeRead, .countersRead, .countersClear, .restart, .sessionStart, .sessionEnd, .sessionExtend, .lampLevel,
   .lampRead, .lampReplaced, .accountSet, .sourceSelect, .pictureMute, .sourceRead, .plateRead, .geometrySet, .geometryTrim,
   .presetStore, .geometryRead, .tiltReport, .engineReport, .overrideSet, .overrideClear, .lockoutRead, .clockSet, .clockRead,
   .entryPut, .entryDelete, .entryRead, .entryList, .scheduleClear, .occurrenceRead, .settingWrite, .settingRead]

/-- R167: the command a code names. -/
def commandOfCode (b : Byte) : Option Command := allCommands.find? fun c => c.code == b

/-! ## Dates and entries -/

/-- The bytes of a 16-bit field, most significant first. -/
def wordBytes (w : BitVec 16) : List Byte := [w.extractLsb' 8 8, w.extractLsb' 0 8]

/-- The bytes of a 32-bit field, most significant first. -/
def longBytes (w : BitVec 32) : List Byte :=
  [w.extractLsb' 24 8, w.extractLsb' 16 8, w.extractLsb' 8 8, w.extractLsb' 0 8]

/-- 11: the optional minutes of OVERRIDE_SET. -/
def minuteField : Option (BitVec 16) → List Byte
  | none => []
  | some m => wordBytes m

/-- A date field as it is sent. -/
def rawDateBytes (d : RawDate) : List Byte := wordBytes d.year ++ [d.month, d.day]

/-- 11, ENTRY_PUT PAYLOAD. -/
def entryPayload (e : RawEntry) : List Byte :=
  [e.id, e.kind, e.weekdays] ++ rawDateBytes e.first ++ rawDateBytes e.last ++ rawDateBytes e.date ++ wordBytes e.start
    ++ wordBytes e.stop ++ [e.source, e.level, e.lamp, byte e.label.length] ++ e.label

/-- A date as carried, taken without judging it. -/
def dateOfRaw (r : RawDate) : Date := ⟨r.year.toNat, r.month.toNat, r.day.toNat⟩

/-- R186: a date field whose year is 0 stands for an absent date. -/
def boundOfRaw (r : RawDate) : Option Date := if r.year = 0 then none else some (dateOfRaw r)

/-- R186: a date as sent; an absent one has year, month and day 0. -/
def dateBytes (d : Date) : List Byte := be16 d.year ++ [byte d.month, byte d.day]
def boundBytes : Option Date → List Byte
  | none => [0, 0, 0, 0]
  | some d => dateBytes d

/-- R127, R128: the terms of a booking entry, when both codes name a value of their encodings. -/
def termsOfRaw (e : RawEntry) : Option Terms :=
  match levelOfCode e.level.toNat, lampLevelOfCode e.lamp.toNat with
  | some level, some lamp => some ⟨e.source.toNat, level, lamp⟩
  | _, _ => none

/-- R128, R186: an entry as carried, with the fields its kind does not use stored absent; none when a code it uses names no
value. Bit 7 of the weekday set is ignored. -/
def entryOfRaw (e : RawEntry) : Option Entry :=
  match e.kind.toNat with
  | 0 => (termsOfRaw e).map fun t =>
      ⟨e.id.toNat, .weekly (e.weekdays.setWidth 7) (boundOfRaw e.first) (boundOfRaw e.last) t, e.start.toNat, e.stop.toNat,
        e.label⟩
  | 1 => (termsOfRaw e).map fun t => ⟨e.id.toNat, .dated (dateOfRaw e.date) t, e.start.toNat, e.stop.toNat, e.label⟩
  | 2 => some ⟨e.id.toNat, .skip (dateOfRaw e.date), e.start.toNat, e.stop.toNat, e.label⟩
  | _ => none

/-- A date as its fields are carried. -/
def rawOfDate (d : Date) : RawDate := ⟨BitVec.ofNat 16 d.year, byte d.month, byte d.day⟩
/-- R186: an absent date as its fields are carried. -/
def absentRaw : RawDate := ⟨0, 0, 0⟩
def rawOfBound : Option Date → RawDate
  | none => absentRaw
  | some d => rawOfDate d

/-- The fields of an entry as the SCHEDULE record holds them; fields its kind does not use are 0 there (log entry 20). -/
def Entry.raw (e : Entry) : RawEntry :=
  let blank : RawEntry :=
    ⟨byte e.id, 0, 0, absentRaw, absentRaw, absentRaw, BitVec.ofNat 16 e.start, BitVec.ofNat 16 e.stop, 0, 0, 0, e.label⟩
  let withTerms (r : RawEntry) (t : Terms) : RawEntry :=
    { r with source := byte t.source, level := byte t.level.code, lamp := byte t.lamp.code }
  match e.kind with
  | .weekly days first last t =>
    withTerms { blank with weekdays := days.setWidth 8, first := rawOfBound first, last := rawOfBound last } t
  | .dated d t => withTerms { blank with kind := 1, date := rawOfDate d } t
  | .skip d => { blank with kind := 2, date := rawOfDate d }

/-- R138: the entries that a stored record's fields name; none when a code of one names no value. -/
def entriesOfRaw : List RawEntry → Option (List Entry)
  | [] => some []
  | e :: rest =>
    match entryOfRaw e, entriesOfRaw rest with
    | some x, some xs => some (x :: xs)
    | _, _ => none

/-- The date four bytes spell. -/
def rawDateOf (y1 y0 m d : Byte) : RawDate := ⟨y1 ++ y0, m, d⟩

/-- R187: the ENTRY_PUT payload, at least 23 bytes whose length agrees with the label-length byte. -/
def rawEntryOf : List Byte → Option RawEntry
  | id :: kind :: days :: f1 :: f0 :: fm :: fd :: l1 :: l0 :: lm :: ld :: d1 :: d0 :: dm :: dd :: s1 :: s0 :: e1 :: e0 ::
      source :: level :: lamp :: len :: label =>
    if label.length = len.toNat then
      some ⟨id, kind, days, rawDateOf f1 f0 fm fd, rawDateOf l1 l0 lm ld, rawDateOf d1 d0 dm dd, s1 ++ s0, e1 ++ e0, source,
        level, lamp, label⟩
    else none
  | _ => none

/-! ## Setting identifiers (11) -/

def SettingId.code : SettingId → Byte
  | .lifeLimit => 0x01 | .warningMargin => 0x02 | .graceSetting => 0x03 | .strikeCost => 0x04 | .warmWindow => 0x05
  | .cooldown => 0x08 | .warmUp => 0x09 | .strikeWindow => 0x0A | .retryWait => 0x0B | .attempts => 0x0C
  | .finalAddress => 0x10 | .missLimit => 0x11 | .follow => 0x12
  | .muteLead => 0x18 | .maskTime => 0x19 | .seekWindow => 0x1A | .averaging => 0x1B | .tolerance => 0x1C
  | .stableCount => 0x1D | .confirmFactor => 0x1E | .fallback => 0x1F
  | .panelWidth => 0x20 | .panelHeight => 0x21 | .tiltGain => 0x22 | .tiltAveraging => 0x23
  | .lead => 0x28 | .bridgeMax => 0x29 | .walkupLength => 0x2A | .extendStep => 0x2B | .idleLevel => 0x2C
  | .walkupLevel => 0x2D
  | .rate .engine => 0x30 | .rate .lectern => 0x31 | .rate .campus => 0x32
  | .mask .engine => 0x33 | .mask .lectern => 0x34 | .mask .campus => 0x35

def allSettings : List SettingId :=
  [.lifeLimit, .warningMargin, .graceSetting, .strikeCost, .warmWindow, .cooldown, .warmUp, .strikeWindow, .retryWait,
   .attempts, .finalAddress, .missLimit, .follow, .muteLead, .maskTime, .seekWindow, .averaging, .tolerance, .stableCount,
   .confirmFactor, .fallback, .panelWidth, .panelHeight, .tiltGain, .tiltAveraging, .lead, .bridgeMax, .walkupLength,
   .extendStep, .idleLevel, .walkupLevel, .rate .engine, .rate .lectern, .rate .campus, .mask .engine, .mask .lectern,
   .mask .campus]

/-- R181: the setting an identifier names. -/
def settingOfCode (b : Byte) : Option SettingId := allSettings.find? fun i => i.code == b

/-- R181: a code beyond the last is replaced by the last. -/
def levelClamped (v : Nat) : Level := (levelOfCode v).getD .service
def fallbackClamped (v : Nat) : Fallback := if v = 0 then .hold else .revert
/-- R161: the five rates. -/
def rates : List Nat := [9600, 19200, 38400, 57600, 115200]
def rateClamped (v : Nat) : Nat := clampList 115200 rates v
/-- R63, R90: the averaging settings. -/
def averagingClamped (v : Nat) : Nat := clampList 8 [1, 2, 4, 8] v

/-- R181: a value is clamped to its setting's range and becomes the setting's value. -/
def Settings.put (s : Settings) (id : SettingId) (v : Nat) : Settings :=
  match id with
  | .lifeLimit => { s with lifeLimit := clampNat 100 30000 v }
  | .warningMargin => { s with warningMargin := clampNat 0 2000 v }
  | .graceSetting => { s with graceSetting := clampNat 0 9 v }
  | .strikeCost => { s with strikeCost := clampNat 0 60 v }
  | .warmWindow => { s with warmWindow := clampNat 0 1800 v }
  | .cooldown => { s with cooldown := clampNat 60 300 v }
  | .warmUp => { s with warmUp := clampNat 0 120 v }
  | .strikeWindow => { s with strikeWindow := clampNat 1 10 v }
  | .retryWait => { s with retryWait := clampNat 5 120 v }
  | .attempts => { s with attempts := clampNat 1 5 v }
  | .finalAddress => { s with finalAddress := clampNat 1 12 v }
  | .missLimit => { s with missLimit := clampNat 1 6 v }
  | .follow => { s with follow := v != 0 }
  | .muteLead => { s with muteLead := clampNat 0 100 v }
  | .maskTime => { s with maskTime := clampNat 10 500 v }
  | .seekWindow => { s with seekWindow := clampNat 500 5000 v }
  | .averaging => { s with averaging := averagingClamped v }
  | .tolerance => { s with tolerance := clampNat 1 16 v }
  | .stableCount => { s with stableCount := clampNat 2 8 v }
  | .confirmFactor => { s with confirmFactor := clampNat 1 127 v }
  | .fallback => { s with fallback := fallbackClamped v }
  | .panelWidth => { s with panelWidth := clampNat 640 4096 v }
  | .panelHeight => { s with panelHeight := clampNat 360 2400 v }
  | .tiltGain => { s with tiltGain := clampNat 0 32 v }
  | .tiltAveraging => { s with tiltAveraging := averagingClamped v }
  | .lead => { s with lead := clampNat 0 10 v }
  | .bridgeMax => { s with bridgeMax := clampNat 0 120 v }
  | .walkupLength => { s with walkupLength := clampNat 15 240 v }
  | .extendStep => { s with extendStep := clampNat 15 120 v }
  | .idleLevel => { s with idleLevel := levelClamped v }
  | .walkupLevel => { s with walkupLevel := levelClamped v }
  | .rate .engine => { s with engineRate := rateClamped v }
  | .rate .lectern => { s with lecternRate := rateClamped v }
  | .rate .campus => { s with campusRate := rateClamped v }
  | .mask .engine => { s with engineMask := BitVec.ofNat 12 v }
  | .mask .lectern => { s with lecternMask := BitVec.ofNat 12 v }
  | .mask .campus => { s with campusMask := BitVec.ofNat 12 v }

/-- R182: a setting's value as held, as the number its encoding gives it. -/
def Settings.get (s : Settings) : SettingId → Nat
  | .lifeLimit => s.lifeLimit
  | .warningMargin => s.warningMargin
  | .graceSetting => s.graceSetting
  | .strikeCost => s.strikeCost
  | .warmWindow => s.warmWindow
  | .cooldown => s.cooldown
  | .warmUp => s.warmUp
  | .strikeWindow => s.strikeWindow
  | .retryWait => s.retryWait
  | .attempts => s.attempts
  | .finalAddress => s.finalAddress
  | .missLimit => s.missLimit
  | .follow => if s.follow then 1 else 0
  | .muteLead => s.muteLead
  | .maskTime => s.maskTime
  | .seekWindow => s.seekWindow
  | .averaging => s.averaging
  | .tolerance => s.tolerance
  | .stableCount => s.stableCount
  | .confirmFactor => s.confirmFactor
  | .fallback => if s.fallback = .hold then 0 else 1
  | .panelWidth => s.panelWidth
  | .panelHeight => s.panelHeight
  | .tiltGain => s.tiltGain
  | .tiltAveraging => s.tiltAveraging
  | .lead => s.lead
  | .bridgeMax => s.bridgeMax
  | .walkupLength => s.walkupLength
  | .extendStep => s.extendStep
  | .idleLevel => s.idleLevel.code
  | .walkupLevel => s.walkupLevel.code
  | .rate l => s.rateOf l
  | .mask l => (s.maskOf l).toNat

/-- The value of every setting, in the order of 11's identifiers. -/
def Settings.values (s : Settings) : List Nat := allSettings.map s.get

/-- R184: the settings that the values of a loaded record give, each clamped as a write is clamped. -/
def settingsOf (values : List Nat) : Settings :=
  (allSettings.zip values).foldl (fun v p => v.put p.1 p.2) {}

end Sys2Proof.Machine
end

