-- ==== Sys2Proof/Machine/Store.lean ====
section
/-! DEFINITION. The retained store: record bytes and their CRC-16, the write queue, the writing of slots (R177 to R180,
R185). -/

namespace Sys2Proof.Machine

open Sys2Proof.Config

/-! ## Record bytes (log entry 20: the order of the bytes is the model's; no controller sees it) -/

def accountBytes (r : AccountRecord) : List Byte :=
  be32 r.wear ++ be32 r.burnSeconds ++ be16 r.ignitions ++ be16 r.hotIgnitions ++ be16 r.failedAttempts ++ be16 r.outages
    ++ [byte r.grace, byte (bit r.unverified 0)] ++ be32 r.lastBurn

def presetBytes (p : StoredPreset) : List Byte := [p.mode, signedByte p.vManual, signedByte p.h, signedByte p.vTrim]

def Record.bytes : Record → List Byte
  | .account r => accountBytes r
  | .settings values => values.flatMap be32
  | .schedule t => byte t.length :: t.flatMap entryPayload
  | .presets p => p.flatMap presetBytes

/-- R89, R100: a preset as its record holds it. -/
def Preset.stored (p : Preset) : StoredPreset := ⟨byte p.mode.code, p.vManual, p.h, p.vTrim⟩

/-- R177: a slot ends with a CRC-16 over every byte of the record before it. -/
def Record.sealed (r : Record) : StoreSlot := .whole r (crc16 r.bytes)

/-- R177: a record is good when its stored CRC equals the CRC computed over its bytes. -/
def StoreSlot.good : StoreSlot → Option Record
  | .whole r crc => if crc = crc16 r.bytes then some r else none
  | .bad => none

/-! ## Kinds -/

def PerKind.get {α : Type} (p : PerKind α) : Kind → α
  | .account => p.account
  | .settings => p.settings
  | .schedule => p.schedule
  | .presets => p.presets

def PerKind.set {α : Type} (p : PerKind α) (k : Kind) (x : α) : PerKind α :=
  match k with
  | .account => { p with account := x }
  | .settings => { p with settings := x }
  | .schedule => { p with schedule := x }
  | .presets => { p with presets := x }

/-- R177: the duration of a write, µs. -/
def writeDuration : Kind → Nat
  | .account => 25 * millisecond
  | .settings => 40 * millisecond
  | .presets => 60 * millisecond
  | .schedule => 200 * millisecond

/-- R177: the content a kind's owner holds now. -/
def State.recordOf (s : State) : Kind → Record
  | .account => .account s.account.record
  | .settings => .settings s.settings.values
  | .schedule => .schedule (s.table.map Entry.raw)
  | .presets => .presets (s.geometry.presets.map Preset.stored)

/-! ## The queue and the write -/

/-- R179, R184: once start-up has completed, a store in IDLE with a non-empty queue removes the head kind and begins its
write with the owner's content as it stands now. -/
def State.startWrite (s : State) : State :=
  if s.startUpDone && s.store.write.isNone then
    match s.store.queue with
    | [] => s
    | k :: rest =>
      { s with
        store := { s.store with
          queue := rest
          write := some ⟨k, (s.recordOf k).sealed, false, s.now + writeDuration k⟩ } }
  else s

/-- R178: a kind not in the queue is added at its tail. -/
def enqueue (q : List Kind) (k : Kind) : List Kind := if q.contains k then q else q ++ [k]

/-- R178, R179: an owner queues its kind; an idle store begins at once. -/
def State.queueKind (s : State) (k : Kind) : State :=
  { s with store := { s.store with queue := enqueue s.store.queue k } }.startWrite

/-- R180: ACCOUNT is moved to the head of the queue, or inserted there. -/
def accountFirst (q : List Kind) : List Kind := .account :: q.filter (· != .account)

/-- R180: the supply warning is set: ACCOUNT goes to the head, the checkpoint count becomes 0, an idle store begins. -/
def State.warnSupply (s : State) : State :=
  { s with
    supply := { s.supply with warning := true }
    account := { s.account with checkpoint := 0 }
    store := { s.store with queue := accountFirst s.store.queue } }.startWrite

/-- R185: the slot as a cut or a completed write leaves it. The previous content is what the slot holds as this write begins; in
RETRYING that is what the first write left there, bad content included (log entry 36, DESIGN CHOICE). -/
def slotAfter (left : SlotLeft) (previous new : StoreSlot) : StoreSlot :=
  match left with
  | .previous => previous
  | .new => new
  | .bad => .bad

/-- R185: a reset cuts the write in flight and loses the queue; faulted is clear after any reset (R177). What "its previous
content" is in RETRYING: log entry 36, DESIGN CHOICE. -/
def Store.afterReset (x : Store) (cut : SlotLeft) : Store :=
  { slots :=
      match x.write with
      | none => x.slots
      | some w => x.slots.set w.kind (slotAfter cut (x.slots.get w.kind) w.slot) }

/-- R179: the write-completion event. The slot is read back and compared with the content taken. -/
def State.completeWrite (s : State) (readBack : SlotLeft) : State :=
  match s.store.write with
  | none => s
  | some w =>
    let s := s.reach w.till
    let found := slotAfter readBack (s.store.slots.get w.kind) w.slot
    let store := { s.store with slots := s.store.slots.set w.kind found }
    if found = w.slot then
      { s with
        store := { store with
          faulted := store.faulted.set w.kind false
          foundBad := store.foundBad.set w.kind false
          write := none } }.startWrite
    else if w.retry then
      ({ s with store := { store with faulted := store.faulted.set w.kind true, write := none } }.raise .store).startWrite
    else { s with store := { store with write := some { w with retry := true, till := s.now + writeDuration w.kind } } }

/-- R179: WRITE_COMPLETE. -/
def execWriteComplete (readBack : SlotLeft) (s : State) : Host.Outcome State Fault Refusal :=
  .next (s.completeWrite readBack)

/-- R180: SUPPLY_WARNING. SUPPLY_SENSE falls below the threshold; the warning is watched from the end of start-up. -/
def execSupplyWarning (s : State) : Host.Outcome State Fault Refusal :=
  let fallen := { s with supply := { s.supply with senseLow := true } }
  .next (if s.startUpDone && !s.supply.warning then fallen.warnSupply else fallen)

/-- R180: SUPPLY_RECOVER. SUPPLY_SENSE rises to the threshold or above; the warning is cleared and nothing else changes. -/
def execSupplyRecover (s : State) : Host.Outcome State Fault Refusal :=
  .next { s with supply := { s.supply with senseLow := false, warning := false } }

end Sys2Proof.Machine
end

