-- ==== Sys2Proof/Machine/Account.lean ====
section
/-! DEFINITION. The lamp account: charges, counters, status, grace, checkpoints (R1 to R19). What the lamp controller does
with a change of the account stands in Lamp.lean. -/

namespace Sys2Proof.Machine

open Sys2Proof.Config

/-- R2: the status the held wear and settings give now. -/
def State.statusNow (s : State) : WearStatus :=
  statusOf (hoursOf s.account.record.wear) s.settings.lifeLimit s.settings.warningMargin

/-- R2: status is derived again; a derivation that differs from the status before raises ACCOUNT. -/
def State.deriveStatus (s : State) : State :=
  if s.statusNow = s.account.status then s
  else { s with account := { s.account with status := s.statusNow } }.raise .account

/-- R4: a charge is an addition to wear that saturates at the cap. -/
def Account.charge (a : Account) (units : Nat) : Account :=
  { a with record := { a.record with wear := satAdd wearCap a.record.wear units } }

/-- R5: S = strike cost × 960. -/
def strikeUnits (cost : Nat) : Nat := cost * 960

/-- R5: an attempt is hot when the warm count is less than the warm window. -/
def attemptHot (warmCount window : Nat) : Bool := warmCount < window

/-- R5: the charge of an attempt, 2S when hot and S when cold. -/
def strikeCharge (cost : Nat) (hot : Bool) : Nat := if hot then 2 * strikeUnits cost else strikeUnits cost

/-- R5: the account at the assertion of IGNITE. -/
def State.chargeStrike (s : State) : State :=
  let hot := attemptHot s.account.warmCount s.settings.warmWindow
  { s with
    account := { s.account.charge (strikeCharge s.settings.strikeCost hot) with
      attempt := some hot
      currentBurn := 0 } }.deriveStatus

/-- R3: the weight of a second, 0 in the states that charge nothing. -/
def secondWeight (state : LampState) (level : LampLevel) : Nat :=
  match state, level with
  | .warming, _ => 16
  | .lit, .eco => 10
  | .lit, .normal => 16
  | .lit, .boost => 22
  | _, _ => 0

/-- R3, R4, R15: a charged second adds its weight to wear and 1 to burn seconds, current burn and the checkpoint count. -/
def Account.chargeSecond (a : Account) (weight : Nat) : Account :=
  { a with
    record := { a.record with
      wear := satAdd wearCap a.record.wear weight
      burnSeconds := satAdd cap32 a.record.burnSeconds 1 }
    currentBurn := satAdd cap32 a.currentBurn 1
    checkpoint := a.checkpoint + 1 }

/-- R15: the checkpoint of a burning lamp, taken when the count reaches 360. -/
def State.checkpointIfDue (s : State) : State :=
  if checkpointEvery ≤ s.account.checkpoint then
    { s with account := { s.account with checkpoint := 0 } }.queueKind .account
  else s

/-- R6: each second event adds 1 to the warm count, which stops at 1,800. -/
def State.countWarm (s : State) : State :=
  { s with account := { s.account with warmCount := satAdd warmCap s.account.warmCount 1 } }

/-- R8, R6, R7, R15: the account at the end of a burn. Current burn is latched, the warm count and the checkpoint count
become 0, an attempt in flight is abandoned, and an outage is counted. -/
def Account.endBurn (a : Account) (outage : Bool) : Account :=
  { a with
    record := { a.record with
      lastBurn := a.currentBurn
      outages := if outage then satAdd cap16 a.record.outages 1 else a.record.outages }
    warmCount := 0
    attempt := none
    checkpoint := 0 }

/-- R8, R15: the end of a burn is a checkpoint. -/
def State.endBurn (s : State) (outage : Bool) : State :=
  { s with account := s.account.endBurn outage }.queueKind .account

/-- R7: a failed attempt is counted; nothing is refunded. -/
def State.countFailed (s : State) : State :=
  { s with
    account := { s.account with
      record := { s.account.record with failedAttempts := satAdd cap16 s.account.record.failedAttempts 1 }
      attempt := none } }

/-- R9: whether an ignition consumes a grace strike. -/
def State.graceDue (s : State) : Bool :=
  s.account.status == .expired && s.policy.effective != .service && 0 < s.account.record.grace

/-- R7: an ignition is counted, and a hot one as hot; the attempt in flight becomes none. -/
def Account.ignited (a : Account) : Account :=
  { a with
    record := { a.record with
      ignitions := satAdd cap16 a.record.ignitions 1
      hotIgnitions := if a.attempt = some true then satAdd cap16 a.record.hotIgnitions 1 else a.record.hotIgnitions }
    attempt := none }

/-- R9: a grace strike is consumed when one is due, which raises ACCOUNT. -/
def State.consumeGrace (s : State) : State :=
  if s.graceDue then
    { s with account := { s.account with record := { s.account.record with grace := s.account.record.grace - 1 } } }.raise
      .account
  else s

/-- R7, R9: the account at an ignition. -/
def State.countIgnition (s : State) : State := { s with account := s.account.ignited }.consumeGrace

/-- R12: the account record of a new lamp. -/
def freshRecord (grace : Nat) : AccountRecord := { grace := grace }

/-- R18: the blank account of a start-up that finds the record bad. -/
def blankRecord (grace : Nat) : AccountRecord := { grace := grace, unverified := true }

/-- R17, R18: the account as start-up begins it: the record loaded or blank, the working state anew. The warm count goes on
from the reset, and no notice is raised for the loaded status. -/
def State.loadAccount (s : State) (r : AccountRecord) : State :=
  { s with
    account :=
      { record := r
        warmCount := s.account.warmCount
        status := statusOf (hoursOf r.wear) s.settings.lifeLimit s.settings.warningMargin } }

/-- R184: a wear above the cap is taken as the cap, and grace above 9 as 9. -/
def clampRecord (r : AccountRecord) : AccountRecord := { r with wear := min wearCap r.wear, grace := min 9 r.grace }

end Sys2Proof.Machine
end

