-- ==== Sys2Proof/Machine/Lamp.lean ====
section
/-! DEFINITION. The lamp controller: the gate, attempts, burns, cooldown, held strikes, temperature, and the outputs it
drives (R20 to R42), with the MUTE output it bears on (R65). -/

namespace Sys2Proof.Machine

open Sys2Proof.Config

/-! ## Outputs -/

/-- R65, R66: MUTE is re-evaluated; a change of the output raises PICTURE. -/
def State.settleMute (s : State) : State :=
  let wanted := muteWanted s.switch s.lamp.state
  if s.pins.mute = wanted then s else { s with pins := { s.pins with mute := wanted } }.raise .picture

/-- R37: the effective level is derived again. -/
def State.deriveLevel (s : State) : State :=
  { s with lamp := { s.lamp with effective := effectiveLevel s.lamp.requested s.lamp.temp s.account.status } }

/-- R20, R38, R39: the ballast outputs follow the lamp state, the temperature state and the effective level. -/
def State.driveBallast (s : State) : State :=
  { s with
    pins := { s.pins with
      lampEn := lampEnDriven s.lamp.state
      ignite := igniteDriven s.lamp.state
      level := levelDriven s.lamp.state s.lamp.temp s.lamp.effective
      fan := fanDriven s.lamp.state s.lamp.temp } }

/-- R40: whether LAMP is raised for the change from one lamp to another. -/
def lampNoticed (old new : Lamp) : Bool :=
  old.state.noticed != new.state.noticed || old.temp != new.temp || old.effective != new.effective

/-- R37 to R41: after any change of the lamp controller or of an input of its levels: the effective level and the outputs
are derived again, LAMP is raised when R40 says so, and the state is handed to the switch sequencer. -/
def State.settleLamp (s : State) (old : Lamp) : State :=
  let s := s.deriveLevel.driveBallast
  (s.raiseIf (lampNoticed old s.lamp) .lamp).settleMute

/-! ## The strike gate and attempts -/

/-- R23: the strike gate. -/
def State.gatePasses (s : State) : Bool := s.lamp.temp != .hot && s.strikePermitted

/-- R33: the first failing condition of the gate. -/
def State.blockCause (s : State) : Blocked := if s.lamp.temp = .hot then .thermal else .account

/-- R24: an attempt starts. -/
def State.startAttempt (s : State) (first : Bool) : State :=
  let lamp :=
    { s.lamp with
      state := .striking .attempt
      attempts := if first then 1 else s.lamp.attempts + 1
      timeToLight := 0
      timerStart := s.now
      timerLength := s.settings.strikeWindow * second
      igniteAt := s.now
      litHold := if s.pins.lit then some s.now else none }
  ({ s with lamp := lamp }.chargeStrike).settleLamp s.lamp

/-- R27, R33: the strike is held in OFF for the cause named; ACCOUNT is raised with LAMP when the cause is ACCOUNT. -/
def State.holdStrike (s : State) (cause : Blocked) : State :=
  let held := { s with lamp := { s.lamp with state := .off cause, litHold := none } }.settleLamp s.lamp
  held.raiseIf (cause == .account) .account

/-- R22, R32, R33: a first attempt, or a strike held in OFF. -/
def State.strikeOrHold (s : State) : State :=
  if s.gatePasses then s.startAttempt true else s.holdStrike s.blockCause

/-- R33: a strike held with strike blocked checks the gate again; a failure for the same cause raises nothing. -/
def State.recheckStrike (s : State) : State :=
  match s.lamp.state with
  | .off .none => s
  | .off b => if s.gatePasses then s.startAttempt true else if s.blockCause = b then s else s.holdStrike s.blockCause
  | _ => s

/-- R10, R33: a change of status, grace remaining or UNVERIFIED since `old` is handed to the lamp controller: the level
follows the clamp, and a held strike is checked again. -/
def State.handAccount (s : State) (old : Account) : State :=
  if old.status = s.account.status ∧ old.record.grace = s.account.record.grace
      ∧ old.record.unverified = s.account.record.unverified then s
  else (s.settleLamp s.lamp).recheckStrike

/-! ## Burns and cooldown -/

/-- R30, R31, R32, R36: LAMP_EN low, COOLING with the cooldown loaded, pending strike as demand stands, the end of the burn
reported to the account. -/
def State.extinguish (s : State) (outage : Bool) : State :=
  let lamp :=
    { s.lamp with
      state := .cooling s.lamp.demand
      timerStart := s.now
      timerLength := s.settings.cooldown * second
      litHold := none }
  ({ s with lamp := lamp }.endBurn outage).settleLamp s.lamp

/-- R22: the lamp controller takes a change of demand. A setting to the value already held is no event. -/
def State.setDemand (s : State) (on : Bool) : State :=
  if s.lamp.demand = on then s
  else
    let t := { s with lamp := { s.lamp with demand := on } }
    match s.lamp.state, on with
    | .off _, true => t.strikeOrHold
    | .off _, false => { t with lamp := { t.lamp with state := .off .none } }.settleLamp t.lamp
    | .cooling _, _ => { t with lamp := { t.lamp with state := .cooling on } }.settleLamp t.lamp
    | .failed, false => { t with lamp := { t.lamp with state := .off .none, attempts := 0 } }.settleLamp t.lamp
    | .failed, true => t
    | _, true => t
    | _, false => t.extinguish false

/-- R22, R37: a change of requested level is taken in every state. -/
def State.setRequested (s : State) (level : LampLevel) : State :=
  if s.lamp.requested = level then s
  else { s with lamp := { s.lamp with requested := level } }.settleLamp s.lamp

/-! ## Temperature -/

/-- R34, R35, R36: the temperature state becomes `t`; HOT ends every burn and strike, and a held strike is checked again. -/
def State.setTemp (s : State) (t : TempState) : State :=
  if s.lamp.temp = t then s
  else
    let u := { s with lamp := { s.lamp with temp := t } }.settleLamp s.lamp
    if t = .hot && u.lamp.state.burning then u.extinguish false else u.recheckStrike

/-! ## Timed events of the lamp -/

/-- The end of the lamp's running timer. -/
def Lamp.timerEnd (x : Lamp) : Nat := x.timerStart + x.timerLength

/-- R26: the strike window ends without LIT. -/
def State.strikeWindowEnds (s : State) : State :=
  match s.lamp.state with
  | .striking .attempt =>
    let s := s.reach s.lamp.timerEnd
    let t := s.countFailed
    if s.lamp.attempts < s.settings.attempts then
      { t with
        lamp := { t.lamp with
          state := .striking .retryWait
          timerStart := s.now
          timerLength := s.settings.retryWait * second
          litHold := none } }.settleLamp s.lamp
    else { t with lamp := { t.lamp with state := .failed, litHold := none } }.settleLamp s.lamp
  | _ => s

/-- R27: the retry wait ends: the next attempt, or the series ends with the strike held. -/
def State.retryWaitEnds (s : State) : State :=
  match s.lamp.state with
  | .striking .retryWait =>
    let s := s.reach s.lamp.timerEnd
    if s.gatePasses then s.startAttempt false else s.holdStrike s.blockCause
  | _ => s

/-- R29: warm-up ends. -/
def State.warmUpEnds (s : State) : State :=
  match s.lamp.state with
  | .warming =>
    let s := s.reach s.lamp.timerEnd
    { s with lamp := { s.lamp with state := .lit } }.settleLamp s.lamp
  | _ => s

/-- R32: the cooldown ends in OFF; a pending strike is taken through the gate. The cooldown of a reset is known once
start-up has loaded its setting (R42). -/
def State.cooldownEnds (s : State) : State :=
  match s.lamp.state, s.startUpDone with
  | .cooling pendingStrike, true =>
    let s := s.reach s.lamp.timerEnd
    let t := { s with lamp := { s.lamp with state := .off .none } }.settleLamp s.lamp
    if pendingStrike then t.strikeOrHold else t
  | _, _ => s

/-- R25: time-to-light, in 20 ms units rounded down, saturating at 255. -/
def timeToLightOf (igniteAt rise : Nat) : Nat := min cap8 ((rise - igniteAt) / lightUnit)

/-- R25: LIT confirmed. It counts only while the strike window has not ended before the 100 ms are over. -/
def State.litConfirms (s : State) : State :=
  match s.lamp.state, s.lamp.litHold with
  | .striking .attempt, some rise =>
    if rise + litHold ≤ s.lamp.timerEnd then
      let s := s.reach (rise + litHold)
      let t := s.countIgnition
      let lamp :=
        { t.lamp with
          state := if s.settings.warmUp = 0 then .lit else .warming
          timeToLight := timeToLightOf s.lamp.igniteAt rise
          timerStart := s.now
          timerLength := s.settings.warmUp * second
          litHold := none }
      { t with lamp := lamp }.settleLamp s.lamp
    else s
  | _, _ => s

/-- R31: an outage, LIT held low for 100 ms in WARMING or LIT. -/
def State.outageFalls (s : State) : State :=
  match s.lamp.litHold with
  | some fall => if s.lamp.state.shining then (s.reach (fall + litHold)).extinguish true else s
  | none => s

/-- R25, R31: a change of the LIT input. It is watched in STRIKING phase ATTEMPT, in WARMING and in LIT: a rise in ATTEMPT
and a fall in WARMING or LIT start the 100 ms, the opposite change abandons them. -/
def State.litChanges (s : State) (high : Bool) : State :=
  if s.pins.lit = high then s
  else
    let t := { s with pins := { s.pins with lit := high } }
    let hold (c : Bool) := { t with lamp := { t.lamp with litHold := if c then some s.now else none } }
    match s.lamp.state with
    | .striking .attempt => hold high
    | .warming => hold (!high)
    | .lit => hold (!high)
    | _ => t

/-! ## The second event at the account (R3, R6) -/

/-- R3, R15: a second taken in WARMING or LIT is charged; the status it gives is handed over, and the checkpoint follows. -/
def State.chargeSecond (s : State) : State :=
  if s.lamp.state.shining then
    (({ s with account := s.account.chargeSecond (secondWeight s.lamp.state s.pins.level) }.deriveStatus).handAccount
      s.account).checkpointIfDue
  else s

end Sys2Proof.Machine
end

