-- ==== Sys2Proof/Machine/Geometry.lean ====
section
/-! DEFINITION. The geometry unit: tilt averaging, the corner arithmetic, presets (R88 to R104). -/

namespace Sys2Proof.Machine

open Sys2Proof.Config

/-! ## Derived figures -/

/-- R92: round-half-away of the mean of the newest reports; an empty ring gives 0. -/
def tiltAverage (ring : List Int) (n : Nat) : Int :=
  let used := newest n ring
  if used.length = 0 then 0 else roundHalfAway used.sum used.length

/-- R92: v_auto from the tilt average and the gain. -/
def vAutoOf (average : Int) (gain : Nat) : Int := roundHalfAway (average * gain) 160

/-- R94: the vertical correction in force. -/
def vEffOf (p : Preset) (vAuto : Int) : Int :=
  match p.mode with
  | .manual => p.vManual
  | .auto => clampInt (-40) 40 (vAuto + p.vTrim)

/-- R94: whether the vertical clamp is in force. -/
def verticalClamp (p : Preset) (vAuto : Int) : Bool :=
  p.mode == .auto && (vAuto + p.vTrim < -40 || 40 < vAuto + p.vTrim)

/-- R96: the four corners from v_eff, h and the panel size. -/
def cornersOf (vEff h : Int) (width height : Nat) : Corners :=
  let a : Int := roundHalfUp (width * vEff.natAbs) 256
  let b : Int := roundHalfUp (height * h.natAbs) 256
  { tl := ⟨if 0 < vEff then a else 0, if h < 0 then b else 0⟩
    tr := ⟨if 0 < vEff then -a else 0, if 0 < h then b else 0⟩
    bl := ⟨if vEff < 0 then a else 0, if h < 0 then -b else 0⟩
    br := ⟨if vEff < 0 then -a else 0, if 0 < h then -b else 0⟩ }

/-- R94, R95, R96: v_eff, CLAMPED and the corners are derived again. -/
def Geometry.derive (g : Geometry) (width height : Nat) : Geometry :=
  { g with
    vEff := vEffOf g.active g.vAuto
    clamped := g.requestClamp || verticalClamp g.active g.vAuto
    corners := cornersOf (vEffOf g.active g.vAuto) g.active.h width height }

/-- R97: whether GEOMETRY is raised for the change from one geometry to another. -/
def geometryNoticed (old new : Geometry) : Bool :=
  old.corners != new.corners || old.tiltStale != new.tiltStale || old.clamped != new.clamped

/-- R97: the geometry unit takes new stored or measured figures; the derived ones follow within the same event. -/
def State.putGeometry (s : State) (g : Geometry) : State :=
  let g := g.derive s.settings.panelWidth s.settings.panelHeight
  { s with geometry := g }.raiseIf (geometryNoticed s.geometry g) .geometry

/-- R90, R92: the tilt average and v_auto are derived from the ring under the gain and the averaging in force; neither
setting is read at any other moment. -/
def Geometry.deriveTilt (g : Geometry) (n gain : Nat) : Geometry :=
  { g with average := tiltAverage g.ring n, vAuto := vAutoOf (tiltAverage g.ring n) gain }

/-! ## Stored fields and presets -/

/-- R88: the four stored fields cut to their ranges. -/
def Preset.clamp (p : Preset) : Preset :=
  { mode := p.mode, vManual := clampInt (-40) 40 p.vManual, h := clampInt (-30) 30 p.h, vTrim := clampInt (-10) 10 p.vTrim }

/-- R95, R98, R99: new stored fields are taken as clamped; the request clamp is set when any was clamped. -/
def State.putStored (s : State) (asked kept : Preset) : State :=
  s.putGeometry { s.geometry with active := kept, requestClamp := kept != asked }

/-- R99: the fields a trim asks for before they are clamped. -/
def Preset.nudge (p : Preset) (dv dh : Int) : Preset :=
  match p.mode with
  | .manual => { p with vManual := p.vManual + dv, h := p.h + dh }
  | .auto => { p with vTrim := p.vTrim + dv, h := p.h + dh }

/-- R99: the two fields a trim moves, cut to their ranges; the field the mode does not use is left as it stands. -/
def Preset.clampMoved (p : Preset) : Preset :=
  match p.mode with
  | .manual => { p with vManual := clampInt (-40) 40 p.vManual, h := clampInt (-30) 30 p.h }
  | .auto => { p with vTrim := clampInt (-10) 10 p.vTrim, h := clampInt (-30) 30 p.h }

/-- R101: the preset of a plate is installed. -/
def State.installPreset (s : State) (plate : Nat) : State :=
  s.putGeometry { s.geometry with active := nth s.geometry.presets plate {}, requestClamp := false }

/-- R98, R103: the four stored fields as they are sent. -/
def storedBytes (p : Preset) : List Byte := presetBytes p.stored

/-- R89: a loaded preset as it is taken: a mode code other than MANUAL or AUTO as MANUAL, each figure clamped to its range. -/
def StoredPreset.taken (p : StoredPreset) : Preset :=
  (⟨(modeOfCode p.mode.toNat).getD .manual, p.vManual, p.h, p.vTrim⟩ : Preset).clamp

/-! ## Requests of the geometry unit -/

/-- R98: GEOMETRY_SET. -/
def ownGeometrySet (mode v h trim : Byte) (s : State) : Answer :=
  match modeOfCode mode.toNat with
  | none => ⟨s, .badArgument, []⟩
  | some m =>
    let asked : Preset := ⟨m, v.toInt, h.toInt, trim.toInt⟩
    let t := s.putStored asked asked.clamp
    ⟨t, .ok, storedBytes t.geometry.active⟩

/-- R99: GEOMETRY_TRIM. -/
def ownGeometryTrim (dv dh : Byte) (s : State) : Answer :=
  let asked := s.geometry.active.nudge dv.toInt dh.toInt
  let t := s.putStored asked asked.clampMoved
  ⟨t, .ok, storedBytes t.geometry.active⟩

/-- R100: PRESET_STORE. -/
def ownPresetStore (s : State) : Answer :=
  let g := { s.geometry with presets := s.geometry.presets.set s.switch.routed s.geometry.active }
  ⟨{ s with geometry := g }.queueKind .presets, .ok, []⟩

/-- R91: TILT_REPORT. The ring holds the eight newest reports. -/
def ownTiltReport (tilt : BitVec 16) (s : State) : Answer :=
  let ring := newest 8 (s.geometry.ring ++ [clampInt (-900) 900 tilt.toInt])
  let g := { s.geometry with ring := ring, tiltTimer := some (s.now + staleTime), tiltStale := false }
  ⟨s.putGeometry (g.deriveTilt s.settings.tiltAveraging s.settings.tiltGain), .ok, []⟩

/-- R90: a write of G or N_t derives v_auto again at once, unless TILT_STALE is set; then the new figure is first used at the
next tilt report. -/
def State.tiltSettingWritten (s : State) : State :=
  if s.geometry.tiltStale then s
  else s.putGeometry (s.geometry.deriveTilt s.settings.tiltAveraging s.settings.tiltGain)

/-- R90, R97: a write of W or H computes the corners again at once. -/
def State.panelWritten (s : State) : State := s.putGeometry s.geometry

/-- R93: the tilt-silence timer expires: TILT_STALE is set, GEOMETRY raised, v_auto held. -/
def State.tiltGoesSilent (s : State) : State :=
  match s.geometry.tiltTimer with
  | none => s
  | some till =>
    let s := s.reach till
    { s with geometry := { s.geometry with tiltStale := true, tiltTimer := none } }.raise .geometry

/-- R93: TILT_SILENCE_EXPIRY. -/
def execTiltSilenceExpiry (s : State) : Host.Outcome State Fault Refusal := .next s.tiltGoesSilent

end Sys2Proof.Machine
end

