-- ==== Sys2Proof/Machine/Switch.lean ====
section
/-! DEFINITION. The switch sequencer: the routing action, requests, the VSYNC measurement, fallback and sync watch
(R62 to R87). -/

namespace Sys2Proof.Machine

open Sys2Proof.Config

/-! ## What the sequencer reads of the plate table (R57) -/

/-- The record of plate 1 … 12. -/
def State.plate (s : State) (n : Nat) : Plate := nth s.scanner.plates (n - 1) {}

/-- R57: a plate is available for routing when it is plate 0, or a plate 1 … 12 in PRESENT. -/
def State.available (s : State) (n : Nat) : Bool :=
  n == 0 || (n ≤ 12 && (s.plate n).state == .present)

/-! ## The measurement (R75 to R79, R83) -/

/-- R77: the mean of the newest N intervals, rounded down; an empty ring has none and is reported as 0. -/
def ringAverage (ring : List Nat) (n : Nat) : Nat := (newest n ring).sum / (newest n ring).length

def State.average (s : State) : Nat := ringAverage s.switch.ring s.settings.averaging

/-- R76: the range of a valid interval. -/
def intervalValid (i : Nat) : Bool := 8000 ≤ i && i ≤ 50000

/-- R78: whether an interval is in step with an average. -/
def inStep (i avg tolerance : Nat) : Bool := (max i avg - min i avg) * 256 ≤ avg * tolerance

/-- R77: the ring holds the 8 newest intervals. -/
def pushInterval (ring : List Nat) (i : Nat) : List Nat := newest 8 (ring ++ [i])

/-- R79: the confirm delay, µs. -/
def confirmDelay (avg factor : Nat) : Nat := avg * factor / 128

/-- R83: the length of the sync watch, µs. -/
def syncWatch (avg : Nat) : Nat := 4 * avg

/-! ## Routing (R64) -/

/-- R64: the routing action to plate `t`: SRCSEL is driven, the preset installed, the measurement cleared, MASKING entered. -/
def State.routingAction (s : State) (t : Nat) : State :=
  let w :=
    { s.switch with
      state := .masking
      routed := t
      target := t
      lockTime := 0
      reference := none
      ring := []
      streak := 0
      missMark := false
      timerEnd := s.now + s.settings.maskTime * millisecond
      routedAt := s.now }
  ({ s with switch := w, pins := { s.pins with srcSel := t } }.installPreset t).settleMute

/-- R74: SEEKING is entered; `reference` is the edge kept at a sync loss made at an edge. -/
def State.enterSeeking (s : State) (reference : Option Nat) : State :=
  { s with
    switch := { s.switch with
      state := .seeking
      edge := (s.plate s.switch.routed).syncEdge
      ring := []
      streak := 0
      missMark := false
      reference := reference
      timerEnd := s.now + s.settings.seekWindow * millisecond } }.settleMute

/-- R66: a settled state is entered: PICTURE is raised, whether or not MUTE changes. -/
def State.enterSettled (s : State) (x : SwitchState) : State :=
  ({ s with switch := { s.switch with state := x } }.raise .picture).settleMute

/-! ## Requests (R68 to R72) -/

/-- R72: MUTING is entered from SHOWING; with a mute lead of 0 the routing action follows within the same request. The
measurement stops: the ring is emptied and the streak set to 0 here, as the first row of 04's worked example shows them, where
the rules clear them at the routing action (log entry 35, DEDUCED). -/
def State.enterMuting (s : State) : State :=
  let t :=
    { s with
      switch := { s.switch with
        state := .muting
        ring := []
        streak := 0
        missMark := false
        timerEnd := s.now + s.settings.muteLead * millisecond } }.settleMute
  if s.settings.muteLead = 0 then t.routingAction t.switch.target else t

/-- R62: the settled states. -/
def SwitchState.settled : SwitchState → Bool
  | .dark => true
  | .showing => true
  | .noSignal => true
  | _ => false

/-- R69: a request in a settled state. -/
def State.requestSettled (s : State) (t : Nat) (c : Requester) : State × Status :=
  let taken := { s with switch := { s.switch with target := t, origin := some (.by c) } }
  if t = s.switch.routed then
    if s.switch.state = .noSignal then
      ({ s with switch := { s.switch with origin := some (.by c) } }.enterSeeking none, .accepted)
    else (s, .ok)
  else if s.switch.state = .showing && !s.pins.mute then (taken.enterMuting, .accepted)
  else (taken.routingAction t, .accepted)

/-- R70: a request in a state in transit. -/
def State.requestInTransit (s : State) (t : Nat) (c : Requester) : State × Status :=
  let taken := { s with switch := { s.switch with target := t, origin := some (.by c) } }
  if c = .follow && s.switch.origin != some (.by .follow) then (s, .ok)
  else if t = s.switch.target then (s, .ok)
  else if s.switch.state = .muting then (taken, .accepted)
  else (taken.routingAction t, .accepted)

/-- R68: a permitted SOURCE_SELECT for plate `t` of class `c`. -/
def State.requestSwitch (s : State) (t : Nat) (c : Requester) : State × Status :=
  if 12 < t then (s, .badArgument)
  else if !s.available t then (s, .sourceLost)
  else if s.switch.state.settled then s.requestSettled t c
  else s.requestInTransit t c

/-- R68: SOURCE_SELECT from a link. -/
def ownSourceSelect (l : Link) (plate : Byte) (s : State) : Answer :=
  let r := s.requestSwitch plate.toNat (requesterOf l)
  ⟨r.1, r.2, []⟩

/-- R67: PICTURE_MUTE. -/
def ownPictureMute (onOff : Byte) (s : State) : Answer :=
  match onOffOfCode onOff.toNat with
  | none => ⟨s, .badArgument, []⟩
  | some on => ⟨{ s with switch := { s.switch with pictureMute := on } }.settleMute, .ok, []⟩

/-- R65: the session controller hands over bridge mute. -/
def State.setBridgeMute (s : State) (on : Bool) : State :=
  { s with switch := { s.switch with bridgeMute := on } }.settleMute

/-! ## VSYNC (R75 to R79, R84) -/

/-- R79: the stable edge: the confirm delay is computed and CONFIRMING entered. -/
def State.becomeStable (s : State) : State :=
  { s with
    switch := { s.switch with
      state := .confirming
      timerEnd := s.now + confirmDelay s.average s.settings.confirmFactor } }.settleMute

/-- R76, R78, R79: an interval in SEEKING or NO_SIGNAL. -/
def State.judgeSeeking (s : State) (i : Nat) : State :=
  let keep (ring : List Nat) (streak : Nat) := { s with switch := { s.switch with ring := ring, streak := streak } }
  if !intervalValid i then keep [] 0
  else if s.switch.ring = [] then keep [i] 1
  else if inStep i s.average s.settings.tolerance then
    let t := keep (pushInterval s.switch.ring i) (s.switch.streak + 1)
    if s.settings.stableCount ≤ t.switch.streak then t.becomeStable else t
  else keep [i] 1

/-- R83: the sync watch is started again, counted from the reference edge. -/
def State.restartWatch (s : State) (edge : Nat) : State :=
  { s with switch := { s.switch with timerEnd := edge + syncWatch s.average } }

/-- R66, R83, R84: a sync loss: SEEKING is entered and PICTURE raised, even where another cause holds MUTE. -/
def State.loseSync (s : State) (reference : Option Nat) : State := (s.enterSeeking reference).raise .picture

/-- R84: an interval in SHOWING. -/
def State.judgeShowing (s : State) (i : Nat) : State :=
  if intervalValid i && inStep i s.average s.settings.tolerance then
    { s with switch := { s.switch with ring := pushInterval s.switch.ring i, missMark := false } }.restartWatch s.now
  else if s.switch.missMark then s.loseSync (some s.now)
  else { s with switch := { s.switch with missMark := true } }.restartWatch s.now

/-- R75: the states in which VSYNC is timed. -/
def SwitchState.timed : SwitchState → Bool
  | .seeking => true
  | .noSignal => true
  | .showing => true
  | _ => false

/-- R75: a VSYNC edge of the polarity in use, in a state that times VSYNC. The first becomes the reference; each later one
forms an interval, which stops at 65,535 µs. -/
def State.takeEdge (s : State) : State :=
  let t := { s with switch := { s.switch with reference := some s.now } }
  match s.switch.reference with
  | none => if s.switch.state = .showing then t.restartWatch s.now else t
  | some r =>
    let i := min cap16 (s.now - r)
    if s.switch.state = .showing then t.judgeShowing i else t.judgeSeeking i

/-- R75: a VSYNC edge; in every other state, and of the other polarity, it is ignored. -/
def State.vsync (s : State) (e : SyncEdge) : State :=
  if s.switch.state.timed && s.switch.edge == some e then s.takeEdge else s

/-! ## The sequencer's timers (R72, R73, R80 to R83) -/

/-- R72: the mute lead ends. -/
def State.muteLeadEnds (s : State) : State :=
  match s.switch.state with
  | .muting => (s.reach s.switch.timerEnd).routingAction s.switch.target
  | _ => s

/-- R73: the mask time ends. -/
def State.maskEnds (s : State) : State :=
  match s.switch.state with
  | .masking =>
    let s := s.reach s.switch.timerEnd
    if s.switch.routed = 0 then s.enterSettled .dark else s.enterSeeking none
  | _ => s

/-- R81: the conditions of a revert. -/
def State.revertPossible (s : State) : Bool :=
  s.settings.fallback == .revert && s.switch.origin != some .revert && s.switch.previous != 0
    && (s.plate s.switch.previous).state == .present && s.switch.previous != s.switch.routed

/-- R81: the seek window ends without stable VSYNC. -/
def State.seekEnds (s : State) : State :=
  match s.switch.state with
  | .seeking =>
    let s := s.reach s.switch.timerEnd
    if s.revertPossible then
      { s with switch := { s.switch with target := s.switch.previous, origin := some .revert } }.routingAction
        s.switch.previous
    else s.enterSettled .noSignal
  | _ => s

/-- R80: the confirm delay ends. -/
def State.confirmEnds (s : State) : State :=
  match s.switch.state with
  | .confirming =>
    let s := s.reach s.switch.timerEnd
    { s with
      switch := { s.switch with
        previous := s.switch.routed
        lockTime := min cap16 ((s.now - s.switch.routedAt) / millisecond)
        missMark := false
        timerEnd := s.switch.reference.getD s.now + syncWatch s.average } }.enterSettled .showing
  | _ => s

/-- R83: the sync watch expires. -/
def State.watchEnds (s : State) : State :=
  match s.switch.state with
  | .showing => (s.reach s.switch.timerEnd).loseSync none
  | _ => s

/-! ## The commands of the picture family -/

/-- R75: VSYNC_EDGE, `dt` µs after the command before it (log entry 3). -/
def execVsyncEdge (edge : SyncEdge) (dt : Nat) (s : State) : Host.Outcome State Fault Refusal :=
  .next ((s.elapse dt).vsync edge)

/-- R72: MUTE_LEAD_EXPIRY. -/
def execMuteLeadExpiry (s : State) : Host.Outcome State Fault Refusal := .next s.muteLeadEnds

/-- R73: MASK_EXPIRY. -/
def execMaskExpiry (s : State) : Host.Outcome State Fault Refusal := .next s.maskEnds

/-- R81: SEEK_WINDOW_EXPIRY. -/
def execSeekWindowExpiry (s : State) : Host.Outcome State Fault Refusal := .next s.seekEnds

/-- R80: CONFIRM_DELAY_EXPIRY. -/
def execConfirmDelayExpiry (s : State) : Host.Outcome State Fault Refusal := .next s.confirmEnds

/-- R83: SYNC_WATCH_EXPIRY. -/
def execSyncWatchExpiry (s : State) : Host.Outcome State Fault Refusal := .next s.watchEnds

end Sys2Proof.Machine
end

