-- ==== Sys2Proof/Machine/Policy.lean ====
section
/-! DEFINITION. The policy unit: base level, override record, effective level (R105 to R119). -/

namespace Sys2Proof.Machine

open Sys2Proof.Config

/-- R110: the override's level when a record is present, the base level otherwise. -/
def Policy.derived (p : Policy) : Level :=
  match p.override with
  | some o => o.level
  | none => p.base

/-- R110: the effective level is derived again. A change raises LOCKOUT (but at start-up's first evaluation, R119, which is
`quiet`) and is handed to the lamp controller, which checks a held strike again. -/
def State.deriveEffective (s : State) (quiet : Bool) : State :=
  if s.policy.derived = s.policy.effective then s
  else
    ({ s with policy := { s.policy with effective := s.policy.derived } }.raiseIf (!quiet) .lockout).recheckStrike

/-- R106, R110: the session controller hands over the base level. -/
def State.setBase (s : State) (level : Level) (quiet : Bool) : State :=
  { s with policy := { s.policy with base := level } }.deriveEffective quiet

/-- R107, R108, R109: the override record becomes `o`, or is removed. -/
def State.setOverride (s : State) (o : Option Override) : State :=
  { s with policy := { s.policy with override := o } }.deriveEffective false

/-- R109: the override record after a minute event. A count that reaches 0 removes the record. -/
def overrideCounted : Option Override → Option Override
  | some ⟨level, some m⟩ => if m ≤ 1 then none else some ⟨level, some (m - 1)⟩
  | o => o

/-- R109: a minute event counts a timed override down. -/
def State.countOverride (s : State) : State := s.setOverride (overrideCounted s.policy.override)

/-- 11, LOCKOUT_READ ANSWER: offsets 2 to 5, the override record. -/
def overrideBytes : Option Override → List Byte
  | none => [0, 0xFF, 0, 0]
  | some o => [1, byte o.level.code] ++ be16 (o.minutes.getD 0)

/-- R107: the minutes field is refused when it is 0 or above 1,440. -/
def minutesRefused : Option (BitVec 16) → Bool
  | none => false
  | some m => m.toNat == 0 || 1440 < m.toNat

/-- R107: OVERRIDE_SET. -/
def ownOverrideSet (level : Byte) (minutes : Option (BitVec 16)) (s : State) : Answer :=
  match levelOfCode level.toNat with
  | none => ⟨s, .badArgument, []⟩
  | some v =>
    if minutesRefused minutes then ⟨s, .badArgument, []⟩
    else
      let t := s.setOverride (some ⟨v, minutes.map BitVec.toNat⟩)
      ⟨t, .ok, byte t.policy.effective.code :: overrideBytes t.policy.override⟩

/-- R108: OVERRIDE_CLEAR. -/
def ownOverrideClear (s : State) : Answer :=
  let t := s.setOverride none
  ⟨t, .ok, [byte t.policy.effective.code]⟩

/-- R34: ENGINE_REPORT. -/
def ownEngineReport (temperature : Byte) (s : State) : Answer :=
  match reportOfCode temperature.toNat with
  | none => ⟨s, .badArgument, []⟩
  | some t => ⟨s.setTemp t, .ok, []⟩

/-- R12, R13: the lamp states in which the service operations are carried out. -/
def LampState.serviceable : LampState → Bool
  | .off _ => true
  | .cooling _ => true
  | _ => false

/-- R12, R13: a service operation puts a record in place. Status is derived again; ACCOUNT is raised when status, grace
remaining or UNVERIFIED changed; the record is queued and the checkpoint count becomes 0; the change is handed to the lamp
controller. -/
def State.serviceAccount (s : State) (a : Account) : State :=
  let t := { s with account := { a with checkpoint := 0 } }.deriveStatus
  let u :=
    t.raiseIf (s.account.record.grace != a.record.grace || s.account.record.unverified != a.record.unverified) .account
  (u.queueKind .account).handAccount s.account

/-- R12: LAMP_REPLACED. -/
def ownLampReplaced (s : State) : Answer :=
  if s.lamp.state.serviceable then
    ⟨s.serviceAccount { s.account with record := freshRecord s.settings.graceSetting, warmCount := warmCap }, .ok, []⟩
  else ⟨s, .refusedState, []⟩

/-- R13: ACCOUNT_SET. -/
def ownAccountSet (hours : BitVec 16) (s : State) : Answer :=
  if s.lamp.state.serviceable then
    ⟨s.serviceAccount
      { s.account with record := { s.account.record with wear := hours.toNat * wearPerHour, unverified := false } }, .ok, []⟩
  else ⟨s, .refusedState, []⟩

end Sys2Proof.Machine
end

