-- ==== Sys2Proof/Machine/Plates.lean ====
section
/-! DEFINITION. The plate scanner and the room bus: polls, replies, misses, the cycle boundary (R43 to R61). -/

namespace Sys2Proof.Machine

open Sys2Proof.Config

/-! ## The plate table -/

def State.setPlate (s : State) (n : Nat) (p : Plate) : State :=
  { s with scanner := { s.scanner with plates := s.scanner.plates.set (n - 1) p } }

/-- R58: a bus counter saturates at 255. -/
def bumpAt (counts : List Nat) (n : Nat) : List Nat := counts.set (n - 1) (satAdd cap8 (nth counts (n - 1) 0) 1)

/-- R54, R55: a PRESENT plate whose streak is at or above the limit becomes LOST. -/
def Plate.judged (p : Plate) (limit : Nat) : Plate :=
  if p.state = .present ∧ limit ≤ p.missStreak then { p with state := .lost } else p

/-- R54: a failed slot adds 1 to the miss streak, which saturates at 7, and may make the plate LOST. -/
def Plate.failed (p : Plate) (limit : Nat) : Plate := { p with missStreak := satAdd 7 p.missStreak 1 }.judged limit

/-- R55: the miss limit is written: every PRESENT plate is judged again. -/
def State.missLimitWritten (s : State) : State :=
  let plates := s.scanner.plates.map (·.judged s.settings.missLimit)
  { s with scanner := { s.scanner with plates := plates } }.raiseIf (plates != s.scanner.plates) .plates

/-- R56: one record at a cycle start, at address `n` with the final address `final`. -/
def Plate.configured (p : Plate) (n final : Nat) : Plate :=
  if final < n then
    if p.state = .unconfigured then p else { p with state := .unconfigured, missStreak := 0 }
  else if p.state = .unconfigured then { p with state := .absent, missStreak := 0 }
  else p

/-- R56: the records brought into line with the final address, the first at address `n`. -/
def configurePlates (final : Nat) : Nat → List Plate → List Plate
  | _, [] => []
  | n, p :: rest => p.configured n final :: configurePlates final (n + 1) rest

/-! ## Polls and slots -/

/-- R46: ON_AIR. -/
def State.onAir (s : State) (address : Nat) : Bool := s.switch.routed == address && s.switch.state == .showing

/-- R46, 11: the POLL frame. -/
def State.pollFrame (s : State) (address : Nat) : List Byte :=
  let body := [byte address, byte (bit (s.onAir address) 0 + bit (selectable s.policy.effective) 1)]
  body ++ [crc8 body]

/-- R43, R46: a POLL begins; BUS_DE is high while it is sent. -/
def State.startPoll (s : State) (address : Nat) : State :=
  { s with
    scanner := { s.scanner with slot := .polling address (s.pollFrame address) (s.now + pollTime) }
    pins := { s.pins with busDe := true } }

/-- R45, R56: a cycle starts: the final address is read, the records follow it, the first POLL begins. -/
def State.startCycle (s : State) : State :=
  let final := s.settings.finalAddress
  let plates := configurePlates final 1 s.scanner.plates
  (({ s with scanner := { s.scanner with plates := plates, finalInForce := final } }).raiseIf
    (plates != s.scanner.plates) .plates).startPoll 1

/-- R45: the slot of an address has ended: the next address is polled, or the cycle gap begins. -/
def State.endSlot (s : State) (address : Nat) : State :=
  if address < s.scanner.finalInForce then s.startPoll (address + 1)
  else { s with scanner := { s.scanner with slot := .cycleGap (s.now + cycleGap) } }

/-- R54: a slot's outcome is a miss or a bad reply. -/
def State.slotFails (s : State) (address : Nat) (bad : Bool) : State :=
  let p := (s.plate address).failed s.settings.missLimit
  let x :=
    if bad then { s.scanner with badReplies := bumpAt s.scanner.badReplies address }
    else { s.scanner with misses := bumpAt s.scanner.misses address }
  ((({ s with scanner := x }).setPlate address p).raiseIf (p.state != (s.plate address).state) .plates).endSlot address

/-! ## Good replies -/

/-- The fields of a REPLY (11, ROOM-BUS FRAMES). -/
structure Reply where
  kind : PlateKind
  signal : Bool
  edge : SyncEdge
  connects : Nat
  buttons : Nat
  deriving DecidableEq, Repr

/-- 11: bits 1 … 0 kind, bit 2 signal, bit 3 sync edge; bits 7 … 4 ignored. -/
def replyOf (flags connects buttons : Byte) : Reply :=
  { kind := plateKindOfCode (flags.toNat % 4)
    signal := flags.getLsbD 2
    edge := if flags.getLsbD 3 then .falling else .rising
    connects := connects.toNat
    buttons := buttons.toNat }

/-- R50, R51: the record after a good reply. -/
def Reply.record (r : Reply) : Plate :=
  { state := .present
    kind := some r.kind
    signal := some r.signal
    syncEdge := some r.edge
    connects := r.connects
    buttons := r.buttons
    missStreak := 0 }

/-- R50, R51: whether a good reply raises PLATES. -/
def platesNoticed (old new : Plate) : Bool :=
  old.state != new.state || old.kind != new.kind || old.signal != new.signal

/-- R50, R51: the class of the request a good reply makes, if any; a plate not PRESENT before it makes none. -/
def Reply.request (r : Reply) (old : Plate) (follow : Bool) : Option Requester :=
  if old.state != .present then none
  else if old.buttons != r.buttons then some .plate
  else if old.connects != r.connects && r.signal && follow then some .follow
  else none

/-- R52: a request of the plate scanner, judged by the policy unit and passed to the sequencer or dropped. -/
def State.plateRequest (s : State) (address : Nat) (c : Requester) : State :=
  if permits .sourceSelect c s.policy.effective then (s.requestSwitch address c).1 else s

/-- R50, R51: a good reply is taken: the record, then the request it makes, then the end of the slot. -/
def State.goodReply (s : State) (address : Nat) (r : Reply) : State :=
  let old := s.plate address
  let t := (s.setPlate address r.record).raiseIf (platesNoticed old r.record) .plates
  let u :=
    match r.request old s.settings.follow with
    | some c => t.plateRequest address c
    | none => t
  u.endSlot address

/-- R47: a complete group of five bytes in the window of an address is judged. -/
def State.judgeReply (s : State) (address till : Nat) (bytes : List Byte) : State :=
  match bytes with
  | [from', flags, connects, buttons, crc] =>
    if crc8 [from', flags, connects, buttons] != crc then s.slotFails address true
    else if from'.toNat = address then s.goodReply address (replyOf flags connects buttons)
    else { s with scanner := { s.scanner with slot := .window address [] till } }
  | _ => { s with scanner := { s.scanner with slot := .window address bytes till } }

/-! ## The commands of the room bus -/

/-- R43, R47: the last stop bit of a POLL is sent: BUS_DE goes low and the reply window opens. -/
def State.pollEnds (s : State) : State :=
  match s.scanner.slot with
  | .polling address _ till =>
    let s := s.reach till
    { s with
      scanner := { s.scanner with slot := .window address [] (s.now + replyWindow) }
      pins := { s.pins with busDe := false } }
  | _ => s

/-- R43, R47: a room-bus byte; outside a reply window it is discarded. -/
def State.busByte (s : State) (b : Byte) : State :=
  match s.scanner.slot with
  | .window address bytes till => s.judgeReply address till (bytes ++ [b])
  | _ => s

/-- R47, R54: the reply window expires: a miss. -/
def State.windowEnds (s : State) : State :=
  match s.scanner.slot with
  | .window address _ till => (s.reach till).slotFails address false
  | _ => s

/-- R45: the cycle gap expires. -/
def State.cycleGapEnds (s : State) : State :=
  match s.scanner.slot with
  | .cycleGap till => (s.reach till).startCycle
  | _ => s

/-- R47: POLL_SENT. -/
def execPollSent (s : State) : Host.Outcome State Fault Refusal := .next s.pollEnds

/-- R47: BUS_BYTE_RECEIVED. -/
def execBusByteReceived (b : Byte) (s : State) : Host.Outcome State Fault Refusal := .next (s.busByte b)

/-- R54: REPLY_WINDOW_EXPIRY. -/
def execReplyWindowExpiry (s : State) : Host.Outcome State Fault Refusal := .next s.windowEnds

/-- R45: CYCLE_GAP_EXPIRY. -/
def execCycleGapExpiry (s : State) : Host.Outcome State Fault Refusal := .next s.cycleGapEnds

end Sys2Proof.Machine
end

