-- ==== Sys2Proof/Machine/Schedule.lean ====
section
/-! DEFINITION. The schedule table and the occurrence finder (R127 to R138). -/

namespace Sys2Proof.Machine

open Sys2Proof.Config

/-! ## Entries -/

/-- R127: the terms of a booking entry. -/
def Entry.terms (e : Entry) : Option Terms :=
  match e.kind with
  | .weekly _ _ _ t => some t
  | .dated _ t => some t
  | .skip _ => none

/-- R128: the checks on the source plate, the level and the lamp level. -/
def Terms.valid (t : Terms) : Bool :=
  t.source ≤ 12 && (t.level == .openRoom || t.level == .present || t.level == .exam)

/-- R128: an absent bound is taken; one present is a date. -/
def boundValid : Option Date → Bool
  | none => true
  | some d => d.valid

/-- R128: a WEEKLY entry with both bounds has its first date not later than its last. -/
def boundsOrdered : Option Date → Option Date → Bool
  | some a, some b => a.upTo b
  | _, _ => true

/-- R128: the checks on the fields the kind uses. -/
def EntryKind.valid : EntryKind → Bool
  | .weekly days first last t =>
    days != 0 && boundValid first && boundValid last && boundsOrdered first last && t.valid
  | .dated d t => d.valid && t.valid
  | .skip d => d.valid

/-- R128: the checks on an entry. -/
def Entry.valid (e : Entry) : Bool :=
  1 ≤ e.id && e.id ≤ 250 && e.kind.valid && e.start ≤ 1435 && 5 ≤ e.stop && e.stop ≤ 1440 && e.start + 5 ≤ e.stop
    && e.label.length ≤ 16 && e.label.all fun c => 0x20 ≤ c.toNat && c.toNat ≤ 0x7E

/-- R129: the intervals intersect: each starts before the other ends. -/
def intervalsMeet (s1 e1 s2 e2 : Nat) : Bool := s1 < e2 && s2 < e1

/-- R129: the date ranges of two WEEKLY entries intersect, an absent bound counting as unbounded. -/
def rangesMeet (first1 last1 first2 last2 : Option Date) : Bool :=
  boundsOrdered first1 last2 && boundsOrdered first2 last1

/-- R129: the condition on kinds and dates. -/
def EntryKind.conflicts : EntryKind → EntryKind → Bool
  | .weekly d1 f1 l1 _, .weekly d2 f2 l2 _ => (d1 &&& d2) != 0 && rangesMeet f1 l1 f2 l2
  | .weekly _ _ _ _, _ => false
  | _, .weekly _ _ _ _ => false
  | .dated a _, .dated b _ => a == b
  | .dated a _, .skip b => a == b
  | .skip a, .dated b _ => a == b
  | .skip a, .skip b => a == b

/-- R129: two entries conflict. -/
def Entry.conflicts (a b : Entry) : Bool :=
  intervalsMeet a.start a.stop b.start b.stop && a.kind.conflicts b.kind

/-- R130: an entry put into a table kept in ascending id order, replacing one with the same id. -/
def insertEntry (e : Entry) : List Entry → List Entry
  | [] => [e]
  | x :: rest =>
    if e.id < x.id then e :: x :: rest
    else if e.id = x.id then e :: rest
    else x :: insertEntry e rest

/-- R130: the entries of the table, other than one with the same id, that an entry conflicts with. -/
def conflictsWith (table : List Entry) (e : Entry) : List Entry :=
  table.filter fun x => x.id != e.id && e.conflicts x

/-- R132: the entry with an id. -/
def entryOf (table : List Entry) (id : Nat) : Option Entry := table.find? fun e => e.id == id

/-- R138: the checks a stored table passes before it is taken, but for its size: each entry valid, ids distinct, no two
entries in conflict. -/
def entriesGood : List Entry → Bool
  | [] => true
  | e :: rest => e.valid && rest.all (fun x => e.id != x.id && !e.conflicts x) && entriesGood rest

/-- R138: the checks a stored table passes before it is taken. -/
def tableTaken (t : List Entry) : Bool := entriesGood t && t.length ≤ tableSize

/-- R130: the table is kept in ascending id order. -/
def inIdOrder (t : List Entry) : List Entry := t.foldl (fun acc e => insertEntry e acc) []

/-- R138: the table a stored record gives, when every entry of it passes R128 and the whole passes the table's checks. -/
def tableOfStored (t : List RawEntry) : Option (List Entry) :=
  match entriesOfRaw t with
  | some entries => if tableTaken entries then some (inIdOrder entries) else none
  | none => none

/-! ## Occurrences -/

/-- R133: whether a DATED or SKIP entry is on a date. -/
def Entry.onDate (e : Entry) (d : Date) : Bool :=
  match e.kind with
  | .dated x _ => x == d
  | .skip x => x == d
  | .weekly _ _ _ _ => false

/-- R129: a date lies within a date range. -/
def inRange (first last : Option Date) (d : Date) : Bool := boundsOrdered first (some d) && boundsOrdered (some d) last

/-- R133: whether an entry of the table occurs on a date. -/
def Entry.occursOn (e : Entry) (table : List Entry) (d : Date) : Bool :=
  match e.kind with
  | .dated x _ => x == d
  | .skip _ => false
  | .weekly days first last _ =>
    days.getLsbD d.weekday && inRange first last d
      && !table.any fun x => x.onDate d && intervalsMeet e.start e.stop x.start x.stop

/-- R133: the occurrences of a day. -/
def occurrencesOn (table : List Entry) (d : Date) : List Occurrence :=
  (table.filter fun e => e.occursOn table d).map fun e => ⟨e.id, d, e.start, e.stop⟩

/-- The occurrence of a list with the earliest start. -/
def earliest : List Occurrence → Option Occurrence
  | [] => none
  | o :: rest =>
    match earliest rest with
    | none => some o
    | some p => if p.start < o.start then some p else some o

/-- R134: the current occurrence. -/
def currentOf (table : List Entry) (c : Clock) : Option Occurrence :=
  (occurrencesOn table c.date).find? fun o => o.start ≤ c.minuteOfDay && c.minuteOfDay < o.stop

/-- R134: the first occurrence of the days from day number `n` on, over `days` days; days beyond 2099-12-31 are not
searched. -/
def laterOf (table : List Entry) : Nat → Nat → Option Occurrence
  | 0, _ => none
  | days + 1, n =>
    if n < calendarDays then
      match earliest (occurrencesOn table (dateOfNumber n)) with
      | some o => some o
      | none => laterOf table days (n + 1)
    else none

/-- R134: the next occurrence: in the rest of today, or in the 7 days that follow. -/
def nextOf (table : List Entry) (c : Clock) : Option Occurrence :=
  match earliest ((occurrencesOn table c.date).filter fun o => c.minuteOfDay < o.start) with
  | some o => some o
  | none => laterOf table 7 (c.date.number + 1)

/-- R134: the lead time. -/
def leadTo (c : Clock) (o : Occurrence) : Nat := (o.date.number - c.date.number) * 1440 + o.start - c.minuteOfDay

/-- R134: what the finder finds; while CLOCK_UNSET is set it treats the table as empty. -/
def found (table : List Entry) (c : Clock) : Finder :=
  if c.unset then {}
  else
    let next := nextOf table c
    { current := currentOf table c
      next := next
      lead := match next with
        | some o => leadTo c o
        | none => 0 }

/-- R135: the finder recomputes; a change of either item raises SCHEDULE, but at the end of start-up (R138). -/
def State.recompute (s : State) (quiet : Bool) : State :=
  let f := found s.table s.clock
  { s with finder := f }.raiseIf (!quiet && (f.current != s.finder.current || f.next != s.finder.next)) .schedule

/-- R139: the start of the next occurrence as a minute count. -/
def Finder.nextStart (f : Finder) : Option Nat := f.next.map fun o => minuteCount o.date o.start

/-- A bound lowered to an optional one. -/
def leastWith (a : Nat) : Option Nat → Nat
  | none => a
  | some b => min a b

end Sys2Proof.Machine
end

