-- ==== Sys2Proof/Machine/Sessions.lean ====
section
/-! DEFINITION. The session controller: the runner, bridging, walk-ups and the session requests (R139 to R160), with the
commands that make runner events (R124, R130, R131). -/

namespace Sys2Proof.Machine

open Sys2Proof.Config

/-! ## Derived from the record -/

/-- R139: bridge mute. -/
def RoomUse.bridgeMute : RoomUse → Bool
  | .bridge _ _ => true
  | .booked b => !b.running
  | _ => false

/-- R106: the level field of a session's entry. The entry is in the table while its session is RUNNING; for want of one the
idle level is given (log entry 29). -/
def entryLevel (table : List Entry) (id : Nat) (idle : Level) : Level :=
  match (entryOf table id).bind Entry.terms with
  | some t => t.level
  | none => idle

/-- R106: the base level the session calls for. -/
def State.baseLevel (s : State) : Level :=
  match s.session.use with
  | .none => s.settings.idleLevel
  | .booked b => if b.running then entryLevel s.table b.id s.settings.idleLevel else s.settings.idleLevel
  | .walkup _ _ _ => s.settings.walkupLevel
  | .bridge _ _ => s.settings.idleLevel

/-- R146: the source plate of a session's entry, 0 for an entry that names none. -/
def entrySource (table : List Entry) (id : Nat) : Nat :=
  match (entryOf table id).bind Entry.terms with
  | some t => t.source
  | none => 0

/-- R145: the lamp level of an occurrence's entry. -/
def entryLamp (table : List Entry) (id : Nat) : LampLevel :=
  match (entryOf table id).bind Entry.terms with
  | some t => t.lamp
  | none => .normal

/-- The label of an entry, empty for none. -/
def entryLabel (table : List Entry) (id : Nat) : List Byte :=
  match entryOf table id with
  | some e => e.label
  | none => []

/-! ## Handing over (R143) -/

/-- R143: the base level, the requested level, demand and bridge mute are handed over, in this order. A value the neighbour
already holds changes nothing there. -/
def State.handOver (s : State) (quiet : Bool) : State :=
  (((s.setBase s.baseLevel quiet).setRequested s.session.requested).setDemand s.session.demand).setBridgeMute
    s.session.use.bridgeMute

/-- R143: the view of a record whose change raises SESSION: every field but source owed and the owed base. -/
def Session.noticed (r : Session) : Session :=
  match r.use with
  | .booked b => { r with use := .booked { b with owed := none } }
  | _ => r

/-- R143: SESSION is raised once when the record differs from the one before. -/
def State.noticeSession (s : State) (old : Session) (quiet : Bool) : State :=
  s.raiseIf (!quiet && s.session.noticed != old.noticed) .session

/-- R143: a session request has left a new record. -/
def State.putSession (s : State) (r : Session) : State :=
  ({ s with session := r }.handOver false).noticeSession s.session false

/-! ## The runner's steps on the record (R142) -/

/-- R141: what the runner is told of a runner event: a clock set, a table change, the id an ENTRY_PUT replaced, and whether
it is the first, at the end of start-up, which raises nothing. -/
structure RunnerEvent where
  clockSet : Bool := false
  tableChange : Bool := false
  replaced : Option Nat := none
  quiet : Bool := false
  deriving DecidableEq, Repr

/-- A session that is of an occurrence, by entry id and date. -/
def Booking.isOf (b : Booking) : Option Occurrence → Bool
  | none => false
  | some o => o.id == b.id && o.date == b.date

/-- R156, step 1: the end of a live WALKUP or BRIDGE is clamped at a clock set or a table change. -/
def clampEnd (ev : RunnerEvent) (now bridgeMax : Nat) (nextStart : Option Nat) (u : RoomUse) : RoomUse :=
  if ev.clockSet || ev.tableChange then
    match u with
    | .walkup a b w => .walkup a (leastWith (min b (now + 240)) nextStart) w
    | .bridge a b => .bridge a (leastWith (min b (now + bridgeMax)) nextStart)
    | x => x
  else u

/-- R144, R147, step 2: whether the session is marked ending. -/
def ending (ev : RunnerEvent) (now leadSetting : Nat) (f : Finder) : RoomUse → Bool
  | .none => false
  | .booked b =>
    if b.running then !b.isOf f.current || ev.replaced == some b.id
    else (!b.isOf f.current && (!b.isOf f.next || leadSetting < f.lead)) || ev.replaced == some b.id
  | .walkup _ b _ => b ≤ now
  | .bridge _ b => b ≤ now

/-- R145: demand after a booked start for `c`: kept from a PREWARM of `c` and from a RUNNING session of `c`, on otherwise. -/
def startDemand (r : Session) (c : Occurrence) : Bool :=
  match r.use with
  | .booked b => if b.isOf (some c) then r.demand else true
  | _ => true

/-- R145: a session made from an occurrence. -/
def bookingOf (table : List Entry) (o : Occurrence) (running : Bool) : Booking :=
  { id := o.id
    date := o.date
    running := running
    start := minuteCount o.date o.start
    stop := minuteCount o.date o.stop
    label := entryLabel table o.id
    owed := none }

/-- R145: the booked start for `c`. -/
def bookedStart (table : List Entry) (r : Session) (c : Occurrence) : Session :=
  { use := .booked (bookingOf table c true), demand := startDemand r c, requested := entryLamp table c.id }

/-- R142 step 3: whether the booked start is made. -/
def startDue (r : Session) (isEnding : Bool) (c : Occurrence) : Bool :=
  match r.use with
  | .booked b => !(b.running && b.isOf (some c) && !isEnding)
  | _ => true

/-- R149: off is feasible when the lamp can finish its cooldown before the next pre-warm would strike it. -/
def offFeasible (g cooldown lead : Nat) : Bool := (cooldown + 59) / 60 + lead ≤ g

/-- R149: what a restrike would cost. -/
def restrikeCost (g strikeCost warmWindow : Nat) : Nat :=
  if warmWindow ≤ 60 * g then strikeUnits strikeCost else 2 * strikeUnits strikeCost

/-- R149: what burning through the gap would cost. -/
def burnCost (g : Nat) : Nat := 600 * g

/-- R149: the bridging decision for a session ending with no current occurrence. -/
def bridges (v : Settings) (f : Finder) (lamp : LampState) : Bool :=
  let g := f.lead
  f.next.isSome && 0 < v.bridgeMax && 1 ≤ g && g ≤ v.bridgeMax && lamp.burning
    && (!offFeasible g v.cooldown v.lead || burnCost g ≤ restrikeCost g v.strikeCost v.warmWindow)

/-- R148: the idle record. -/
def idleSession : Session := {}

/-- R148, step 4: the outcome of a session still marked ending. -/
def endOutcome (v : Settings) (f : Finder) (lamp : LampState) (now : Nat) (r : Session) : Session :=
  let bridging : Session := { use := .bridge now (f.nextStart.getD now), demand := true, requested := .eco }
  match r.use with
  | .booked b => if b.running && bridges v f lamp then bridging else idleSession
  | .walkup _ _ _ => if bridges v f lamp then bridging else idleSession
  | _ => idleSession

/-- R144, step 5: the pre-warm test in NONE. -/
def prewarm (v : Settings) (table : List Entry) (f : Finder) (r : Session) : Session :=
  match r.use, f.next with
  | .none, some x =>
    if f.lead ≤ v.lead then { use := .booked (bookingOf table x false), demand := true, requested := .normal } else r
  | _, _ => r

/-- R155, step 6: the walk-up warning: given while the end lies at most 5 minutes ahead, cleared while it lies further. -/
def warnWalkup (now : Nat) (u : RoomUse) : RoomUse :=
  match u with
  | .walkup a b _ => .walkup a b (decide (b ≤ now + 5))
  | x => x

/-- R142: steps 1 to 6 on the record. The flag says that step 3 made a booked start. -/
def runRecord (s : State) (ev : RunnerEvent) : Session × Bool :=
  let now := s.clock.minuteCount
  let r := { s.session with use := clampEnd ev now s.settings.bridgeMax s.finder.nextStart s.session.use }
  let isEnding := ending ev now s.settings.lead s.finder r.use
  match s.finder.current with
  | some c =>
    if startDue r isEnding c then (bookedStart s.table r c, true)
    else ({ r with use := warnWalkup now r.use }, false)
  | none =>
    let ended := if isEnding then endOutcome s.settings s.finder s.lamp.state now r else r
    let r := prewarm s.settings s.table s.finder ended
    ({ r with use := warnWalkup now r.use }, false)

/-! ## The source of a booking (R146) -/

/-- R146: source owed and the owed base of the session. -/
def State.setOwed (s : State) (owed : Option Nat) : State :=
  match s.session.use with
  | .booked b => { s with session := { s.session with use := .booked { b with owed := owed } } }
  | _ => s

/-- R146: a SOURCE_SELECT of the SCHEDULE class; the target read right after it decides what stays owed. -/
def State.issueSource (s : State) (plate : Nat) : State :=
  let t := (s.requestSwitch plate .schedule).1
  t.setOwed (if t.switch.target = plate then none else some t.switch.target)

/-- R143, R146, step 7: the source request of a booked start, or the later issue of an owed source. -/
def State.serveSource (s : State) (started : Bool) : State :=
  match s.session.use with
  | .booked b =>
    let plate := entrySource s.table b.id
    if started then (if plate = 0 then s else s.issueSource plate)
    else if b.running then
      match b.owed with
      | none => s
      | some base => if s.switch.target = base then s.issueSource plate else s.setOwed none
    else s
  | _ => s

/-- R142, R143: a runner event, with the finder already recomputed. -/
def State.runner (s : State) (ev : RunnerEvent) : State :=
  let r := runRecord s ev
  ((({ s with session := r.1 }).handOver ev.quiet).serveSource r.2).noticeSession s.session ev.quiet

/-! ## Session requests (R151 to R157) -/

/-- R151: the proposed end of a walk-up. -/
def proposedEnd (s : State) : Nat := leastWith (s.clock.minuteCount + s.settings.walkupLength) s.finder.nextStart

/-- R151, R152: SESSION_START leaves this record, or the refusal. -/
def startSession (s : State) : Session × Status :=
  let n := s.clock.minuteCount
  match s.session.use with
  | .none =>
    if proposedEnd s < n + 5 then (s.session, .refusedState)
    else if !s.strikePermitted then (s.session, .lampExpired)
    else ({ use := warnWalkup n (.walkup n (proposedEnd s) false), demand := true, requested := .normal }, .ok)
  | .booked _ => ({ s.session with demand := true }, .ok)
  | .walkup _ _ _ => (s.session, .ok)
  | .bridge _ b => ({ s.session with use := warnWalkup n (.walkup n b false), requested := .normal }, .ok)

/-- R153: SESSION_END leaves this record, or the refusal. -/
def endSession (s : State) : Session × Status :=
  match s.session.use with
  | .none => (s.session, .refusedState)
  | .booked _ => ({ s.session with demand := false }, .ok)
  | _ => (idleSession, .ok)

/-- R154: SESSION_EXTEND leaves this record, or the refusal. -/
def extendSession (s : State) : Session × Status :=
  let n := s.clock.minuteCount
  match s.session.use with
  | .walkup a b w =>
    ({ s.session with
        use := warnWalkup n (.walkup a (leastWith (min (b + s.settings.extendStep) (n + 240)) s.finder.nextStart) w) }, .ok)
  | _ => (s.session, .refusedState)

/-- R157: LAMP_LEVEL leaves this record, or the refusal. -/
def levelSession (level : Byte) (s : State) : Session × Status :=
  match lampLevelOfCode level.toNat with
  | none => (s.session, .badArgument)
  | some v => if s.session.use = .none then (s.session, .refusedState) else ({ s.session with requested := v }, .ok)

/-! ## Commands that make runner events -/

/-- R121, R141: the runner event of a minute event; the wrap is taken once, as a clock set. -/
def State.minuteEvent (s : State) (wrapped : Bool) : State :=
  (s.recompute false).runner { clockSet := wrapped }

/-- R130, R131: a table change: SCHEDULE is raised, the record queued, the finder recomputes, the runner takes the event. -/
def State.changeTable (s : State) (table : List Entry) (replaced : Option Nat) : State :=
  (((({ s with table := table }).raise .schedule).queueKind .schedule).recompute false).runner
    { tableChange := true, replaced := replaced }

/-- R130: ENTRY_PUT on a decoded entry. -/
def State.putEntry (s : State) (e : Entry) : Answer :=
  match (conflictsWith s.table e).map Entry.id with
  | id :: _ => ⟨s, .conflict, [byte id]⟩
  | [] =>
    let held := (entryOf s.table e.id).isSome
    if !held && tableSize ≤ s.table.length then ⟨s, .tableFull, []⟩
    else
      let table := insertEntry e s.table
      ⟨s.changeTable table (if held then some e.id else none), .ok, [byte table.length]⟩

/-- R128, R130: ENTRY_PUT. -/
def ownEntryPut (raw : RawEntry) (s : State) : Answer :=
  match entryOfRaw raw with
  | none => ⟨s, .badArgument, []⟩
  | some e => if e.valid then s.putEntry e else ⟨s, .badArgument, []⟩

/-- R131: ENTRY_DELETE. -/
def ownEntryDelete (id : Byte) (s : State) : Answer :=
  if (entryOf s.table id.toNat).isSome then
    ⟨s.changeTable (s.table.filter fun e => e.id != id.toNat) none, .ok, []⟩
  else ⟨s, .notFound, []⟩

/-- R131: SCHEDULE_CLEAR. -/
def ownScheduleClear (s : State) : Answer :=
  if s.table = [] then ⟨s, .ok, []⟩ else ⟨s.changeTable [] none, .ok, []⟩

/-- R124: the clock a CLOCK_SET sets, when its fields pass the checks. -/
def clockSetTo (c : Clock) (now : Nat) (date : RawDate) (hour minute : Byte) : Option Clock :=
  let d := dateOfRaw date
  if d.valid && hour.toNat ≤ 23 && minute.toNat ≤ 59 then
    some { c with
      date := d, hour := hour.toNat, minute := minute.toNat, second := 0, unset := false, secondStart := now }
  else none

/-- R125: the clock as it is reported. -/
def clockBytes (c : Clock) : List Byte :=
  dateBytes c.date ++ [byte c.date.weekday, byte c.hour, byte c.minute, byte c.second, byte (bit c.unset 0)]

/-- R124: CLOCK_SET. -/
def ownClockSet (date : RawDate) (hour minute : Byte) (s : State) : Answer :=
  match clockSetTo s.clock s.now date hour minute with
  | none => ⟨s, .badArgument, []⟩
  | some c =>
    let t := ((({ s with clock := c }).raise .clock).recompute false).runner { clockSet := true }
    ⟨t, .ok, clockBytes t.clock⟩

/-! ## The second event (R121, R123) -/

/-- R121, R126: what the takers of a minute event do, in the order given (R109); during start-up the finder and the runner
do not act yet, and no override is held. -/
def State.takeMinute (s : State) (wrapped countdownFirst : Bool) : State :=
  if !s.startUpDone then s
  else if countdownFirst then s.countOverride.minuteEvent wrapped
  else (s.minuteEvent wrapped).countOverride

/-- R121, R123: the clock advances one second, and CLOCK is raised at the wrap. -/
def State.advanceClock (s : State) : State :=
  let s := s.reach (s.clock.secondStart + second)
  let t := { s with clock := { s.clock.tick with secondStart := s.clock.secondStart + second } }
  t.raiseIf (s.clock.tickKind == .wrap) .clock

/-- R3, R6: the account takes the second event. -/
def State.accountSecond (s : State) : State := s.chargeSecond.countWarm

/-- R121: SECOND_EVENT. The operands say which of two takers acts first where the spec allows either order (log entry 7). -/
def State.secondPasses (s : State) (chargeFirst countdownFirst : Bool) : State :=
  let kind := s.clock.tickKind
  let s := s.advanceClock
  if kind = .second then s.accountSecond
  else if chargeFirst then s.accountSecond.takeMinute (kind == .wrap) countdownFirst
  else (s.takeMinute (kind == .wrap) countdownFirst).accountSecond

end Sys2Proof.Machine
end

