-- ==== Sys2Proof/Machine/LampEvents.lean ====
section
/-! DEFINITION. The commands of the room clock and of the lamp (R25 to R32, R121). -/

namespace Sys2Proof.Machine

/-- R121: SECOND_EVENT. -/
def execSecondEvent (chargeFirst countdownFirst : Bool) (s : State) : Host.Outcome State Fault Refusal :=
  .next (s.secondPasses chargeFirst countdownFirst)

/-- R25, R31: LIT_CHANGE, `dt` µs after the command before it (log entry 3). -/
def execLitChange (high : Bool) (dt : Nat) (s : State) : Host.Outcome State Fault Refusal :=
  .next ((s.elapse dt).litChanges high)

/-- R25: LIT_CONFIRMED. -/
def execLitConfirmed (s : State) : Host.Outcome State Fault Refusal := .next s.litConfirms

/-- R31: OUTAGE. -/
def execOutage (s : State) : Host.Outcome State Fault Refusal := .next s.outageFalls

/-- R26: STRIKE_WINDOW_EXPIRY. -/
def execStrikeWindowExpiry (s : State) : Host.Outcome State Fault Refusal := .next s.strikeWindowEnds

/-- R27: RETRY_WAIT_EXPIRY. -/
def execRetryWaitExpiry (s : State) : Host.Outcome State Fault Refusal := .next s.retryWaitEnds

/-- R29: WARM_UP_EXPIRY. -/
def execWarmUpExpiry (s : State) : Host.Outcome State Fault Refusal := .next s.warmUpEnds

/-- R32: COOLDOWN_EXPIRY. -/
def execCooldownExpiry (s : State) : Host.Outcome State Fault Refusal := .next s.cooldownEnds

end Sys2Proof.Machine
end

