-- ==== Sys2Proof/Machine/Reads.lean ====
section
/-! DEFINITION. The answers of the reads, byte by byte (11; R41, R59, R86, R103, R118, R125, R132, R136, R159, R173,
R182), and the requests that change nothing but a register of their own link or the settings. -/

namespace Sys2Proof.Machine

open Sys2Proof.Config

/-- R186: an absent one-byte enumeration is sent as 0xFF. -/
def orAbsent : Option Nat → Byte
  | none => 0xFF
  | some n => byte n

/-! ## ROOM_READ (R159) -/

/-- 11: an absent label has length 0. -/
def labelBytes (label : List Byte) : List Byte := byte label.length :: label

/-- R159: a minute count is given as a date and a minute of the day. The minute of an absent one is a free value (log entry
16). -/
def minuteCountBytes : Option Nat → List Byte
  | none => [0, 0, 0, 0] ++ be16 absentMinute.toNat
  | some m => dateBytes (dateOfNumber (m / 1440)) ++ be16 (m % 1440)

def RoomUse.code : RoomUse → Nat
  | .none => 0 | .booked _ => 1 | .walkup _ _ _ => 2 | .bridge _ _ => 3

def RoomUse.booking : RoomUse → Option Booking
  | .booked b => some b
  | _ => Option.none

def RoomUse.start : RoomUse → Option Nat
  | .none => Option.none
  | .booked b => some b.start
  | .walkup a _ _ => some a
  | .bridge a _ => some a

def RoomUse.stop : RoomUse → Option Nat
  | .none => Option.none
  | .booked b => some b.stop
  | .walkup _ b _ => some b
  | .bridge _ b => some b

/-- R139: warning given, present in WALKUP alone. -/
def RoomUse.warning : RoomUse → Option Bool
  | .walkup _ _ w => some w
  | _ => Option.none

/-- 11, ROOM_READ ANSWER, offset 19. A bit reports its flag: it is 1 when the flag is set (log entry 17). Bits 7 and 6, which
the layout does not assign, are sent as 0 (log entry 33, DESIGN CHOICE). -/
def State.roomFlags (s : State) : Byte :=
  byte (bit s.session.demand 0 + bit (s.session.use.warning.getD false) 1 + bit s.session.use.warning.isSome 2
    + bit s.session.use.bridgeMute 3 + bit s.supply.warning 4 + bit s.silence.flag 5)

/-- 11, ROOM_READ ANSWER, offset 22. DESIGN CHOICE (log entry 34): of each group of four the lowest bit is ACCOUNT's, then
SETTINGS, SCHEDULE and PRESETS upwards, as every other list of flags in 11 counts; "bits 3 … 0" read as an order would give
ACCOUNT the highest. -/
def Store.markBits (x : Store) : Byte :=
  byte (bit x.faulted.account 0 + bit x.faulted.settings 1 + bit x.faulted.schedule 2 + bit x.faulted.presets 3
    + bit x.foundBad.account 4 + bit x.foundBad.settings 5 + bit x.foundBad.schedule 6 + bit x.foundBad.presets 7)

/-- 11, ROOM_READ ANSWER, offset 23. Bits 7 to 4, which the layout does not assign, are sent as 0 (log entry 33, DESIGN
CHOICE). -/
def Supply.causeBits (x : Supply) : Byte :=
  byte (bit x.powerOn 0 + bit x.resetPin 1 + bit x.supplyDrop 2 + bit x.restart 3)

/-- 11, ROOM_READ ANSWER. -/
def State.roomBytes (s : State) : List Byte :=
  let u := s.session.use
  [byte u.code, byte ((u.booking.map Booking.id).getD 0), orAbsent (u.booking.map fun b => if b.running then 1 else 0)]
    ++ boundBytes (u.booking.map Booking.date) ++ minuteCountBytes u.start ++ minuteCountBytes u.stop
    ++ [s.roomFlags, byte s.session.requested.code, byte s.baseLevel.code, s.store.markBits, s.supply.causeBits]
    ++ labelBytes ((u.booking.map Booking.label).getD [])

/-- R159: ROOM_READ. -/
def ownRoomRead (s : State) : Answer := ⟨s, .ok, s.roomBytes⟩

/-- R151 to R157: a session request: a record that changed is handed over, and the answer carries it as it now stands. -/
def answerSession (s : State) (r : Session × Status) : Answer :=
  if r.2 = .ok then
    let t := if r.1 = s.session then s else s.putSession r.1
    ⟨t, .ok, t.roomBytes⟩
  else ⟨s, r.2, []⟩

def ownSessionStart (s : State) : Answer := answerSession s (startSession s)
def ownSessionEnd (s : State) : Answer := answerSession s (endSession s)
def ownSessionExtend (s : State) : Answer := answerSession s (extendSession s)
def ownLampLevel (level : Byte) (s : State) : Answer := answerSession s (levelSession level s)

/-! ## Notices and counters (R172, R173) -/

/-- R172: NOTICE_READ returns the link's whole pending set and removes the returned flags from it. Bits 15 to 12 of the two
bytes, which 11's notice set does not assign, are sent as 0 (log entry 33, DESIGN CHOICE). -/
def ownNoticeRead (l : Link) (s : State) : Answer :=
  ⟨s.setLink l ({ s.link l with notices := 0 }.settle (s.settings.maskOf l)), .ok, be16 (s.link l).notices.toNat⟩

def LinkState.counterBytes (x : LinkState) : List Byte := [byte x.badCrc, byte x.gaps, byte x.overruns]

/-- 11, COUNTERS_READ ANSWER. -/
def State.counterBytes (s : State) : List Byte :=
  s.engine.counterBytes ++ s.lectern.counterBytes ++ s.campus.counterBytes ++ [byte (bit s.silence.flag 0)]
    ++ (List.range 12).flatMap fun i => [byte (nth s.scanner.badReplies i 0), byte (nth s.scanner.misses i 0)]

/-- R173: COUNTERS_READ. -/
def ownCountersRead (s : State) : Answer := ⟨s, .ok, s.counterBytes⟩

def LinkState.clearCounts (x : LinkState) : LinkState := { x with badCrc := 0, gaps := 0, overruns := 0 }

/-- R58, R173, R183: COUNTERS_CLEAR. -/
def ownCountersClear (s : State) : Answer :=
  ⟨{ s with
      engine := s.engine.clearCounts
      lectern := s.lectern.clearCounts
      campus := s.campus.clearCounts
      scanner := { s.scanner with badReplies := zeroCounts, misses := zeroCounts }
      supply := { s.supply with powerOn := false, resetPin := false, supplyDrop := false, restart := false } }, .ok, []⟩

/-- R175: RESTART is answered OK; the reset follows the last stop bit of the response. -/
def ownRestart (s : State) : Answer := ⟨{ s with restartArmed := true }, .ok, []⟩

/-! ## LAMP_READ (R41) -/

def LampState.code : LampState → Nat
  | .off _ => 0 | .striking _ => 1 | .warming => 2 | .lit => 3 | .cooling _ => 4 | .failed => 5

def LampState.phaseCode : LampState → Option Nat
  | .striking .attempt => some 0
  | .striking .retryWait => some 1
  | _ => none

def LampState.pendingStrike : LampState → Bool
  | .cooling p => p
  | _ => false

def LampState.blockedCode : LampState → Option Nat
  | .off .none => some 0
  | .off .account => some 1
  | .off .thermal => some 2
  | _ => none

/-- R20: the timer that runs in each state and phase. -/
def LampState.timerCode : LampState → Nat
  | .striking .attempt => 1
  | .striking .retryWait => 2
  | .warming => 3
  | .cooling _ => 4
  | _ => 0

def WearStatus.code : WearStatus → Nat
  | .good => 0 | .warn => 1 | .expired => 2

/-- R41: the remaining whole seconds, rounded down (log entry 22), 0 when no timer runs and past the deadline (log entry 28). -/
def State.lampSeconds (s : State) : Nat :=
  if s.lamp.state.timerCode = 0 then 0 else (s.lamp.timerEnd - s.now) / second

/-- 11, LAMP_READ ANSWER. The pending strike bit is 0 where that flag is absent (log entry 17), an absent phase or strike
blocked is sent as 0xFF (log entry 18), and bits 7 and 6 of offset 2, which the layout does not assign, are sent as 0 (log
entry 33, DESIGN CHOICE). -/
def State.lampBytes (s : State) : List Byte :=
  let x := s.lamp
  let r := s.account.record
  [byte x.state.code, orAbsent x.state.phaseCode,
    byte (bit x.demand 0 + bit x.state.pendingStrike 1 + bit s.pins.lampEn 2 + bit s.pins.ignite 3 + bit s.pins.fan 4
      + bit r.unverified 5),
    byte x.requested.code, byte x.effective.code, byte s.pins.level.code, byte (thermalCap x.temp).code, byte x.temp.code,
    orAbsent x.state.blockedCode, byte x.attempts, byte x.timeToLight, byte x.state.timerCode]
    ++ be16 s.lampSeconds ++ be32 r.wear ++ be16 (hoursOf r.wear) ++ [byte s.account.status.code] ++ be32 r.burnSeconds
    ++ be16 r.ignitions ++ be16 r.hotIgnitions ++ be16 r.failedAttempts ++ be16 r.outages ++ [byte r.grace]
    ++ be32 r.lastBurn

/-- R41: LAMP_READ. -/
def ownLampRead (s : State) : Answer := ⟨s, .ok, s.lampBytes⟩

/-! ## SOURCE_READ (R86) and PLATE_READ (R59) -/

/-- R62: the timer that runs in each state. -/
def SwitchState.timerCode : SwitchState → Nat
  | .muting => 1 | .masking => 2 | .seeking => 3 | .confirming => 4 | .showing => 5 | _ => 0

/-- R86: the remaining time in whole milliseconds rounded down, 0 for none and past the deadline (log entry 28). -/
def State.switchMillis (s : State) : Nat :=
  if s.switch.state.timerCode = 0 then 0 else (s.switch.timerEnd - s.now) / millisecond

/-- 11, SOURCE_READ ANSWER. -/
def State.sourceBytes (s : State) : List Byte :=
  let w := s.switch
  [byte w.state.code, byte w.routed, byte w.target, byte w.previous, orAbsent (w.origin.map Origin.code)]
    ++ be16 w.lockTime
    ++ [byte (bit w.pictureMute 0 + bit w.bridgeMute 1 + bit (!s.lamp.state.shining) 2 + bit s.pins.mute 3),
      byte s.pins.srcSel, orAbsent (w.edge.map syncEdgeCode), byte w.ring.length]
    ++ be16 s.average ++ [byte w.streak, byte w.state.timerCode] ++ be16 s.switchMillis

/-- R86: SOURCE_READ. -/
def ownSourceRead (s : State) : Answer := ⟨s, .ok, s.sourceBytes⟩

/-- 11, PLATE_READ ANSWER: the block of one address. -/
def Plate.bytes (p : Plate) : List Byte :=
  [byte p.state.code, orAbsent (p.kind.map PlateKind.code), orAbsent (p.signal.map fun a => if a then 1 else 0),
    orAbsent (p.syncEdge.map syncEdgeCode), byte p.connects, byte p.buttons, byte p.missStreak]

/-- R59: PLATE_READ. -/
def ownPlateRead (s : State) : Answer := ⟨s, .ok, byte s.scanner.finalInForce :: s.scanner.plates.flatMap Plate.bytes⟩

/-! ## GEOMETRY_READ (R103) -/

def Corner.bytes (c : Corner) : List Byte := signed16 c.dx ++ signed16 c.dy

/-- 11, GEOMETRY_READ ANSWER without the plate field. -/
def State.geometryBytes (s : State) : List Byte :=
  let g := s.geometry
  storedBytes g.active ++ signed16 g.vAuto ++ [signedByte g.vEff, byte (bit g.tiltStale 0 + bit g.clamped 1)]
    ++ g.corners.tl.bytes ++ g.corners.tr.bytes ++ g.corners.bl.bytes ++ g.corners.br.bytes
    ++ signed16 g.average ++ [byte g.ring.length]
    ++ be16 s.settings.panelWidth ++ be16 s.settings.panelHeight

/-- R103: GEOMETRY_READ. -/
def ownGeometryRead (plate : Option Byte) (s : State) : Answer :=
  match plate with
  | none => ⟨s, .ok, s.geometryBytes⟩
  | some p =>
    if p.toNat ≤ 12 then ⟨s, .ok, storedBytes (nth s.geometry.presets p.toNat {})⟩ else ⟨s, .badArgument, []⟩

/-! ## LOCKOUT_READ (R118), CLOCK_READ (R125) -/

/-- 11, LOCKOUT_READ ANSWER, offset 6. -/
def permittedBits (c : Requester) (level : Level) : Byte :=
  byte (bit (permits .sessionStart c level) 0 + bit (permits .sessionEnd c level) 1 + bit (permits .sessionExtend c level) 2
    + bit (permits .lampLevel c level) 3 + bit (permits .sourceSelect c level) 4 + bit (permits .pictureMute c level) 5
    + bit (permits .geometry c level) 6)

/-- R118: LOCKOUT_READ. -/
def ownLockoutRead (l : Link) (s : State) : Answer :=
  ⟨s, .ok,
    [byte s.policy.effective.code, byte s.policy.base.code] ++ overrideBytes s.policy.override
      ++ [permittedBits (requesterOf l) s.policy.effective, byte (bit (selectable s.policy.effective) 0)]⟩

/-- R125: CLOCK_READ. -/
def ownClockRead (s : State) : Answer := ⟨s, .ok, clockBytes s.clock⟩

/-! ## ENTRY_READ, ENTRY_LIST (R132), OCCURRENCE_READ (R136) -/

/-- 11, ENTRY_PUT PAYLOAD, offsets 2 to 14: weekday set, first date, last date, date. -/
def entryDateBytes : EntryKind → List Byte
  | .weekly days first last _ => days.setWidth 8 :: (boundBytes first ++ boundBytes last ++ boundBytes none)
  | .dated d _ => absentWeekdays.setWidth 8 :: (boundBytes none ++ boundBytes none ++ dateBytes d)
  | .skip d => absentWeekdays.setWidth 8 :: (boundBytes none ++ boundBytes none ++ dateBytes d)

def entryKindCode : EntryKind → Nat
  | .weekly _ _ _ _ => 0 | .dated _ _ => 1 | .skip _ => 2

/-- 11, ENTRY_PUT PAYLOAD, offsets 19 to 21: source plate, level, lamp level. -/
def entryTermBytes : Option Terms → List Byte
  | none => [byte absentPlate.val, 0xFF, 0xFF]
  | some t => [byte t.source, byte t.level.code, byte t.lamp.code]

/-- R132: every field of an entry, in the layout of ENTRY_PUT. -/
def Entry.bytes (e : Entry) : List Byte :=
  [byte e.id, byte (entryKindCode e.kind)] ++ entryDateBytes e.kind ++ be16 e.start ++ be16 e.stop
    ++ entryTermBytes e.terms ++ labelBytes e.label

/-- R132: ENTRY_READ. -/
def ownEntryRead (id : Byte) (s : State) : Answer :=
  match entryOf s.table id.toNat with
  | some e => ⟨s, .ok, e.bytes⟩
  | none => ⟨s, .notFound, []⟩

/-- R132: ENTRY_LIST. -/
def ownEntryList (s : State) : Answer := ⟨s, .ok, byte s.table.length :: s.table.map fun e => byte e.id⟩

/-- 11, OCCURRENCE_READ ANSWER: one occurrence block of 26 bytes. -/
def occurrenceBytes (table : List Entry) : Option Occurrence → List Byte
  | none => List.replicate 26 0
  | some o =>
    let label := entryLabel table o.id
    byte o.id :: dateBytes o.date ++ be16 o.start ++ be16 o.stop ++ labelBytes label
      ++ List.replicate (16 - label.length) 0

/-- R136: OCCURRENCE_READ. -/
def ownOccurrenceRead (s : State) : Answer :=
  ⟨s, .ok,
    byte (bit s.clock.unset 0) :: occurrenceBytes s.table s.finder.current ++ occurrenceBytes s.table s.finder.next
      ++ be16 (if s.finder.next.isSome then s.finder.lead else 0)⟩

/-! ## Settings (R181, R182) -/

/-- R161: a rate waiting to be applied is applied to a link that is not sending: its receive buffer is emptied and its
receiver enters HUNT. -/
def LinkState.applyRate (x : LinkState) (rate : Nat) : LinkState :=
  if x.rateDue && x.answering != .sending then { x with rate := rate, rateDue := false, collecting := none, frames := [] }
  else x

/-- R161: a rate is written. The campus link is about to send the answer to the write itself, so its rate waits. -/
def State.rateWritten (s : State) (l : Link) : State :=
  let x := { s.link l with rateDue := true }
  s.setLink l (if l = .campus then x else x.applyRate (s.settings.rateOf l))

/-- R2, R10, R11: a write of the life limit or the warning margin derives the status again at once. -/
def State.limitWritten (s : State) : State := s.deriveStatus.handAccount s.account

/-- R106: a write of the idle or the walk-up level is handed over at once when the session in force uses it. -/
def State.levelWritten (s : State) : State := s.setBase s.baseLevel false

/-- R181: what the owner of a setting does at once with its new value. -/
def State.settingWritten (s : State) : SettingId → State
  | .lifeLimit => s.limitWritten
  | .warningMargin => s.limitWritten
  | .missLimit => s.missLimitWritten
  | .panelWidth => s.panelWritten
  | .panelHeight => s.panelWritten
  | .tiltGain => s.tiltSettingWritten
  | .tiltAveraging => s.tiltSettingWritten
  | .idleLevel => s.levelWritten
  | .walkupLevel => s.levelWritten
  | .rate l => s.rateWritten l
  | .mask l => s.settleLine l
  | _ => s

/-- R187: the answer of SETTING_WRITE and SETTING_READ. -/
def settingBytes (v : Settings) (id : SettingId) : List Byte := id.code :: be32 (v.get id)

/-- R181: SETTING_WRITE. -/
def ownSettingWrite (id : Byte) (value : BitVec 32) (s : State) : Answer :=
  match settingOfCode id with
  | none => ⟨s, .badArgument, []⟩
  | some i =>
    let t := ({ s with settings := s.settings.put i value.toNat }.settingWritten i).queueKind .settings
    ⟨t, .ok, settingBytes t.settings i⟩

/-- R182: SETTING_READ. -/
def ownSettingRead (id : Byte) (s : State) : Answer :=
  match settingOfCode id with
  | none => ⟨s, .badArgument, []⟩
  | some i => ⟨s, .ok, settingBytes s.settings i⟩

end Sys2Proof.Machine
end

