-- ==== Sys2Proof/Machine/Receive.lean ====
section
/-! DEFINITION. The receiving side of a link: bytes, frames and the receive buffer (R162, R164, R165, R176). -/

namespace Sys2Proof.Machine

open Sys2Proof.Config

/-! ## Receiving (R162, R164) -/

/-- R164: the bytes in a receive buffer: complete frames not yet taken, the frame being answered, the frame being
collected. -/
def LinkState.held (x : LinkState) : Nat :=
  (x.frames.map List.length).sum + (x.inHand.getD []).length + (x.collecting.getD []).length

/-- R162: whether a byte is a bad LEN. -/
def lenBad (b : Byte) : Bool := b == 0 || 60 < b.toNat

/-- R162: whether the bytes stored are a complete frame. -/
def frameComplete (bytes : List Byte) : Bool := bytes.length == (nth bytes 1 0).toNat + 3

/-- R162: a byte stored behind the bytes of the frame so far. -/
def State.storeByte (s : State) (l : Link) (bytes : List Byte) (b : Byte) : State :=
  let x := s.link l
  let stored := bytes ++ [b]
  if stored.length = 2 ∧ lenBad b then (s.setLink l { x with collecting := none }).countError l .badCrc
  else if frameComplete stored then
    s.setLink l { x with collecting := none, frames := x.frames ++ [stored], lastByteAt := s.now }
  else s.setLink l { x with collecting := some stored, lastByteAt := s.now }

/-- R162, R164: a byte arrives at an enabled receiver. -/
def State.receive (s : State) (l : Link) (b : Byte) : State :=
  let x := s.link l
  match x.collecting with
  | none =>
    if b != sync then s
    else if bufferSize ≤ x.held then s.countError l .overrun
    else s.setLink l { x with collecting := some [b], lastByteAt := s.now }
  | some bytes =>
    if bufferSize ≤ x.held then (s.setLink l { x with collecting := none }).countError l .overrun
    else s.storeByte l bytes b

/-- R176: a byte that arrives before the receivers are enabled is not received. When in start-up they are enabled is left
open, so each byte before the end of start-up asks the free value of log entry 14. -/
def State.byteArrives (s : State) (l : Link) (b : Byte) : State :=
  if s.receiversOn then s.receive l b
  else
    let t := { s with choices := s.choices + 1 }
    if receiversEnabledBy s.choices then { t with receiversOn := true }.receive l b else t

/-- R165, 11: the frame of a request: SYNC, LEN, CODE, payload, and the CRC-8 over LEN to the last payload byte. -/
def requestFrame (c : Command) (payload : List Byte) : List Byte :=
  let body := byte (payload.length + 1) :: c.code :: payload
  sync :: body ++ [crc8 body]

/-- R162: bytes arrive one behind the other. -/
def State.bytesArrive (s : State) (l : Link) (bytes : List Byte) : State :=
  bytes.foldl (fun t b => t.byteArrives l b) s

end Sys2Proof.Machine
end

