-- ==== Sys2Proof/Machine/Frames.lean ====
section
/-! DEFINITION. The answering side of a link: how a request is judged, carried out and answered, and how a frame is decoded
into one (R111, R165 to R168, R186, R187). -/

namespace Sys2Proof.Machine

open Sys2Proof.Config

/-! ## Responses (R166) -/

/-- R166: the bytes of a response. -/
def responseFrame (code status : Byte) (payload : List Byte) : List Byte :=
  let body := byte (payload.length + 2) :: code :: status :: payload
  sync :: body ++ [crc8 body]

/-- R161: the time a number of bytes takes on a link, 10 bit times each, in whole µs (log entry 6). -/
def sendTime (bytes rate : Nat) : Nat := bytes * 10 * second / rate

/-- R166: the response's CODE is the request's with 0x80 added. A code of 0x80 or above names no command; the sum does not
fit a byte, and what is sent is a free value (log entry 15). -/
def responseCode (code : Byte) : Byte := if code.msb then codeBeyondByte code else code + 0x80

/-- R166: the response is formed from the state the request has left, and the link enters SENDING. -/
def State.respond (l : Link) (code : Byte) (a : Answer) : State :=
  let x := a.state.link l
  let frame := responseFrame (responseCode code) a.status.code a.payload
  a.state.setLink l
    { x with answering := .sending, response := frame, sendEnd := a.state.now + sendTime frame.length x.rate }

/-- R165, R174: a valid frame on the engine link clears the silence flag and starts the count again, whatever it asks. -/
def State.hear (s : State) (l : Link) : State :=
  match l with
  | .engine => { s with silence := { since := some s.now, flag := false } }
  | _ => s

/-- R111, R167, R168: a request refused by its link or by the level changes nothing; one permitted goes to its owner. -/
def judged (c : Command) (l : Link) (owner : State → Answer) (s : State) : Answer :=
  match judge c l s.policy.effective with
  | some refusal => ⟨s, refusal, []⟩
  | none => owner s

/-- R166: the last stop bit of a response has been sent: the frame is removed, the link is READY, and a rate that waited for
this moment is applied (R161). -/
def State.finishResponse (s : State) (l : Link) : State :=
  let s := s.reach (s.link l).sendEnd
  let x := { s.link l with inHand := none, response := [], answering := .ready }
  s.setLink l (x.applyRate (s.settings.rateOf l))

/-- R166: a request is carried out whole and answered. -/
def State.carryOut (s : State) (c : Command) (l : Link) (owner : State → Answer) : State :=
  State.respond l c.code (judged c l owner (s.hear l))

/-! ## Frames (R165, R167, R187) -/

/-- R165: a complete frame is valid when its CRC byte is the CRC over LEN to the last payload byte. -/
def frameValid (f : List Byte) : Bool := f.getLast? == some (crc8 f.tail.dropLast)

/-- R187: the fields of a payload of the length its command carries, handed to the command's owner; none for a payload of
another length. -/
def ownerOf (c : Command) (l : Link) (payload : List Byte) : Option (State → Answer) :=
  match c, payload with
  | .roomRead, [] => some ownRoomRead
  | .noticeRead, [] => some (ownNoticeRead l)
  | .countersRead, [] => some ownCountersRead
  | .countersClear, [] => some ownCountersClear
  | .restart, [] => some ownRestart
  | .sessionStart, [] => some ownSessionStart
  | .sessionEnd, [] => some ownSessionEnd
  | .sessionExtend, [] => some ownSessionExtend
  | .lampLevel, [level] => some (ownLampLevel level)
  | .lampRead, [] => some ownLampRead
  | .lampReplaced, [] => some ownLampReplaced
  | .accountSet, [h1, h0] => some (ownAccountSet (h1 ++ h0))
  | .sourceSelect, [plate] => some (ownSourceSelect l plate)
  | .pictureMute, [onOff] => some (ownPictureMute onOff)
  | .sourceRead, [] => some ownSourceRead
  | .plateRead, [] => some ownPlateRead
  | .geometrySet, [mode, v, h, trim] => some (ownGeometrySet mode v h trim)
  | .geometryTrim, [dv, dh] => some (ownGeometryTrim dv dh)
  | .presetStore, [] => some ownPresetStore
  | .geometryRead, [] => some (ownGeometryRead none)
  | .geometryRead, [plate] => some (ownGeometryRead (some plate))
  | .tiltReport, [t1, t0] => some (ownTiltReport (t1 ++ t0))
  | .engineReport, [t] => some (ownEngineReport t)
  | .overrideSet, [level] => some (ownOverrideSet level none)
  | .overrideSet, [level, m1, m0] => some (ownOverrideSet level (some (m1 ++ m0)))
  | .overrideClear, [] => some ownOverrideClear
  | .lockoutRead, [] => some (ownLockoutRead l)
  | .clockSet, [y1, y0, m, d, hour, minute] => some (ownClockSet (rawDateOf y1 y0 m d) hour minute)
  | .clockRead, [] => some ownClockRead
  | .entryPut, bytes => (rawEntryOf bytes).map ownEntryPut
  | .entryDelete, [id] => some (ownEntryDelete id)
  | .entryRead, [id] => some (ownEntryRead id)
  | .entryList, [] => some ownEntryList
  | .scheduleClear, [] => some ownScheduleClear
  | .occurrenceRead, [] => some ownOccurrenceRead
  | .settingWrite, [id, v3, v2, v1, v0] => some (ownSettingWrite id (v3 ++ v2 ++ v1 ++ v0))
  | .settingRead, [id] => some (ownSettingRead id)
  | _, _ => none

/-- R167: the length step; a payload of another length is answered BAD_ARGUMENT and goes no further. -/
def lengthChecked (owner : Option (State → Answer)) (s : State) : Answer :=
  match owner with
  | some own => own s
  | none => ⟨s, .badArgument, []⟩

/-- R167: a valid frame with a code and a payload is decoded and answered. -/
def State.decodeFrame (s : State) (l : Link) (code : Byte) (payload : List Byte) : State :=
  match commandOfCode code with
  | none => State.respond l code ⟨s.hear l, .unknownCommand, []⟩
  | some c => s.carryOut c l (lengthChecked (ownerOf c l payload))

/-- R165, R166: the oldest complete frame is taken from the buffer. One that fails its CRC is removed and counted; a valid
one is in hand while it is answered. -/
def State.takeFrame (s : State) (l : Link) (f : List Byte) (rest : List (List Byte)) : State :=
  let x := s.link l
  if frameValid f then
    (s.setLink l { x with frames := rest, inHand := some f }).decodeFrame l (nth f 2 0) (f.drop 3).dropLast
  else (s.setLink l { x with frames := rest }).countError l .badCrc

/-- R166: a READY link takes its oldest complete frame, if there is one (log entry 5). -/
def State.takeNext (s : State) (l : Link) : State :=
  match (s.link l).answering, (s.link l).frames with
  | .ready, f :: rest => s.takeFrame l f rest
  | _, _ => s

/-- R166: a link comes to its next frame: a response under way is completed at its due moment, and the oldest complete frame
is taken. The response to a permitted RESTART is left to RESPONSE_SENT, which resets the LH14 (R175). -/
def State.takeTurn (s : State) (l : Link) : State :=
  match (s.link l).answering with
  | .sending => if s.restartArmed && l == .campus then s else (s.finishResponse l).takeNext l
  | _ => s.takeNext l

/-- R166: a number of frames of a link, in the order they completed. -/
def State.takeTurns (l : Link) : Nat → State → State
  | 0, s => s
  | n + 1, s => State.takeTurns l n (s.takeTurn l)

/-- A request row: the bytes of the frame that carries the request arrive on the link (R162, R164); when they complete a
frame, the link comes to it, after the frames that completed before it (R166), each answered in its turn (log entry 4). On a
HELD link the frame waits in the buffer (R176), and one that a new rate or a reset empties out of the buffer is lost. -/
def State.takeRequest (s : State) (c : Command) (l : Link) (payload : List Byte) : State :=
  let t := s.bytesArrive l (requestFrame c payload)
  if (s.link l).frames.length < (t.link l).frames.length then State.takeTurns l (t.link l).frames.length t else t

/-- R166: FRAME_TAKE. -/
def execFrameTake (l : Link) (s : State) : Host.Outcome State Fault Refusal := .next (s.takeNext l)

end Sys2Proof.Machine
end

