-- ==== Sys2Proof/Machine/Reset.lean ====
section
/-! DEFINITION. The four resets and start-up (R17, R42, R60, R87, R104, R119, R126, R160, R176, R183 to R185). -/

namespace Sys2Proof.Machine

open Sys2Proof.Config

/-! ## Resets (R183) -/

/-- R183: a POWER_ON makes the cause set POWER_ON alone; each other reset adds its cause. The supply warning is clear after
any reset; SUPPLY_SENSE is an input and stays as it is. -/
def Supply.afterReset (x : Supply) (cause : Cause) : Supply :=
  match cause with
  | .powerOn => { senseLow := x.senseLow }
  | .resetPin => { x with warning := false, resetPin := true }
  | .supplyDrop => { x with warning := false, supplyDrop := true }
  | .restart => { x with warning := false, restart := true }

/-- R42: the lamp controller after a reset. The cooldown counts from the reset, taken as one moment (log entry 38, DESIGN
CHOICE); its length is the default until start-up has loaded the setting (log entry 12). -/
def lampAfterReset (now : Nat) : Lamp := { timerStart := now, timerLength := 90 * second }

/-- R60, R176, R177, R183 and the reset tables of the chapters: the state after a reset. The queue of commands, the model's
time, the room clock and the input pins go on; RAM holds defaults until start-up has loaded the records (log entry 12). The
reset and its release are one moment, from which the warm count and the cooldown count: log entry 38, DESIGN CHOICE. -/
def State.afterReset (s : State) (cause : Cause) (cut : SlotLeft) : State :=
  { pending := s.pending
    now := s.now
    choices := s.choices
    settings := {}
    account := {}
    lamp := lampAfterReset s.now
    scanner := { plates := platesAfterReset 4, badReplies := zeroCounts, misses := zeroCounts }
    switch := {}
    geometry := { presets := List.replicate 13 {} }
    policy := {}
    clock := s.clock
    table := []
    finder := {}
    session := {}
    engine := { rate := 57600 }
    lectern := { rate := 19200 }
    campus := { rate := 19200 }
    receiversOn := false
    silence := {}
    restartArmed := false
    store := s.store.afterReset cut
    supply := s.supply.afterReset cause
    startUpDone := false
    pins := { lit := s.pins.lit } }

/-- R126: the clock after the main supply was away: kept by the backup domain for a number of whole seconds, or its loss
reported. A loss stays reported until start-up has acted on it (log entries 9 and 27). What the clock holds after a loss until
start-up's check, which R126 leaves open: the date, time and CLOCK_UNSET from before, counting on (log entry 37, DESIGN
CHOICE). -/
def Clock.afterPowerOn (c : Clock) (backup : Option Nat) : Clock :=
  match backup with
  | none => { c with backupLost := true }
  | some seconds => c.advance seconds

/-- R183: POWER_ON. -/
def execPowerOn (cut : SlotLeft) (backup : Option Nat) (s : State) : Host.Outcome State Fault Refusal :=
  .next ({ s with clock := s.clock.afterPowerOn backup }.afterReset .powerOn cut)

/-- R183: RESET_PIN. -/
def execResetPin (cut : SlotLeft) (s : State) : Host.Outcome State Fault Refusal := .next (s.afterReset .resetPin cut)

/-- R183: SUPPLY_DROP. -/
def execSupplyDrop (cut : SlotLeft) (s : State) : Host.Outcome State Fault Refusal := .next (s.afterReset .supplyDrop cut)

/-! ## Start-up: loading the records (R184, step 1) -/

/-- R184: a kind found bad has its found bad mark set and raises STORE. -/
def State.foundBad (s : State) (k : Kind) : State :=
  { s with store := { s.store with foundBad := s.store.foundBad.set k true } }.raise .store

/-- R184: SETTINGS, loaded first: each value clamped as a write is clamped, or every default. -/
def State.loadSettings (s : State) : State :=
  match s.store.slots.settings.good with
  | some (.settings values) => { s with settings := settingsOf values }
  | _ => { s with settings := {} }.foundBad .settings

/-- R161, R176: the links take the stored rates and their receivers are enabled. -/
def State.enableReceivers (s : State) : State :=
  { s with
    engine := { s.engine with rate := s.settings.engineRate }
    lectern := { s.lectern with rate := s.settings.lecternRate }
    campus := { s.campus with rate := s.settings.campusRate }
    receiversOn := true }

/-- R42, R60, R119: what the settings just loaded fix of the reset state of the other blocks. -/
def State.takeSettings (s : State) : State :=
  { s with
    lamp := { s.lamp with timerLength := s.settings.cooldown * second }
    scanner := { s.scanner with plates := platesAfterReset s.settings.finalAddress, finalInForce := s.settings.finalAddress }
    policy := { s.policy with base := s.settings.idleLevel, effective := s.settings.idleLevel } }

/-- R17, R18, R184: ACCOUNT as stored, or the blank account, UNVERIFIED, with ACCOUNT raised. -/
def State.loadAccountRecord (s : State) : State :=
  match s.store.slots.account.good with
  | some (.account r) => s.loadAccount (clampRecord r)
  | _ => ((s.loadAccount (blankRecord s.settings.graceSetting)).foundBad .account).raise .account

/-- R138, R184: SCHEDULE when it passes the checks, or the empty table. -/
def State.loadSchedule (s : State) : State :=
  match s.store.slots.schedule.good with
  | some (.schedule t) =>
    match tableOfStored t with
    | some table => { s with table := table }
    | none => { s with table := [] }.foundBad .schedule
  | _ => { s with table := [] }.foundBad .schedule

/-- R89: the thirteen presets of a good record. -/
def takePresets (p : List StoredPreset) : List Preset :=
  (List.range 13).map fun i => ((p[i]?).map StoredPreset.taken).getD {}

/-- R89, R184: PRESETS as stored, or all MANUAL and zero. -/
def State.loadPresets (s : State) : State :=
  match s.store.slots.presets.good with
  | some (.presets p) => { s with geometry := { s.geometry with presets := takePresets p } }
  | _ => { s with geometry := { s.geometry with presets := List.replicate 13 {} } }.foundBad .presets

/-- R37, R96: what is derived follows the settings and the account just loaded. After a reset the temperature state is
UNKNOWN and the geometry zero, so this changes no figure and raises nothing. -/
def State.deriveLoaded (s : State) : State :=
  { s with geometry := s.geometry.derive s.settings.panelWidth s.settings.panelHeight }.deriveLevel.driveBallast

/-- R184, step 1. -/
def State.loadRecords (s : State) : State :=
  s.loadSettings.enableReceivers.takeSettings.loadAccountRecord.loadSchedule.loadPresets.deriveLoaded

/-! ## Start-up: the rest (R184, steps 2 to 4 and completion) -/

/-- R126: a clock backup found lost sets the clock to 2000-01-01 00:00:00, sets CLOCK_UNSET and raises CLOCK. -/
def State.checkBackup (s : State) : State :=
  if s.clock.backupLost then { s with clock := { secondStart := s.now, backupLost := false } }.raise .clock else s

/-- R138, R160: the session is evaluated; the first evaluation raises no notice of its own. -/
def State.evaluateSession (s : State) : State := (s.recompute true).runner { quiet := true }

/-- R166, R171: a link leaves HELD for READY and its attention line follows. -/
def State.releaseLink (s : State) (l : Link) : State :=
  (s.setLink l { s.link l with answering := .ready }).settleLine l

/-- R93, R166, R174, R184: start-up completes: the links are READY and the silence timers start. -/
def State.release (s : State) : State :=
  let s := ((s.releaseLink .engine).releaseLink .lectern).releaseLink .campus
  { s with
    startUpDone := true
    silence := { s.silence with since := some s.now }
    geometry := { s.geometry with tiltTimer := some (s.now + staleTime) } }

/-- R180: the supply warning is watched from the end of start-up. -/
def State.watchSupply (s : State) : State := if s.supply.senseLow then s.warnSupply else s

/-- R61, R179, R184: start-up runs whole (log entry 25). One that has completed does not run again (log entry 32). -/
def State.startUp (s : State) : State :=
  if s.startUpDone then s
  else s.loadRecords.checkBackup.evaluateSession.release.watchSupply.startWrite.startCycle

/-- R184: START_UP_COMPLETE. -/
def execStartUpComplete (s : State) : Host.Outcome State Fault Refusal := .next s.startUp

end Sys2Proof.Machine
end

