-- ==== Sys2Proof/Machine/LinkEvents.lean ====
section
/-! DEFINITION. The commands of the links: a byte, and the timed events (R162, R163, R166, R174, R175). -/

namespace Sys2Proof.Machine

open Sys2Proof.Config

/-! ## A byte -/

/-- R162: RECEIVE_BYTE. -/
def execReceiveByte (l : Link) (b : Byte) (s : State) : Host.Outcome State Fault Refusal := .next (s.byteArrives l b)

/-! ## Timed events -/

/-- R163: 10 ms after a stored byte the frame being collected is abandoned. -/
def State.gapExpires (s : State) (l : Link) : State :=
  match (s.link l).collecting with
  | none => s
  | some _ =>
    let s := s.reach ((s.link l).lastByteAt + gapLimit)
    (s.setLink l { s.link l with collecting := none }).countError l .gap

/-- R163: GAP. -/
def execGap (l : Link) (s : State) : Host.Outcome State Fault Refusal := .next (s.gapExpires l)

/-- R166, R175: the last stop bit of a response is sent. When it is the answer to a permitted RESTART, the LH14 resets. -/
def State.responseSent (s : State) (l : Link) (cut : SlotLeft) : State :=
  match (s.link l).answering with
  | .sending =>
    if s.restartArmed && l == .campus then (s.reach (s.link l).sendEnd).afterReset .restart cut else s.finishResponse l
  | _ => s

/-- R166: RESPONSE_SENT. -/
def execResponseSent (l : Link) (cut : SlotLeft) (s : State) : Host.Outcome State Fault Refusal :=
  .next (s.responseSent l cut)

/-- R35, R174: the silence count reaches 10 s: the temperature state becomes UNKNOWN, the flag is set, the count stops. -/
def State.silenceFound (s : State) : State :=
  match s.silence.since with
  | none => s
  | some t => { (s.reach (t + silenceTime)).setTemp .unknown with silence := { since := none, flag := true } }

/-- R174: ENGINE_SILENCE. -/
def execEngineSilence (s : State) : Host.Outcome State Fault Refusal := .next s.silenceFound

end Sys2Proof.Machine
end

