-- ==== Sys2Proof/Machine/Requests.lean ====
section
/-! DEFINITION. The thirty-five request rows, each the arrival and the taking of the frame that carries the request on the
link named, its payload laid out as 11 says (log entry 4). -/

namespace Sys2Proof.Machine

/-- R159: ROOM_READ, carried out by `ownRoomRead`. -/
def execRoomRead (l : Link) (s : State) : Host.Outcome State Fault Refusal :=
  .next (s.takeRequest .roomRead l [])

/-- R172: NOTICE_READ, carried out by `ownNoticeRead`. -/
def execNoticeRead (l : Link) (s : State) : Host.Outcome State Fault Refusal :=
  .next (s.takeRequest .noticeRead l [])

/-- R173: COUNTERS_READ, carried out by `ownCountersRead`. -/
def execCountersRead (l : Link) (s : State) : Host.Outcome State Fault Refusal :=
  .next (s.takeRequest .countersRead l [])

/-- R173: COUNTERS_CLEAR, carried out by `ownCountersClear`. -/
def execCountersClear (l : Link) (s : State) : Host.Outcome State Fault Refusal :=
  .next (s.takeRequest .countersClear l [])

/-- R175: RESTART, carried out by `ownRestart`. -/
def execRestart (l : Link) (s : State) : Host.Outcome State Fault Refusal :=
  .next (s.takeRequest .restart l [])

/-- R151: SESSION_START, carried out by `ownSessionStart`. -/
def execSessionStart (l : Link) (s : State) : Host.Outcome State Fault Refusal :=
  .next (s.takeRequest .sessionStart l [])

/-- R153: SESSION_END, carried out by `ownSessionEnd`. -/
def execSessionEnd (l : Link) (s : State) : Host.Outcome State Fault Refusal :=
  .next (s.takeRequest .sessionEnd l [])

/-- R154: SESSION_EXTEND, carried out by `ownSessionExtend`. -/
def execSessionExtend (l : Link) (s : State) : Host.Outcome State Fault Refusal :=
  .next (s.takeRequest .sessionExtend l [])

/-- R157: LAMP_LEVEL, carried out by `ownLampLevel`. -/
def execLampLevel (l : Link) (level : Byte) (s : State) : Host.Outcome State Fault Refusal :=
  .next (s.takeRequest .lampLevel l [level])

/-- R41: LAMP_READ, carried out by `ownLampRead`. -/
def execLampRead (l : Link) (s : State) : Host.Outcome State Fault Refusal :=
  .next (s.takeRequest .lampRead l [])

/-- R12: LAMP_REPLACED, carried out by `ownLampReplaced`. -/
def execLampReplaced (l : Link) (s : State) : Host.Outcome State Fault Refusal :=
  .next (s.takeRequest .lampReplaced l [])

/-- R13: ACCOUNT_SET, carried out by `ownAccountSet`. -/
def execAccountSet (l : Link) (hours : BitVec 16) (s : State) : Host.Outcome State Fault Refusal :=
  .next (s.takeRequest .accountSet l (wordBytes hours))

/-- R68: SOURCE_SELECT, carried out by `ownSourceSelect`. -/
def execSourceSelect (l : Link) (plate : Byte) (s : State) : Host.Outcome State Fault Refusal :=
  .next (s.takeRequest .sourceSelect l [plate])

/-- R67: PICTURE_MUTE, carried out by `ownPictureMute`. -/
def execPictureMute (l : Link) (onOff : Byte) (s : State) : Host.Outcome State Fault Refusal :=
  .next (s.takeRequest .pictureMute l [onOff])

/-- R86: SOURCE_READ, carried out by `ownSourceRead`. -/
def execSourceRead (l : Link) (s : State) : Host.Outcome State Fault Refusal :=
  .next (s.takeRequest .sourceRead l [])

/-- R59: PLATE_READ, carried out by `ownPlateRead`. -/
def execPlateRead (l : Link) (s : State) : Host.Outcome State Fault Refusal :=
  .next (s.takeRequest .plateRead l [])

/-- R98: GEOMETRY_SET, carried out by `ownGeometrySet`. -/
def execGeometrySet (l : Link) (mode v h trim : Byte) (s : State) : Host.Outcome State Fault Refusal :=
  .next (s.takeRequest .geometrySet l [mode, v, h, trim])

/-- R99: GEOMETRY_TRIM, carried out by `ownGeometryTrim`. -/
def execGeometryTrim (l : Link) (dv dh : Byte) (s : State) : Host.Outcome State Fault Refusal :=
  .next (s.takeRequest .geometryTrim l [dv, dh])

/-- R100: PRESET_STORE, carried out by `ownPresetStore`. -/
def execPresetStore (l : Link) (s : State) : Host.Outcome State Fault Refusal :=
  .next (s.takeRequest .presetStore l [])

/-- R103: GEOMETRY_READ, carried out by `ownGeometryRead`. -/
def execGeometryRead (l : Link) (plate : Option Byte) (s : State) : Host.Outcome State Fault Refusal :=
  .next (s.takeRequest .geometryRead l plate.toList)

/-- R91: TILT_REPORT, carried out by `ownTiltReport`. -/
def execTiltReport (l : Link) (tilt : BitVec 16) (s : State) : Host.Outcome State Fault Refusal :=
  .next (s.takeRequest .tiltReport l (wordBytes tilt))

/-- R34: ENGINE_REPORT, carried out by `ownEngineReport`. -/
def execEngineReport (l : Link) (temperature : Byte) (s : State) : Host.Outcome State Fault Refusal :=
  .next (s.takeRequest .engineReport l [temperature])

/-- R107: OVERRIDE_SET, carried out by `ownOverrideSet`. -/
def execOverrideSet (l : Link) (level : Byte) (minutes : Option (BitVec 16)) (s : State) : Host.Outcome State Fault Refusal :=
  .next (s.takeRequest .overrideSet l (level :: minuteField minutes))

/-- R108: OVERRIDE_CLEAR, carried out by `ownOverrideClear`. -/
def execOverrideClear (l : Link) (s : State) : Host.Outcome State Fault Refusal :=
  .next (s.takeRequest .overrideClear l [])

/-- R118: LOCKOUT_READ, carried out by `ownLockoutRead`. -/
def execLockoutRead (l : Link) (s : State) : Host.Outcome State Fault Refusal :=
  .next (s.takeRequest .lockoutRead l [])

/-- R124: CLOCK_SET, carried out by `ownClockSet`. -/
def execClockSet (l : Link) (date : RawDate) (hour minute : Byte) (s : State) : Host.Outcome State Fault Refusal :=
  .next (s.takeRequest .clockSet l (rawDateBytes date ++ [hour, minute]))

/-- R125: CLOCK_READ, carried out by `ownClockRead`. -/
def execClockRead (l : Link) (s : State) : Host.Outcome State Fault Refusal :=
  .next (s.takeRequest .clockRead l [])

/-- R130: ENTRY_PUT, carried out by `ownEntryPut`. -/
def execEntryPut (l : Link) (entry : RawEntry) (s : State) : Host.Outcome State Fault Refusal :=
  .next (s.takeRequest .entryPut l (entryPayload entry))

/-- R131: ENTRY_DELETE, carried out by `ownEntryDelete`. -/
def execEntryDelete (l : Link) (id : Byte) (s : State) : Host.Outcome State Fault Refusal :=
  .next (s.takeRequest .entryDelete l [id])

/-- R132: ENTRY_READ, carried out by `ownEntryRead`. -/
def execEntryRead (l : Link) (id : Byte) (s : State) : Host.Outcome State Fault Refusal :=
  .next (s.takeRequest .entryRead l [id])

/-- R132: ENTRY_LIST, carried out by `ownEntryList`. -/
def execEntryList (l : Link) (s : State) : Host.Outcome State Fault Refusal :=
  .next (s.takeRequest .entryList l [])

/-- R131: SCHEDULE_CLEAR, carried out by `ownScheduleClear`. -/
def execScheduleClear (l : Link) (s : State) : Host.Outcome State Fault Refusal :=
  .next (s.takeRequest .scheduleClear l [])

/-- R136: OCCURRENCE_READ, carried out by `ownOccurrenceRead`. -/
def execOccurrenceRead (l : Link) (s : State) : Host.Outcome State Fault Refusal :=
  .next (s.takeRequest .occurrenceRead l [])

/-- R181: SETTING_WRITE, carried out by `ownSettingWrite`. -/
def execSettingWrite (l : Link) (id : Byte) (value : BitVec 32) (s : State) : Host.Outcome State Fault Refusal :=
  .next (s.takeRequest .settingWrite l (id :: longBytes value))

/-- R182: SETTING_READ, carried out by `ownSettingRead`. -/
def execSettingRead (l : Link) (id : Byte) (s : State) : Host.Outcome State Fault Refusal :=
  .next (s.takeRequest .settingRead l [id])

end Sys2Proof.Machine
end

