-- ==== Sys2Proof/Machine/Dispatch.lean ====
section
/-! DEFINITION. Each command's meaning: one arm for each row of spec/opcode_table.json. -/

namespace Sys2Proof.Machine

def exec (i : Instr) (s : State) : Host.Outcome State Fault Refusal :=
  match i with
  | .powerOn cut backup => Sys2Proof.Machine.execPowerOn cut backup s
  | .resetPin cut => Sys2Proof.Machine.execResetPin cut s
  | .supplyDrop cut => Sys2Proof.Machine.execSupplyDrop cut s
  | .startUpComplete => Sys2Proof.Machine.execStartUpComplete s
  | .receiveByte l b => Sys2Proof.Machine.execReceiveByte l b s
  | .gap l => Sys2Proof.Machine.execGap l s
  | .frameTake l => Sys2Proof.Machine.execFrameTake l s
  | .responseSent l cut => Sys2Proof.Machine.execResponseSent l cut s
  | .engineSilence => Sys2Proof.Machine.execEngineSilence s
  | .roomRead l => Sys2Proof.Machine.execRoomRead l s
  | .noticeRead l => Sys2Proof.Machine.execNoticeRead l s
  | .countersRead l => Sys2Proof.Machine.execCountersRead l s
  | .countersClear l => Sys2Proof.Machine.execCountersClear l s
  | .restart l => Sys2Proof.Machine.execRestart l s
  | .sessionStart l => Sys2Proof.Machine.execSessionStart l s
  | .sessionEnd l => Sys2Proof.Machine.execSessionEnd l s
  | .sessionExtend l => Sys2Proof.Machine.execSessionExtend l s
  | .lampLevel l level => Sys2Proof.Machine.execLampLevel l level s
  | .lampRead l => Sys2Proof.Machine.execLampRead l s
  | .lampReplaced l => Sys2Proof.Machine.execLampReplaced l s
  | .accountSet l hours => Sys2Proof.Machine.execAccountSet l hours s
  | .sourceSelect l plate => Sys2Proof.Machine.execSourceSelect l plate s
  | .pictureMute l onOff => Sys2Proof.Machine.execPictureMute l onOff s
  | .sourceRead l => Sys2Proof.Machine.execSourceRead l s
  | .plateRead l => Sys2Proof.Machine.execPlateRead l s
  | .geometrySet l mode v h trim => Sys2Proof.Machine.execGeometrySet l mode v h trim s
  | .geometryTrim l dv dh => Sys2Proof.Machine.execGeometryTrim l dv dh s
  | .presetStore l => Sys2Proof.Machine.execPresetStore l s
  | .geometryRead l plate => Sys2Proof.Machine.execGeometryRead l plate s
  | .tiltReport l tilt => Sys2Proof.Machine.execTiltReport l tilt s
  | .engineReport l temperature => Sys2Proof.Machine.execEngineReport l temperature s
  | .overrideSet l level minutes => Sys2Proof.Machine.execOverrideSet l level minutes s
  | .overrideClear l => Sys2Proof.Machine.execOverrideClear l s
  | .lockoutRead l => Sys2Proof.Machine.execLockoutRead l s
  | .clockSet l date hour minute => Sys2Proof.Machine.execClockSet l date hour minute s
  | .clockRead l => Sys2Proof.Machine.execClockRead l s
  | .entryPut l entry => Sys2Proof.Machine.execEntryPut l entry s
  | .entryDelete l id => Sys2Proof.Machine.execEntryDelete l id s
  | .entryRead l id => Sys2Proof.Machine.execEntryRead l id s
  | .entryList l => Sys2Proof.Machine.execEntryList l s
  | .scheduleClear l => Sys2Proof.Machine.execScheduleClear l s
  | .occurrenceRead l => Sys2Proof.Machine.execOccurrenceRead l s
  | .settingWrite l id value => Sys2Proof.Machine.execSettingWrite l id value s
  | .settingRead l id => Sys2Proof.Machine.execSettingRead l id s
  | .secondEvent chargeFirst countdownFirst => Sys2Proof.Machine.execSecondEvent chargeFirst countdownFirst s
  | .litChange high dt => Sys2Proof.Machine.execLitChange high dt s
  | .litConfirmed => Sys2Proof.Machine.execLitConfirmed s
  | .outage => Sys2Proof.Machine.execOutage s
  | .strikeWindowExpiry => Sys2Proof.Machine.execStrikeWindowExpiry s
  | .retryWaitExpiry => Sys2Proof.Machine.execRetryWaitExpiry s
  | .warmUpExpiry => Sys2Proof.Machine.execWarmUpExpiry s
  | .cooldownExpiry => Sys2Proof.Machine.execCooldownExpiry s
  | .pollSent => Sys2Proof.Machine.execPollSent s
  | .busByteReceived b => Sys2Proof.Machine.execBusByteReceived b s
  | .replyWindowExpiry => Sys2Proof.Machine.execReplyWindowExpiry s
  | .cycleGapExpiry => Sys2Proof.Machine.execCycleGapExpiry s
  | .vsyncEdge edge dt => Sys2Proof.Machine.execVsyncEdge edge dt s
  | .muteLeadExpiry => Sys2Proof.Machine.execMuteLeadExpiry s
  | .maskExpiry => Sys2Proof.Machine.execMaskExpiry s
  | .seekWindowExpiry => Sys2Proof.Machine.execSeekWindowExpiry s
  | .confirmDelayExpiry => Sys2Proof.Machine.execConfirmDelayExpiry s
  | .syncWatchExpiry => Sys2Proof.Machine.execSyncWatchExpiry s
  | .tiltSilenceExpiry => Sys2Proof.Machine.execTiltSilenceExpiry s
  | .writeComplete readBack => Sys2Proof.Machine.execWriteComplete readBack s
  | .supplyWarning => Sys2Proof.Machine.execSupplyWarning s
  | .supplyRecover => Sys2Proof.Machine.execSupplyRecover s

end Sys2Proof.Machine
end

