-- ==== Sys2Proof/Safety.lean ====
section
/-! DEFINITION. The terms claims are stated in: frames by block, notices raised, what a routing action leaves, the frames
that carry each request, and the invariants of the LH14. -/

namespace Sys2Proof.Machine

open Sys2Proof.Config

/-! ## Frames -/

/-- The blocks of the state (00_scope), with the model's own fields. `links` is the three link interfaces without what
raising a notice touches; `notice n` is the flag of a notice in the three pending sets, `attention` the attention lines. -/
inductive Block where
  | queue | time | choices | settings | account | lamp | scanner | switch | geometry | policy | clock | table | finder
  | session | links | notice (n : Notice) | attention | receivers | silence | restart | store | supply | startUp | pins
  deriving DecidableEq, Repr

/-- A link without its pending set and attention line. -/
def LinkState.quiet (x : LinkState) : LinkState := { x with notices := 0, attention := false }

/-- A block is the same in two states. -/
def Block.same (b : Block) (s t : State) : Prop :=
  match b with
  | .queue => t.pending = s.pending
  | .time => t.now = s.now
  | .choices => t.choices = s.choices
  | .settings => t.settings = s.settings
  | .account => t.account = s.account
  | .lamp => t.lamp = s.lamp
  | .scanner => t.scanner = s.scanner
  | .switch => t.switch = s.switch
  | .geometry => t.geometry = s.geometry
  | .policy => t.policy = s.policy
  | .clock => t.clock = s.clock
  | .table => t.table = s.table
  | .finder => t.finder = s.finder
  | .session => t.session = s.session
  | .links => ∀ l, (t.link l).quiet = (s.link l).quiet
  | .notice n => ∀ l, (t.link l).notices &&& n.flag = (s.link l).notices &&& n.flag
  | .attention => ∀ l, (t.link l).attention = (s.link l).attention
  | .receivers => t.receiversOn = s.receiversOn
  | .silence => t.silence = s.silence
  | .restart => t.restartArmed = s.restartArmed
  | .store => t.store = s.store
  | .supply => t.supply = s.supply
  | .startUp => t.startUpDone = s.startUpDone
  | .pins => t.pins = s.pins

/-- Every block but those named is the same in two states. -/
def Untouched (touched : List Block) (s t : State) : Prop := ∀ b, b ∉ touched → b.same s t

/-- What a change of MUTE can touch (R66). -/
def muteBlocks : List Block := [.pins, .notice .picture, .attention]
/-- What a change of the lamp controller can touch while no attempt starts and no burn ends (R40, R65). -/
def ballastBlocks : List Block := .lamp :: .notice .lamp :: muteBlocks
/-- What the strike gate can touch (R24, R33). -/
def strikeBlocks : List Block := .account :: .notice .account :: ballastBlocks
/-- What the end of a burn can touch (R8, R15). -/
def burnBlocks : List Block := .store :: strikeBlocks
/-- What a change of the base level or of the override can touch (R110). -/
def policyBlocks : List Block := .policy :: .notice .lockout :: strikeBlocks
/-- What the session controller's handing over can touch (R143). -/
def handOverBlocks : List Block := .store :: .switch :: policyBlocks
/-- What a request to the switch sequencer can touch (R64, R69, R70). -/
def routeBlocks : List Block := .switch :: .geometry :: .notice .geometry :: muteBlocks
/-- What a runner event can touch (R142, R143). -/
def runnerBlocks : List Block := .session :: .notice .session :: .geometry :: .notice .geometry :: handOverBlocks

/-- R169: a notice is in the pending set of every link. -/
def Pending (n : Notice) (t : State) : Prop := ∀ l, (t.link l).notices &&& n.flag = n.flag

/-- R173: one error counter of a link is 1 higher, and LINK is pending on that link, unless the counter stood at 255; the link
is otherwise `x` but for its attention line. -/
def Counted (c : ErrorCounter) (x y : LinkState) : Prop :=
  if x.count c < cap8 then
    y.quiet = (x.setCount c (x.count c + 1)).quiet ∧ y.notices = x.notices ||| Notice.link.flag
  else y.quiet = x.quiet ∧ y.notices = x.notices

/-- Every link but one is the same in two states. -/
def OtherLinksSame (l : Link) (s t : State) : Prop := ∀ k, k ≠ l → t.link k = s.link k

/-- R174: the silence count and flag once a valid frame on a link has been heard. -/
def heardOn (l : Link) (s : State) : Silence :=
  match l with
  | .engine => { since := some s.now, flag := false }
  | _ => s.silence

/-- R178, R179: a kind is queued once at the tail while a write runs; in IDLE with nothing waiting its write begins at once
with the content given. -/
def Queued (k : Kind) (content : Record) (s t : State) : Prop :=
  (s.store.write.isSome → t.store = { s.store with queue := enqueue s.store.queue k })
    ∧ (s.startUpDone = true → s.store.write = none → s.store.queue = [] →
        t.store = { s.store with write := some ⟨k, content.sealed, false, s.now + writeDuration k⟩ })

/-! ## Requests (09, 11) -/

/-- The link and the command of a request row. -/
def requestOf : Instr → Option (Link × Command)
  | .roomRead l => some (l, .roomRead)
  | .noticeRead l => some (l, .noticeRead)
  | .countersRead l => some (l, .countersRead)
  | .countersClear l => some (l, .countersClear)
  | .restart l => some (l, .restart)
  | .sessionStart l => some (l, .sessionStart)
  | .sessionEnd l => some (l, .sessionEnd)
  | .sessionExtend l => some (l, .sessionExtend)
  | .lampLevel l _ => some (l, .lampLevel)
  | .lampRead l => some (l, .lampRead)
  | .lampReplaced l => some (l, .lampReplaced)
  | .accountSet l _ => some (l, .accountSet)
  | .sourceSelect l _ => some (l, .sourceSelect)
  | .pictureMute l _ => some (l, .pictureMute)
  | .sourceRead l => some (l, .sourceRead)
  | .plateRead l => some (l, .plateRead)
  | .geometrySet l _ _ _ _ => some (l, .geometrySet)
  | .geometryTrim l _ _ => some (l, .geometryTrim)
  | .presetStore l => some (l, .presetStore)
  | .geometryRead l _ => some (l, .geometryRead)
  | .tiltReport l _ => some (l, .tiltReport)
  | .engineReport l _ => some (l, .engineReport)
  | .overrideSet l _ _ => some (l, .overrideSet)
  | .overrideClear l => some (l, .overrideClear)
  | .lockoutRead l => some (l, .lockoutRead)
  | .clockSet l _ _ _ => some (l, .clockSet)
  | .clockRead l => some (l, .clockRead)
  | .entryPut l _ => some (l, .entryPut)
  | .entryDelete l _ => some (l, .entryDelete)
  | .entryRead l _ => some (l, .entryRead)
  | .entryList l => some (l, .entryList)
  | .scheduleClear l => some (l, .scheduleClear)
  | .occurrenceRead l => some (l, .occurrenceRead)
  | .settingWrite l _ _ => some (l, .settingWrite)
  | .settingRead l _ => some (l, .settingRead)
  | _ => none

/-- 11, COMMAND CODES: the payload of a request row. -/
def payloadOf : Instr → List Byte
  | .lampLevel _ level => [level]
  | .accountSet _ hours => wordBytes hours
  | .sourceSelect _ plate => [plate]
  | .pictureMute _ onOff => [onOff]
  | .geometrySet _ mode v h trim => [mode, v, h, trim]
  | .geometryTrim _ dv dh => [dv, dh]
  | .geometryRead _ plate => plate.toList
  | .tiltReport _ tilt => wordBytes tilt
  | .engineReport _ temperature => [temperature]
  | .overrideSet _ level minutes => level :: minuteField minutes
  | .clockSet _ date hour minute => rawDateBytes date ++ [hour, minute]
  | .entryPut _ entry => entryPayload entry
  | .entryDelete _ id => [id]
  | .entryRead _ id => [id]
  | .settingWrite _ id value => id :: longBytes value
  | .settingRead _ id => [id]
  | _ => []

/-! ## Answers -/

/-- R162, R164, R166: a link that is READY with its receiver in HUNT and nothing in its buffer, as it stands for a controller
that waits for each answer. -/
def Listening (l : Link) (s : State) : Prop :=
  s.receiversOn = true ∧ (s.link l).answering = .ready ∧ (s.link l).collecting = none ∧ (s.link l).frames = []
    ∧ (s.link l).inHand = none

/-- R111, R112, R113, R168: the link accepts a command and the level permits it. -/
def Permitted (c : Command) (l : Link) (s : State) : Prop :=
  c.acceptedOn l = true ∧ c.judgement.permits (requesterOf l) s.policy.effective = true

/-- A listening link on which a command is permitted. -/
def Admitted (c : Command) (l : Link) (s : State) : Prop := Listening l s ∧ Permitted c l s

/-- R162, R165, R166, R174: the state in which the request of a row is carried out on a listening link: its frame has arrived
and is in hand, and on the engine link the silence count is started again and the flag cleared. -/
def State.hearing (s : State) (i : Instr) : State :=
  match requestOf i with
  | some (l, c) =>
    (s.setLink l { s.link l with lastByteAt := s.now, inHand := some (requestFrame c (payloadOf i)) }).hear l
  | none => s

/-- R162: the state in which the frame of a request row waits behind the complete frames of its link. -/
def State.waiting (s : State) (i : Instr) : State :=
  match requestOf i with
  | some (l, c) =>
    s.setLink l { s.link l with
      lastByteAt := s.now, frames := (s.link l).frames ++ [requestFrame c (payloadOf i)] }
  | none => s

/-- R166: the next state in which a link has begun to send its answer to a command, with the status and the payload given,
everything else being as in `u`. -/
def answered (c : Command) (l : Link) (u : State) (status : Status) (payload : List Byte) :
    Host.Outcome State Fault Refusal :=
  .next (State.respond l c.code ⟨u, status, payload⟩)

/-- R187: the payload lengths a command carries. -/
def payloadFits (c : Command) (payload : List Byte) : Bool :=
  match c with
  | .geometryRead => payload.length == 0 || payload.length == 1
  | .overrideSet => payload.length == 1 || payload.length == 3
  | .entryPut => 23 ≤ payload.length && payload.length == 23 + (nth payload 22 0).toNat
  | .lampLevel | .sourceSelect | .pictureMute | .engineReport | .entryDelete | .entryRead | .settingRead =>
    payload.length == 1
  | .accountSet | .geometryTrim | .tiltReport => payload.length == 2
  | .geometrySet => payload.length == 4
  | .settingWrite => payload.length == 5
  | .clockSet => payload.length == 6
  | _ => payload.length == 0

/-! ## The clock and the session -/

/-- R148, R149: whether a session ending with no current occurrence becomes a bridge. -/
def BridgeCalledFor (v : Settings) (f : Finder) (lamp : LampState) : Prop :=
  let g := f.lead
  let burn := 600 * g
  let restrike := if v.warmWindow ≤ 60 * g then v.strikeCost * 960 else 2 * (v.strikeCost * 960)
  let feasible := (v.cooldown + 59) / 60 + v.lead ≤ g
  f.next ≠ none ∧ 0 < v.bridgeMax ∧ 1 ≤ g ∧ g ≤ v.bridgeMax
    ∧ (lamp = .striking .attempt ∨ lamp = .striking .retryWait ∨ lamp = .warming ∨ lamp = .lit) ∧ (¬feasible ∨ burn ≤ restrike)

/-- R144, R148: the session that is left when one ends with no current occurrence and no bridge: the pre-warm of the next
occurrence within the lead, or none. -/
def EndedSession (v : Settings) (f : Finder) (t : State) : Prop :=
  (f.next = none ∨ v.lead < f.lead → t.session = { use := .none, demand := false, requested := .normal })
  ∧ (∀ x e, f.next = some x → f.lead ≤ v.lead → entryOf t.table x.id = some e →
      t.session =
        { use := .booked
            { id := x.id, date := x.date, running := false, start := x.date.number * 1440 + x.start
              stop := x.date.number * 1440 + x.stop, label := e.label, owed := none }
          demand := true, requested := .normal })

/-- R156: after a clock set or a table change with no current occurrence, a walk-up or a bridge that goes on ends no later
than its bound and the next start. One whose end has come so ends: a walk-up in the bridge of R149 or as a bridge does, which
lapses into a pre-warm that is due or into no session (R147, R148, R150). -/
def EndClamped (now : Nat) (s u : State) : Prop :=
  let f := u.finder
  let least := fun bound : Nat => match f.next with
    | none => bound
    | some x => min bound (x.date.number * 1440 + x.start)
  f.current = none →
    (∀ a b w, s.session.use = .walkup a b w →
      let stop := least (min b (now + 240))
      (now < stop → u.session.use = .walkup a stop (decide (stop ≤ now + 5)))
      ∧ (stop ≤ now → BridgeCalledFor s.settings f s.lamp.state → ∀ x, f.next = some x →
          u.session = { use := .bridge now (x.date.number * 1440 + x.start), demand := true, requested := .eco })
      ∧ (stop ≤ now → ¬BridgeCalledFor s.settings f s.lamp.state → EndedSession s.settings f u))
    ∧ (∀ a b, s.session.use = .bridge a b →
      let stop := least (min b (now + s.settings.bridgeMax))
      (now < stop → u.session.use = .bridge a stop) ∧ (stop ≤ now → EndedSession s.settings f u))

/-- R130, R131, R178, R179: a table change queues SCHEDULE once behind a write in flight, and in an idle store with nothing
waiting begins its write with the new table; where the lamp's state stays, nothing else is queued. -/
def ScheduleQueued (s u : State) : Prop :=
  (∀ w, s.store.write = some w → u.store.write = some w ∧ .schedule ∈ u.store.queue)
  ∧ (s.startUpDone = true → s.store.write = none → s.store.queue = [] →
      u.store.write
        = some ⟨.schedule, (Record.schedule (u.table.map Entry.raw)).sealed, false, s.now + writeDuration .schedule⟩)
  ∧ (u.lamp.state = s.lamp.state → Queued .schedule (.schedule (u.table.map Entry.raw)) s u)

/-! ## The lamp as demand turns -/

/-- R10: strike permission, at an effective level. -/
def Permission (a : Account) (level : Level) : Prop := a.status ≠ .expired ∨ level = .service ∨ 0 < a.record.grace

/-- R22, R30, R6 to R8, R15: what a change of demand to off leaves of the lamp and its account, by the lamp state it finds. A
new effective level handed over before it (R143) can first let a held strike go (R33), which the change then puts out. -/
def SwitchedOff (s u : State) : Prop :=
  let kept := fun x : LampState =>
    { s.lamp with state := x, demand := false, requested := u.lamp.requested, effective := u.lamp.effective }
  let letGo := u.policy.effective ≠ s.policy.effective ∧ s.lamp.temp ≠ .hot ∧ Permission s.account u.policy.effective
  s.lamp.demand = true → u.lamp.demand = false ∧
    (∀ p, s.lamp.state = .cooling p → u.lamp = kept (.cooling false) ∧ u.account = s.account)
    ∧ (s.lamp.state = .failed → u.lamp = { kept (.off .none) with attempts := 0 } ∧ u.account = s.account ∧ Pending .lamp u)
    ∧ (∀ b, s.lamp.state = .off b → b = .none ∨ ¬letGo →
        u.lamp = { kept (.off .none) with litHold := u.lamp.litHold } ∧ u.account = s.account
          ∧ (b ≠ .none → Pending .lamp u))
    ∧ (∀ b, s.lamp.state = .off b → b ≠ .none → letGo → u.lamp.state = .cooling false ∧ u.pins.lampEn = false)
    ∧ (s.lamp.state = .striking .attempt ∨ s.lamp.state = .striking .retryWait ∨ s.lamp.state = .warming
          ∨ s.lamp.state = .lit →
        u.lamp = { kept (.cooling false) with
            timerStart := s.now, timerLength := s.settings.cooldown * 1000000, litHold := none }
          ∧ u.pins.lampEn = false ∧ u.pins.ignite = false ∧ u.pins.fan = true ∧ u.pins.mute = true ∧ Pending .lamp u
          ∧ u.account = { s.account with
              record := { s.account.record with lastBurn := s.account.currentBurn }
              warmCount := 0, attempt := none, checkpoint := 0 }
          ∧ Queued .account (.account u.account.record) s u)

/-- R22 to R24, R33, R5: what a change of demand to on leaves of the lamp and its account, in COOLING and in OFF; in the
other states demand is on already (R20). -/
def SwitchedOn (s u : State) : Prop :=
  let kept := fun x : LampState =>
    { s.lamp with state := x, demand := true, requested := u.lamp.requested, effective := u.lamp.effective }
  let permitted := Permission s.account u.policy.effective
  let hot := s.account.warmCount < s.settings.warmWindow
  let wear := min 3774873599 (s.account.record.wear + s.settings.strikeCost * 960 * if hot then 2 else 1)
  s.lamp.demand = false → u.lamp.demand = true ∧
    (∀ p, s.lamp.state = .cooling p → u.lamp = kept (.cooling true) ∧ u.account = s.account)
    ∧ (s.lamp.state = .off .none →
        (s.lamp.temp = .hot →
          u.lamp = { kept (.off .thermal) with litHold := none } ∧ u.account = s.account ∧ Pending .lamp u)
        ∧ (s.lamp.temp ≠ .hot → ¬permitted →
          u.lamp = { kept (.off .account) with litHold := none } ∧ u.account = s.account ∧ Pending .lamp u
            ∧ Pending .account u)
        ∧ (s.lamp.temp ≠ .hot → permitted →
          u.lamp = { kept (.striking .attempt) with
              attempts := 1, timeToLight := 0, timerStart := s.now
              timerLength := s.settings.strikeWindow * 1000000, igniteAt := s.now
              litHold := if s.pins.lit then some s.now else none }
            ∧ u.pins.lampEn = true ∧ u.pins.ignite = true ∧ u.pins.fan = true ∧ Pending .lamp u
            ∧ u.account = { s.account with
                record := { s.account.record with wear := wear }
                attempt := some (decide hot), currentBurn := 0
                status := statusOf (wear / 57600) s.settings.lifeLimit s.settings.warningMargin }
            ∧ (u.account.status ≠ s.account.status → Pending .account u)))

/-! ## Between a reset and the end of start-up -/

/-- R176, R184, with log entry 25: a state that a reset has led to, start-up not yet run. Since the reset the clock and the warm
count may have counted, LIT and SUPPLY_SENSE moved, and bytes arrived on the links, which are HELD. -/
def StartingUp (s : State) : Prop :=
  s.startUpDone = false ∧ (∀ l, (s.link l).answering = .held) ∧
    ∃ (before : State) (cause : Cause) (cut : SlotLeft), let r := before.afterReset cause cut
      s = { r with
        now := s.now, choices := s.choices, clock := s.clock, receiversOn := s.receiversOn
        account := { r.account with warmCount := s.account.warmCount }
        supply := { r.supply with senseLow := s.supply.senseLow }
        pins := { r.pins with lit := s.pins.lit }
        engine := s.engine, lectern := s.lectern, campus := s.campus }

/-- R145, R146: the record of a booked start for an occurrence and its entry, the demand given, and what its source leaves
owed. -/
def StartedFor (c : Occurrence) (e : Entry) (terms : Terms) (demand : Bool) (s t : State) : Prop :=
  ∃ owed, t.session =
      { use := .booked
          { id := c.id, date := c.date, running := true, start := c.date.number * 1440 + c.start
            stop := c.date.number * 1440 + c.stop, label := e.label, owed := owed }
        demand := demand, requested := terms.lamp }
    ∧ t.policy.base = terms.level ∧ t.lamp.demand = demand ∧ t.lamp.requested = terms.lamp ∧ t.switch.bridgeMute = false
    ∧ (terms.source = 0 → owed = none ∧ t.switch.target = s.switch.target)
    ∧ (terms.source ≠ 0 → t.switch.target = terms.source → owed = none)
    ∧ (terms.source ≠ 0 → t.switch.target ≠ terms.source → owed = some t.switch.target)

/-! ## The switch sequencer and the bus -/

/-- R64, R101: what the routing action to a plate leaves, with the origin given. -/
def RoutedTo (plate : Nat) (origin : Option Origin) (s t : State) : Prop :=
  t.switch =
      { s.switch with
        state := .masking, routed := plate, target := plate, origin := origin, lockTime := 0, reference := none, ring := []
        streak := 0, missMark := false, timerEnd := s.now + s.settings.maskTime * 1000, routedAt := s.now }
    ∧ t.pins = { s.pins with srcSel := plate, mute := true }
    ∧ t.geometry =
        { s.geometry with active := nth s.geometry.presets plate {}, requestClamp := false }.derive s.settings.panelWidth
          s.settings.panelHeight
    ∧ Untouched routeBlocks s t

/-- R74: what an entry to SEEKING leaves, with the reference edge and the origin given. -/
def SeekingFrom (reference : Option Nat) (origin : Option Origin) (s t : State) : Prop :=
  t.switch =
      { s.switch with
        state := .seeking, origin := origin, edge := (s.plate s.switch.routed).syncEdge, ring := [], streak := 0
        missMark := false, reference := reference, timerEnd := s.now + s.settings.seekWindow * 1000 }
    ∧ t.pins = { s.pins with mute := true }
    ∧ Untouched (.switch :: muteBlocks) s t

/-- R45, R46: after the slot of an address comes the POLL of the next address, or the cycle gap of 50 ms. -/
def SlotAfter (address : Nat) (s t : State) : Prop :=
  if address < s.scanner.finalInForce then
    t.scanner.slot = .polling (address + 1) (t.pollFrame (address + 1)) (s.now + 240) ∧ t.pins.busDe = true
  else t.scanner.slot = .cycleGap (s.now + 50000) ∧ t.pins.busDe = s.pins.busDe

/-! ## Invariants -/

/-- A property that every step keeps, from every state that has it. -/
def KeptByEveryStep (Inv : State → Prop) : Prop := ∀ s t, Inv s → step s = .next t → Inv t

/-- R171: every attention line is low exactly when its link is not HELD and a pending flag is in its enable mask. -/
def State.linesFollow (s : State) : Prop :=
  ∀ l, (s.link l).attention =
    ((s.link l).answering != .held && ((s.link l).notices &&& s.settings.maskOf l) != 0)

/-- R65, R64, Law 6: MUTE is driven by its four causes, and SRCSEL holds the routed plate. -/
def State.pictureFollows (s : State) : Prop :=
  s.pins.srcSel = s.switch.routed
    ∧ s.pins.mute =
        (s.switch.state != .showing || s.switch.pictureMute || s.switch.bridgeMute
          || !(s.lamp.state == .warming || s.lamp.state == .lit))

/-- R20, R37, R38, R39, Laws 1, 2 and 5: demand and the lamp state stand in R20's relation, the effective level is the lowest
of its three limits, the ballast outputs follow the lamp state, and no burn or strike is under way while the temperature
state is HOT. -/
def State.lampFollows (s : State) : Prop :=
  s.lamp.demand = (match s.lamp.state with
      | .off blocked => blocked != .none
      | .cooling pendingStrike => pendingStrike
      | _ => true)
    ∧ s.lamp.effective =
        (if s.lamp.temp ≠ .normal ∨ s.lamp.requested = .eco then .eco
         else if s.lamp.requested = .boost ∧ s.account.status = .good then .boost else .normal)
    ∧ s.pins.lampEn = (s.lamp.state == .striking .attempt || s.lamp.state == .warming || s.lamp.state == .lit)
    ∧ s.pins.ignite = (s.lamp.state == .striking .attempt)
    ∧ s.pins.level =
        (if s.lamp.state = .lit then s.lamp.effective else if s.lamp.temp = .normal then .normal else .eco)
    ∧ s.pins.fan = (match s.lamp.state with
        | .off _ => s.lamp.temp != .normal
        | .failed => s.lamp.temp != .normal
        | _ => true)
    ∧ (s.lamp.temp = .hot → s.lamp.state ≠ .striking .attempt ∧ s.lamp.state ≠ .striking .retryWait
        ∧ s.lamp.state ≠ .warming ∧ s.lamp.state ≠ .lit)

/-- R178, Law 11: the write queue holds each kind at most once, so at most four. -/
def State.queueDistinct (s : State) : Prop := s.store.queue.Nodup

/-- R127 to R130, Law 8: at most 32 entries, each valid, ids ascending (so distinct), no two in conflict. -/
def State.tableGood (s : State) : Prop :=
  s.table.length ≤ tableSize ∧ (∀ e ∈ s.table, e.valid = true)
    ∧ s.table.Pairwise (fun a b => a.id < b.id ∧ a.conflicts b = false)

/-- R88: the four stored fields lie in their ranges. -/
def Preset.inRange (p : Preset) : Prop :=
  -40 ≤ p.vManual ∧ p.vManual ≤ 40 ∧ -30 ≤ p.h ∧ p.h ≤ 30 ∧ -10 ≤ p.vTrim ∧ p.vTrim ≤ 10

/-- R88, R94, R95, R96, Law 7: the stored fields and presets lie in range, and v_eff, CLAMPED and the corners are those the
rules give from them. -/
def State.geometryFollows (s : State) : Prop :=
  s.geometry.active.inRange ∧ (∀ p ∈ s.geometry.presets, p.inRange)
    ∧ s.geometry.vEff = vEffOf s.geometry.active s.geometry.vAuto
    ∧ s.geometry.clamped = (s.geometry.requestClamp || verticalClamp s.geometry.active s.geometry.vAuto)
    ∧ s.geometry.corners =
        cornersOf s.geometry.vEff s.geometry.active.h s.settings.panelWidth s.settings.panelHeight

/-- R110, R143: the effective level is the override's level or the base level, and the values the session controller hands
over are those its neighbours hold. -/
def State.handedOver (s : State) : Prop :=
  s.policy.effective = (match s.policy.override with
      | some o => o.level
      | none => s.policy.base)
    ∧ s.policy.base = s.baseLevel ∧ s.lamp.requested = s.session.requested ∧ s.lamp.demand = s.session.demand
    ∧ s.switch.bridgeMute = s.session.use.bridgeMute

/-- R44, R54, R55, Law 10: twelve records; a PRESENT plate's miss streak lies below the miss limit. -/
def State.platesHeard (s : State) : Prop :=
  s.scanner.plates.length = 12 ∧ 1 ≤ s.settings.missLimit
    ∧ ∀ p ∈ s.scanner.plates, p.state = .present → p.missStreak < s.settings.missLimit

/-- R1: the fields of an account record lie in their ranges. -/
def AccountRecord.inRange (r : AccountRecord) : Prop :=
  r.wear ≤ 3774873599 ∧ r.burnSeconds ≤ 4294967295 ∧ r.ignitions ≤ 65535 ∧ r.hotIgnitions ≤ 65535
    ∧ r.failedAttempts ≤ 65535 ∧ r.outages ≤ 65535 ∧ r.grace ≤ 9 ∧ r.lastBurn ≤ 4294967295

/-- R1, R2, R4, R9, R15, Laws 3 and 4: the status is the one wear and the limits give, and every figure of the account, in
RAM, in its slot and in a write in flight, lies in its range. -/
def State.accountFollows (s : State) : Prop :=
  s.account.status = statusOf (s.account.record.wear / 57600) s.settings.lifeLimit s.settings.warningMargin
    ∧ s.account.record.inRange ∧ s.settings.graceSetting ≤ 9
    ∧ s.account.warmCount ≤ 1800 ∧ s.account.currentBurn ≤ 4294967295 ∧ s.account.checkpoint < 360
    ∧ (∀ r crc, s.store.slots.account = .whole (.account r) crc → r.inRange)
    ∧ ∀ w r crc, s.store.write = some w → w.slot = .whole (.account r) crc → r.inRange

/-- R134, R147, Law 9: from the end of start-up the finder's items are those the table and the clock give; a BOOKED RUNNING
session is of the current occurrence; with no session, demand is off at level NORMAL. -/
def State.timetableFollows (s : State) : Prop :=
  (s.startUpDone = true → s.finder = found s.table s.clock)
    ∧ (∀ b, s.session.use = .booked b → b.running = true → b.isOf s.finder.current = true)
    ∧ (s.session.use = .none → s.session = {})

/-- R120: the fields of the clock lie in their ranges. -/
def Clock.valid (c : Clock) : Prop := c.date.valid = true ∧ c.hour ≤ 23 ∧ c.minute ≤ 59 ∧ c.second ≤ 59

/-- R151, R154, R156, Law 9: the end of a WALKUP or BRIDGE is at most 240 minutes ahead and no later than the start of the
next occurrence. The rest is what this rests on: a good table, the finder in line with it, the clock and the settings that
bound the end in their ranges, and no session and every link HELD until start-up has completed. -/
def State.endsBounded (s : State) : Prop :=
  s.tableGood ∧ s.clock.valid ∧ s.settings.walkupLength ≤ 240 ∧ s.settings.bridgeMax ≤ 120
    ∧ (s.startUpDone = true → s.finder = found s.table s.clock)
    ∧ (s.startUpDone = false → s.session.use = .none ∧ ∀ l, (s.link l).answering = .held)
    ∧ ∀ e, (∃ a w, s.session.use = .walkup a e w) ∨ (∃ a, s.session.use = .bridge a e) →
        e ≤ s.clock.minuteCount + 240 ∧ ∀ x, s.finder.nextStart = some x → e ≤ x

/-- R164: no receive buffer holds more than 64 bytes. -/
def State.buffersFit (s : State) : Prop := ∀ l, (s.link l).held ≤ bufferSize

end Sys2Proof.Machine
end

