-- ==== Sys2Proof/Certificates/Slice0/Obligations.lean ====
section
/-! DEFINITION. The statements for the provers, in the order of OBLIGATIONS.json: one step, the invariants, frames and links,
resets and start-up, the reads, the requests, the timed events, the calendar and the policy table. -/

open Sys2Proof Sys2Proof.Machine Sys2Proof.Config

/-! ## One step -/

/-- The model's choice (log entries 1 and 26): the front command is taken and carried out on the state with the queue's
rest; on an empty queue one microsecond passes. -/
def Obligations.StepTakesTheFrontCommand : Prop :=
  (∀ (c : Instr) (rest : List Instr) (s : State), s.pending = c :: rest → step s = exec c { s with pending := rest })
    ∧ ∀ s : State, s.pending = [] → step s = .next { s with now := s.now + 1 }

/-- Every command answers a next state in every state, leaves the waiting commands as they are, and time does not run
back. -/
def Obligations.EveryCommandAnswersAndKeepsTheQueue : Prop :=
  ∀ (c : Instr) (s : State), ∃ t, exec c s = .next t ∧ t.pending = s.pending ∧ s.now ≤ t.now

/-! ## Invariants that every step keeps -/

/-- R171. -/
def Obligations.AttentionLinesFollowThePendingSets : Prop := KeptByEveryStep State.linesFollow

/-- R65, R64, Law 6. -/
def Obligations.PictureIsMutedByItsFourCauses : Prop := KeptByEveryStep State.pictureFollows

/-- R20, R36 to R39, Laws 1, 2 and 5. -/
def Obligations.LampOutputsFollowTheLampState : Prop := KeptByEveryStep State.lampFollows

/-- R178, Law 11: each kind waits at most once. R164: no buffer holds more than 64 bytes. -/
def Obligations.QueueAndBuffersKeepTheirBounds : Prop :=
  (KeptByEveryStep State.queueDistinct)
  ∧ (KeptByEveryStep State.buffersFit)

/-- R127 to R130, R138, Law 8. -/
def Obligations.ScheduleTableStaysValidAndFreeOfConflict : Prop := KeptByEveryStep State.tableGood

/-- R96, with Law 7; R88, R94, R95: the corners are those of the stored geometry after every step, and what the corners of
given corrections are. -/
def Obligations.CornersFollowTheStoredGeometry : Prop :=
  (KeptByEveryStep State.geometryFollows)
  ∧ (∀ (v h : Int) (width height : Nat),
       let a : Int := ((2 * (width * v.natAbs) + 256) / 512 : Nat)
       let b : Int := ((2 * (height * h.natAbs) + 256) / 512 : Nat)
       let c := cornersOf v h width height
       c.tl = ⟨if 0 < v then a else 0, if h < 0 then b else 0⟩ ∧ c.tr = ⟨if 0 < v then -a else 0, if 0 < h then b else 0⟩
         ∧ c.bl = ⟨if v < 0 then a else 0, if h < 0 then -b else 0⟩ ∧ c.br = ⟨if v < 0 then -a else 0, if 0 < h then -b else 0⟩
         ∧ (width ≤ 4096 → v.natAbs ≤ 40 → a ≤ 640) ∧ (height ≤ 2400 → h.natAbs ≤ 30 → b ≤ 281))

/-- R106, R110, R143. -/
def Obligations.HandedOverValuesAreHeldByTheirTakers : Prop := KeptByEveryStep State.handedOver

/-- R54, R55, Law 10. -/
def Obligations.PresentPlatesLieBelowTheMissLimit : Prop := KeptByEveryStep State.platesHeard

/-- R2, R4, R9, R15, Laws 3 and 4. -/
def Obligations.AccountFiguresStayInRange : Prop := KeptByEveryStep State.accountFollows

/-- R134, R135, R147, R151, R154, R156, Law 9: a running booking is the current occurrence; a walk-up and a bridge end in time. -/
def Obligations.SessionsFollowTheTimetable : Prop :=
  (KeptByEveryStep State.timetableFollows)
  ∧ (KeptByEveryStep State.endsBounded)

/-- The state right after a reset has every invariant above. Its values that the spec does not give are the model's (log
entries 10 to 13). -/
def Obligations.ResetHasEveryInvariant : Prop :=
  State.reset.linesFollow ∧ State.reset.pictureFollows ∧ State.reset.lampFollows ∧ State.reset.queueDistinct
    ∧ State.reset.tableGood ∧ State.reset.geometryFollows ∧ State.reset.handedOver ∧ State.reset.platesHeard
    ∧ State.reset.accountFollows ∧ State.reset.timetableFollows ∧ State.reset.endsBounded ∧ State.reset.buffersFit

/-! ## Frames on a link -/

/-- R162, R165 to R168, R187, with the model's choice of what a request row is (log entry 4): the frame of a well-formed
request, taken from the buffer, does what the request's row does on the same link with nothing waiting; and on a listening
link the row is the arrival of the frame's bytes, which leaves the whole frame in the buffer, followed by FRAME_TAKE. -/
def Obligations.FrameTakenIsTheRequestItCarries : Prop :=
  (∀ (i : Instr) (l : Link) (c : Command) (rest : List (List Byte)) (s : State),
       requestOf i = some (l, c) → i.wellFormed = true → s.receiversOn = true → (s.link l).answering = .ready →
       (s.link l).inHand = none → (s.link l).frames = requestFrame c (payloadOf i) :: rest →
         ∃ t, exec i (s.setLink l { s.link l with frames := [], collecting := none }) = .next t
           ∧ exec (.frameTake l) s = .next (t.setLink l
               { t.link l with
                 frames := rest, collecting := (s.link l).collecting, lastByteAt := (s.link l).lastByteAt }))
  ∧ (∀ (i : Instr) (l : Link) (c : Command) (s : State),
         requestOf i = some (l, c) → i.wellFormed = true → Listening l s →
           s.bytesArrive l (requestFrame c (payloadOf i)) = s.waiting i ∧ exec i s = exec (.frameTake l) (s.waiting i))

/-- R165, R173: a complete frame whose CRC byte differs from the computed CRC is removed and counted, and no answer is sent;
with no complete frame, or on a link that is not READY, nothing is taken.
R167: a valid frame whose code names no command is answered UNKNOWN_COMMAND with the code plus 0x80; a payload of a
length the command does not carry is answered BAD_ARGUMENT once link and level have admitted the command. Either changes
nothing but the frame in hand and the silence count. That FRAME_TAKE stops after a frame with a bad CRC is the model's
choice (log entry 5), and so is the answer to an unknown code of 0x80 or above, which is left out here (log entry 15). -/
def Obligations.UnusableFramesAreCountedOrAnswered : Prop :=
  (∀ (l : Link) (s : State),
       (∀ f rest, (s.link l).answering = .ready → (s.link l).frames = f :: rest → f.getLast? ≠ some (crc8 f.tail.dropLast) →
         ∃ t, exec (.frameTake l) s = .next t ∧ Counted .badCrc { s.link l with frames := rest } (t.link l)
           ∧ OtherLinksSame l s t ∧ Untouched [.links, .notice .link, .attention] s t)
       ∧ ((s.link l).frames = [] ∨ (s.link l).answering ≠ .ready → exec (.frameTake l) s = .next s))
  ∧ (∀ (l : Link) (code : Byte) (payload : List Byte) (rest : List (List Byte)) (s : State),
         let body := byte (payload.length + 1) :: code :: payload
         let frame := 0xC3 :: body ++ [crc8 body]
         let u := (s.setLink l { s.link l with frames := rest, inHand := some frame }).hear l
         (s.link l).answering = .ready → (s.link l).frames = frame :: rest →
           ((∀ c : Command, c.code ≠ code) → code.toNat < 128 →
             exec (.frameTake l) s
               = .next (u.setLink l
                   { u.link l with
                     answering := .sending
                     response := responseFrame (code + 0x80) Status.unknownCommand.code []
                     sendEnd := u.now + sendTime 5 (u.link l).rate }))
           ∧ ∀ c : Command, c.code = code → payloadFits c payload = false → Permitted c l s →
               exec (.frameTake l) s = answered c l u .badArgument [])

/-- R111, R167, R168, Law 12: a request that its link or the level refuses changes nothing but its own response, its link's
state and the engine's silence count.
R161, R164, R166, R175, R176, with the model's choice of what a request row is (log entry 4): what the arriving bytes leave
is a frame behind the complete frames of the link, where the buffer has room. A HELD link keeps it; one that sends takes it
once its response is sent, unless a RESTART waits for that response or a new rate empties the buffer; a READY link takes
the frames before it first, each answered in its turn. Bytes that complete no frame (R164) do what they do as bytes. -/
def Obligations.RefusedRequestsChangeNothingAndOthersWait : Prop :=
  (∀ (i : Instr) (l : Link) (c : Command) (s : State), requestOf i = some (l, c) → i.wellFormed = true → Listening l s →
       (c.acceptedOn l = false → exec i s = answered c l (s.hearing i) .wrongLink [])
       ∧ (c.acceptedOn l = true → c.judgement.permits (requesterOf l) s.policy.effective = false →
           exec i s = answered c l (s.hearing i) .refusedLockout [])
       ∧ (s.hearing i).silence = heardOn l s ∧ Untouched [.links, .silence] s (s.hearing i)
       ∧ OtherLinksSame l s (s.hearing i))
  ∧ (∀ (i : Instr) (l : Link) (c : Command) (s : State), requestOf i = some (l, c) → i.wellFormed = true →
         s.receiversOn = true → (s.link l).collecting = none →
         (s.link l).held + (requestFrame c (payloadOf i)).length ≤ 64 →
         let w := s.waiting i
         ((s.link l).answering = .held → exec i s = .next w)
         ∧ ((s.link l).answering = .sending → s.restartArmed = true → l = .campus → exec i s = .next w)
         ∧ ((s.link l).answering = .sending → (s.restartArmed = false ∨ l ≠ .campus) → ∀ cut,
             ((s.link l).rateDue = true → exec i s = exec (.responseSent l cut) w)
             ∧ ((s.link l).rateDue = false → (s.link l).frames = [] →
                 ∃ u, exec (.responseSent l cut) w = .next u ∧ exec i s = exec (.frameTake l) u))
         ∧ (∀ f, (s.link l).answering = .ready → (s.link l).frames = [f] →
             ∃ u, exec (.frameTake l) w = .next u ∧ (u.link l).frames = [requestFrame c (payloadOf i)]
               ∧ ((u.link l).answering = .ready → exec i s = exec (.frameTake l) u)
               ∧ ((u.link l).answering = .sending → (u.restartArmed = false ∨ l ≠ .campus) → ∀ cut,
                   ∃ v, exec (.responseSent l cut) u = .next v ∧ exec i s = exec (.frameTake l) v)
               ∧ ((u.link l).answering = .sending → u.restartArmed = true → l = .campus → exec i s = .next u)))
  ∧ (∀ (i : Instr) (l : Link) (c : Command) (s : State), requestOf i = some (l, c) →
         let t := s.bytesArrive l (requestFrame c (payloadOf i))
         (t.link l).frames.length ≤ (s.link l).frames.length → exec i s = .next t)

/-- R166: the response to a command is SYNC, LEN, the code plus 0x80, the status, the payload and the CRC; forming it puts
the link in SENDING for the time its bytes take and changes nothing else. -/
def Obligations.ResponsesAreFramed : Prop :=
  ∀ (c : Command) (l : Link) (u : State) (status : Status) (payload : List Byte),
    ∃ t, answered c l u status payload = .next t
      ∧ (let body := byte (payload.length + 2) :: (c.code + 0x80) :: status.code :: payload
         t.link l =
          { u.link l with
            answering := .sending
            response := 0xC3 :: body ++ [crc8 body]
            sendEnd := u.now + (payload.length + 5) * 10 * 1000000 / (u.link l).rate })
      ∧ OtherLinksSame l u t ∧ Untouched [.links] u t

/-! ## Bytes and timers of a link -/

/-- R162, R164: what an enabled receiver does with a byte, by its state, the buffer's fill and the bytes collected.
R164: in a full buffer a byte that must be stored is dropped and counted, and a frame being collected is abandoned.
R176, with the free value of log entry 14: a byte that comes before the receivers are enabled is not received. -/
def Obligations.ReceiverCollectsFramesByLength : Prop :=
  (∀ (l : Link) (b : Byte) (s : State), s.receiversOn = true →
       let x := s.link l
       (x.collecting = none → b ≠ 0xC3 → exec (.receiveByte l b) s = .next s)
       ∧ (x.collecting = none → b = 0xC3 → x.held < 64 →
           exec (.receiveByte l b) s = .next (s.setLink l { x with collecting := some [b], lastByteAt := s.now }))
       ∧ (∀ y, x.collecting = some y → x.held < 64 → y.length = 1 → (b = 0 ∨ 60 < b.toNat) →
           ∃ t, exec (.receiveByte l b) s = .next t ∧ Counted .badCrc { x with collecting := none } (t.link l)
             ∧ OtherLinksSame l s t ∧ Untouched [.links, .notice .link, .attention] s t)
       ∧ (∀ y, x.collecting = some y → x.held < 64 → 2 ≤ y.length → y.length + 1 = (nth y 1 0).toNat + 3 →
           exec (.receiveByte l b) s
             = .next (s.setLink l { x with collecting := none, frames := x.frames ++ [y ++ [b]], lastByteAt := s.now }))
       ∧ (∀ y, x.collecting = some y → x.held < 64 →
           (y.length = 1 ∧ b ≠ 0 ∧ b.toNat ≤ 60) ∨ (2 ≤ y.length ∧ y.length + 1 ≠ (nth y 1 0).toNat + 3) →
           exec (.receiveByte l b) s
             = .next (s.setLink l { x with collecting := some (y ++ [b]), lastByteAt := s.now })))
  ∧ (∀ (l : Link) (b : Byte) (s : State), s.receiversOn = true → 64 ≤ (s.link l).held →
         (b = 0xC3 ∨ (s.link l).collecting ≠ none) →
           ∃ t, exec (.receiveByte l b) s = .next t ∧ Counted .overrun { s.link l with collecting := none } (t.link l)
             ∧ OtherLinksSame l s t ∧ Untouched [.links, .notice .link, .attention] s t)
  ∧ (∀ (l : Link) (b : Byte) (s : State), s.receiversOn = false →
         (receiversEnabledBy s.choices = false → exec (.receiveByte l b) s = .next { s with choices := s.choices + 1 })
         ∧ (receiversEnabledBy s.choices = true →
             ∃ t, exec (.receiveByte l b) s = .next t
               ∧ exec (.receiveByte l b) { s with choices := s.choices + 1, receiversOn := true } = .next t))

/-- R163: 10 ms after a stored byte the frame being collected is abandoned and counted as a GAP; with no frame being
collected the timer is not running.
R166, R161: when a response is sent, its frame leaves the buffer and the link is READY; a rate that waited for this
moment is applied, and the buffer emptied. R175: the answer to a permitted RESTART is followed by the reset.
R174, R35: at 10 s without a valid frame the silence flag is set, the count stops and the temperature state becomes
UNKNOWN as a report would make it; without a running count nothing happens. -/
def Obligations.LinkTimersExpire : Prop :=
  (∀ (l : Link) (s : State),
       (∀ y, (s.link l).collecting = some y →
         ∃ t, exec (.gap l) s = .next t ∧ t.now = max s.now ((s.link l).lastByteAt + 10000)
           ∧ Counted .gap { s.link l with collecting := none } (t.link l)
           ∧ OtherLinksSame l s t ∧ Untouched [.time, .links, .notice .link, .attention] s t)
       ∧ ((s.link l).collecting = none → exec (.gap l) s = .next s))
  ∧ (∀ (l : Link) (cut : SlotLeft) (s : State),
         ((s.link l).answering ≠ .sending → exec (.responseSent l cut) s = .next s)
         ∧ ((s.link l).answering = .sending → (s.restartArmed = false ∨ l ≠ .campus) →
             ∃ t, exec (.responseSent l cut) s = .next t ∧ t.now = max s.now (s.link l).sendEnd
               ∧ (let x := { s.link l with inHand := none, response := [], answering := .ready }
                  t.link l = if x.rateDue then
                     { x with rate := s.settings.rateOf l, rateDue := false, collecting := none, frames := [] } else x)
               ∧ OtherLinksSame l s t ∧ Untouched [.time, .links] s t)
         ∧ ((s.link l).answering = .sending → s.restartArmed = true → l = .campus →
             ∃ t, exec (.responseSent l cut) s = .next t
               ∧ t = { s with now := max s.now (s.link l).sendEnd }.afterReset .restart cut
               ∧ t.supply.restart = true ∧ t.engine.answering = .held ∧ t.restartArmed = false))
  ∧ (∀ s : State,
         (∀ since, s.silence.since = some since →
           ∃ t, exec .engineSilence s = .next t ∧ t.now = max s.now (since + 10000000)
             ∧ t.silence = { since := none, flag := true } ∧ t.lamp.temp = .unknown
             ∧ (s.lamp.temp = .unknown → Untouched [.time, .silence] s t)
             ∧ (s.lamp.temp ≠ .unknown → Pending .lamp t)
             ∧ Untouched (.time :: .silence :: strikeBlocks) s t)
         ∧ (s.silence.since = none → exec .engineSilence s = .next s))

/-! ## Resets and start-up -/

/-- The three resets that are rows of the table, with the cause each adds (R183). The clock of an unpowered LH14 is log entry
9's choice, and that a reported backup loss outlasts a further reset, as it does here in `t.clock`, is log entry 27's. That a
lost clock still holds what it held before is log entry 37's choice, that the cooldown's start is the one moment of the reset
log entry 38's.
R185, with the operand of log entry 8: a reset that cuts a write leaves its slot with the previous content, with the new
content, or bad; the other slots, and every slot when no write is in flight, are as they were. That the previous content in
RETRYING is what the first write left in the slot is log entry 36's choice. The plate states are those of R60 by the default
final address, which stands until start-up has loaded the setting (log entry 12). -/
def Obligations.ResetLeavesTheSpecsState : Prop :=
  (∀ (cut : SlotLeft) (s : State),
       (∃ t, exec (.resetPin cut) s = .next t ∧ t = s.afterReset .resetPin cut
         ∧ t.supply = { s.supply with warning := false, resetPin := true } ∧ t.clock = s.clock)
       ∧ (∃ t, exec (.supplyDrop cut) s = .next t ∧ t = s.afterReset .supplyDrop cut
         ∧ t.supply = { s.supply with warning := false, supplyDrop := true } ∧ t.clock = s.clock)
       ∧ (∀ seconds, ∃ t, exec (.powerOn cut (some seconds)) s = .next t
           ∧ t = { s with clock := s.clock.advance seconds }.afterReset .powerOn cut
           ∧ t.supply = { senseLow := s.supply.senseLow } ∧ t.clock = s.clock.advance seconds)
       ∧ (∃ t, exec (.powerOn cut none) s = .next t
           ∧ t = { s with clock := { s.clock with backupLost := true } }.afterReset .powerOn cut
           ∧ t.supply = { senseLow := s.supply.senseLow } ∧ t.clock.backupLost = true)
       ∧ ∀ cause, let t := s.afterReset cause cut
           t.lamp = { state := .cooling false, timerStart := s.now, timerLength := t.lamp.timerLength }
           ∧ t.account.warmCount = 0 ∧ t.account.currentBurn = 0 ∧ t.account.attempt = none ∧ t.account.checkpoint = 0
           ∧ t.switch = {} ∧ t.session = {} ∧ t.policy.override = none ∧ t.policy.effective = t.policy.base
           ∧ t.scanner.slot = .stopped ∧ t.scanner.badReplies = List.replicate 12 0
           ∧ t.scanner.misses = List.replicate 12 0
           ∧ (∀ n, n < 12 → ∃ p, t.scanner.plates[n]? = some p ∧ p.connects = 0 ∧ p.buttons = 0 ∧ p.missStreak = 0
               ∧ p.kind = none ∧ p.signal = none ∧ p.syncEdge = none
               ∧ p.state = if n + 1 ≤ 4 then .absent else .unconfigured)
           ∧ t.geometry.active = {} ∧ t.geometry.vAuto = 0 ∧ t.geometry.tiltStale = false ∧ t.geometry.clamped = false
           ∧ t.geometry.ring = []
           ∧ (∀ l, (t.link l).collecting = none ∧ (t.link l).frames = [] ∧ (t.link l).inHand = none
               ∧ (t.link l).answering = .held ∧ (t.link l).badCrc = 0 ∧ (t.link l).gaps = 0 ∧ (t.link l).overruns = 0
               ∧ (t.link l).notices = Notice.restarted.flag ∧ (t.link l).attention = false)
           ∧ t.silence = { since := none, flag := false } ∧ t.store.queue = [] ∧ t.store.write = none
           ∧ t.store.faulted = ⟨false, false, false, false⟩
           ∧ t.pins.lampEn = false ∧ t.pins.ignite = false ∧ t.pins.level = .eco ∧ t.pins.fan = true ∧ t.pins.srcSel = 0
           ∧ t.pins.mute = true ∧ t.pins.busDe = false ∧ t.startUpDone = false)
  ∧ (∀ (cut : SlotLeft) (c : Instr) (s : State), c = .resetPin cut ∨ c = .supplyDrop cut ∨ (∃ b, c = .powerOn cut b) →
         ∃ t, exec c s = .next t ∧ t.store.queue = [] ∧ t.store.write = none
           ∧ (s.store.write = none → t.store.slots = s.store.slots)
           ∧ ∀ w, s.store.write = some w → ∀ k, t.store.slots.get k =
               if k = w.kind then
                 (match cut with
                   | .previous => s.store.slots.get k
                   | .new => w.slot
                   | .bad => .bad)
               else s.store.slots.get k)

/-- R17, R18, R60, R126, R138, R160, R166, R174, R176, R184: start-up in any state between a reset and its completion, bytes and
seconds come since the reset included. Records load as their slots allow, a
lost clock backup is acted on, the session is evaluated, the links are released and the first POLL is sent; the notices
raised are those of bad records and of a lost backup, and no others (R119, R138, R160).
The cooldown and the warm count go on from the reset, taken as one moment (log entry 38).
R184: start-up runs once; the model's choice for a further START_UP_COMPLETE is log entry 32. -/
def Obligations.StartUpLoadsTheRecordsAndReleasesTheLinks : Prop :=
  (∀ s : State, StartingUp s →
       ∃ t, exec .startUpComplete s = .next t
         ∧ (∀ v, s.store.slots.settings.good = some (.settings v) → t.store.foundBad.settings = false
             ∧ ∀ i n, (i, n) ∈ allSettings.zip v → t.settings.get i = (({} : Settings).put i n).get i)
         ∧ (s.store.slots.settings.good = none →
             t.settings = {} ∧ t.store.foundBad.settings = true ∧ Pending .store t)
         ∧ (∀ r, s.store.slots.account.good = some (.account r) →
             t.account.record = { r with wear := min 3774873599 r.wear, grace := min 9 r.grace })
         ∧ (s.store.slots.account.good = none →
             t.account.record = { grace := t.settings.graceSetting, unverified := true }
               ∧ t.store.foundBad.account = true ∧ Pending .store t ∧ Pending .account t)
         ∧ (∀ r e, s.store.slots.schedule.good = some (.schedule r) → entriesOfRaw r = some e → tableTaken e = true →
             t.table = inIdOrder e ∧ t.store.foundBad.schedule = false)
         ∧ (∀ r, s.store.slots.schedule.good = some (.schedule r) →
             (∀ e, entriesOfRaw r = some e → tableTaken e = false) →
             t.table = [] ∧ t.store.foundBad.schedule = true ∧ Pending .store t)
         ∧ (s.store.slots.schedule.good = none →
             t.table = [] ∧ t.store.foundBad.schedule = true ∧ Pending .store t)
         ∧ (s.store.slots.presets.good = none →
             t.geometry.presets = List.replicate 13 {} ∧ t.store.foundBad.presets = true ∧ Pending .store t)
         ∧ (∀ p, s.store.slots.presets.good = some (.presets p) → p.length = 13 →
             t.geometry.presets = p.map (fun q =>
               { mode := if q.mode = 1 then .auto else .manual, vManual := max (-40) (min 40 q.vManual)
                 h := max (-30) (min 30 q.h), vTrim := max (-10) (min 10 q.vTrim) })
             ∧ t.store.foundBad.presets = false)
         ∧ (s.clock.backupLost = true → t.clock = { secondStart := s.now, backupLost := false } ∧ Pending .clock t)
         ∧ (s.clock.backupLost = false → t.clock = s.clock)
         ∧ t.finder = found t.table t.clock
         ∧ (∀ l, (t.link l).quiet = { s.link l with answering := .ready, rate := t.settings.rateOf l }.quiet)
         ∧ (∀ l, (t.link l).attention = ((t.link l).notices &&& t.settings.maskOf l != 0))
         ∧ t.scanner.finalInForce = t.settings.finalAddress
         ∧ t.scanner.plates.length = 12
         ∧ (∀ n, n < 12 → t.scanner.plates[n]?
             = some { state := if n + 1 ≤ t.settings.finalAddress then .absent else .unconfigured })
         ∧ t.account.warmCount = s.account.warmCount
         ∧ (∀ l, (t.link l).notices = (s.link l).notices
             ||| (if t.store.foundBad = ⟨false, false, false, false⟩ then 0 else Notice.store.flag)
             ||| (if t.store.foundBad.account then Notice.account.flag else 0)
             ||| (if s.clock.backupLost then Notice.clock.flag else 0))
         ∧ t.receiversOn = true ∧ t.startUpDone = true
         ∧ (t.finder.current = none → t.finder.next = none ∨ t.settings.lead < t.finder.lead →
             t.session = { use := .none, demand := false, requested := .normal } ∧ t.policy.base = t.settings.idleLevel)
         ∧ (∀ c e terms, t.finder.current = some c → entryOf t.table c.id = some e → e.terms = some terms →
             StartedFor c e terms true s t ∧ t.switch.routed = 0)
         ∧ (∀ x e, t.finder.current = none → t.finder.next = some x → t.finder.lead ≤ t.settings.lead →
             entryOf t.table x.id = some e →
             t.session =
                 { use := .booked
                     { id := x.id, date := x.date, running := false, start := x.date.number * 1440 + x.start
                       stop := x.date.number * 1440 + x.stop, label := e.label, owed := none }
                   demand := true, requested := .normal }
               ∧ t.switch.bridgeMute = true ∧ t.policy.base = t.settings.idleLevel)
         ∧ t.policy.effective = t.policy.base ∧ t.lamp.demand = t.session.demand
         ∧ t.lamp.state = .cooling t.session.demand
         ∧ t.silence = { since := some s.now, flag := false } ∧ t.geometry.tiltTimer = some (s.now + 5000000)
         ∧ t.lamp.timerStart = s.lamp.timerStart ∧ t.lamp.timerLength = t.settings.cooldown * 1000000
         ∧ t.scanner.slot = .polling 1 (t.pollFrame 1) (s.now + 240) ∧ t.pins.busDe = true
         ∧ (s.supply.senseLow = true → t.supply.warning = true))
  ∧ (∀ s : State, s.startUpDone = true → exec .startUpComplete s = .next s)

/-- R180: the supply warning.
R179, R177: the write-completion event: a good verify, a first failure, a second failure. Its operand says what the
read-back finds (log entries 8 and 36); that it happens at its due moment, and is no event with no write in flight, is log entry
2's choice. -/
def Obligations.SupplyAndStoreEventsGovernTheWrites : Prop :=
  (∀ s : State,
       (s.startUpDone = true → s.supply.warning = false →
         ∃ t, exec .supplyWarning s = .next t ∧ t.supply = { s.supply with senseLow := true, warning := true }
           ∧ t.account = { s.account with checkpoint := 0 }
           ∧ (∀ w, s.store.write = some w →
               t.store = { s.store with queue := .account :: s.store.queue.filter (· != .account) })
           ∧ (s.store.write = none →
               t.store = { s.store with
                 queue := s.store.queue.filter (· != .account)
                 write := some ⟨.account, (Record.account s.account.record).sealed, false, s.now + 25000⟩ })
           ∧ Untouched [.supply, .account, .store] s t)
       ∧ (s.startUpDone = false ∨ s.supply.warning = true →
           exec .supplyWarning s = .next { s with supply := { s.supply with senseLow := true } })
       ∧ exec .supplyRecover s = .next { s with supply := { s.supply with senseLow := false, warning := false } })
  ∧ (∀ s : State,
         (∀ left, s.store.write = none → exec (.writeComplete left) s = .next s)
         ∧ ∀ (w : Write) (left : SlotLeft), s.store.write = some w →
             let found := match left with
               | .previous => s.store.slots.get w.kind
               | .new => w.slot
               | .bad => .bad
             ∃ t, exec (.writeComplete left) s = .next t ∧ t.now = max s.now w.till ∧ t.store.slots.get w.kind = found
               ∧ (∀ k, k ≠ w.kind → t.store.slots.get k = s.store.slots.get k ∧ t.store.faulted.get k = s.store.faulted.get k
                   ∧ t.store.foundBad.get k = s.store.foundBad.get k)
               ∧ (found = w.slot → t.store.faulted.get w.kind = false ∧ t.store.foundBad.get w.kind = false
                   ∧ Untouched [.time, .store] s t)
               ∧ (found ≠ w.slot → w.retry = false → t.store.faulted = s.store.faulted ∧ t.store.queue = s.store.queue
                   ∧ t.store.write = some { w with retry := true, till := t.now + writeDuration w.kind }
                   ∧ Untouched [.time, .store] s t)
               ∧ (found ≠ w.slot → w.retry = true → t.store.faulted.get w.kind = true ∧ Pending .store t
                   ∧ Untouched [.time, .store, .notice .store, .attention] s t)
               ∧ ((found = w.slot ∨ w.retry = true) → s.store.queue = [] → t.store.write = none)
               ∧ ((found = w.slot ∨ w.retry = true) → s.startUpDone = true → ∀ k rest, s.store.queue = k :: rest →
                   t.store.queue = rest
                     ∧ t.store.write = some ⟨k, (s.recordOf k).sealed, false, t.now + writeDuration k⟩))

/-- R177, R179, R184, R185: the content of a write whose verify is good is what start-up loads after the next reset, whatever
write that reset cuts, unless the kind was queued again. -/
def Obligations.VerifiedRecordsAreLoadedAfterTheNextReset : Prop :=
  ∀ (s : State) (w : Write) (cause : Cause) (cut : SlotLeft), s.store.write = some w → w.kind ∉ s.store.queue →
    ∃ t u, exec (.writeComplete .new) s = .next t ∧ exec .startUpComplete (t.afterReset cause cut) = .next u
      ∧ (∀ v : Settings, w.kind = .settings → w.slot = (Record.settings v.values).sealed →
          (∀ i, (v.put i (v.get i)).get i = v.get i) → u.settings = v ∧ u.store.foundBad.settings = false)
      ∧ (∀ r, w.kind = .account → w.slot = (Record.account r).sealed →
          u.account.record = { r with wear := min 3774873599 r.wear, grace := min 9 r.grace }
            ∧ u.store.foundBad.account = false)
      ∧ (∀ e : List Entry, w.kind = .schedule → w.slot = (Record.schedule (e.map Entry.raw)).sealed → tableTaken e = true →
          u.table = inIdOrder e ∧ u.store.foundBad.schedule = false)
      ∧ (∀ p : List Preset, w.kind = .presets → w.slot = (Record.presets (p.map Preset.stored)).sealed → p.length = 13 →
          (∀ x ∈ p, x.inRange) → u.geometry.presets = p ∧ u.store.foundBad.presets = false)

/-! ## Reads -/

/-- R159: ROOM_READ gives the session record and the flags of 11's layout, and changes nothing. Which bit of offset 22 is
which kind's is the model's choice (log entry 34); that the warning bit outside WALKUP is 0 is log entry 17's inference.
R41, Law 3: LAMP_READ gives the lamp controller's and the lamp account's fields; the hours it gives are
floor(wear / 57,600). That the pending strike bit outside COOLING is 0 is log entry 17's inference, the 0xFF of an absent phase
or strike blocked log entry 18's, the rounding down of the whole seconds log entry 22's; that a timer past its deadline reads
0 is the model's choice (log entry 28). -/
def Obligations.RoomAndLampReadsReportTheRoomAndTheLamp : Prop :=
  (∀ (l : Link) (s : State), Listening l s →
       ∃ p : List Byte, exec (.roomRead l) s = answered .roomRead l (s.hearing (.roomRead l)) .ok p
         ∧ (let label := match s.session.use with
             | .booked b => b.label
             | _ => []
            p.length = 25 + label.length ∧ p.drop 24 = byte label.length :: label)
         ∧ p[0]? = some (match s.session.use with
             | .none => (0 : Byte)
             | .booked _ => 1
             | .walkup _ _ _ => 2
             | .bridge _ _ => 3)
         ∧ (∀ b, s.session.use = .booked b →
             (p.take 7).drop 1 = [byte b.id, if b.running then 1 else 0] ++ be16 b.date.year ++ [byte b.date.month, byte b.date.day])
         ∧ ((∀ b, s.session.use ≠ .booked b) → (p.take 7).drop 1 = [0, 0xFF, 0, 0, 0, 0])
         ∧ (∀ a b, (s.session.use.start = some a ∧ s.session.use.stop = some b) →
             (p.take 19).drop 7 = be16 (dateOfNumber (a / 1440)).year
               ++ [byte (dateOfNumber (a / 1440)).month, byte (dateOfNumber (a / 1440)).day] ++ be16 (a % 1440)
               ++ be16 (dateOfNumber (b / 1440)).year
               ++ [byte (dateOfNumber (b / 1440)).month, byte (dateOfNumber (b / 1440)).day] ++ be16 (b % 1440))
         ∧ (∃ flags : Byte, p[19]? = some flags ∧ flags.getLsbD 0 = s.session.demand
             ∧ (flags.getLsbD 1 = true ↔ ∃ a b, s.session.use = .walkup a b true)
             ∧ (flags.getLsbD 2 = true ↔ ∃ a b w, s.session.use = .walkup a b w)
             ∧ flags.getLsbD 3 = s.session.use.bridgeMute ∧ flags.getLsbD 4 = s.supply.warning
             ∧ flags.getLsbD 5 = (heardOn l s).flag)
         ∧ p[20]? = some (byte s.session.requested.code) ∧ p[21]? = some (byte s.baseLevel.code)
         ∧ (∃ marks : Byte, p[22]? = some marks ∧ marks.getLsbD 0 = s.store.faulted.account
             ∧ marks.getLsbD 1 = s.store.faulted.settings ∧ marks.getLsbD 2 = s.store.faulted.schedule
             ∧ marks.getLsbD 3 = s.store.faulted.presets ∧ marks.getLsbD 4 = s.store.foundBad.account
             ∧ marks.getLsbD 5 = s.store.foundBad.settings ∧ marks.getLsbD 6 = s.store.foundBad.schedule
             ∧ marks.getLsbD 7 = s.store.foundBad.presets)
         ∧ ∃ causes : Byte, p[23]? = some causes ∧ causes.getLsbD 0 = s.supply.powerOn ∧ causes.getLsbD 1 = s.supply.resetPin
             ∧ causes.getLsbD 2 = s.supply.supplyDrop ∧ causes.getLsbD 3 = s.supply.restart)
  ∧ (∀ (l : Link) (s : State), Listening l s →
         ∃ p : List Byte, exec (.lampRead l) s = answered .lampRead l (s.hearing (.lampRead l)) .ok p ∧ p.length = 38
           ∧ p[0]? = some (match s.lamp.state with
               | .off _ => (0 : Byte)
               | .striking _ => 1
               | .warming => 2
               | .lit => 3
               | .cooling _ => 4
               | .failed => 5)
           ∧ p[1]? = some (match s.lamp.state with
               | .striking .attempt => (0 : Byte)
               | .striking .retryWait => 1
               | _ => 0xFF)
           ∧ p[8]? = some (match s.lamp.state with
               | .off .none => (0 : Byte)
               | .off .account => 1
               | .off .thermal => 2
               | _ => 0xFF)
           ∧ (let left := (s.lamp.timerStart + s.lamp.timerLength - s.now) / 1000000
              (p.take 14).drop 11 = match s.lamp.state with
                | .striking .attempt => 1 :: be16 left
                | .striking .retryWait => 2 :: be16 left
                | .warming => 3 :: be16 left
                | .cooling _ => 4 :: be16 left
                | _ => [0, 0, 0])
           ∧ (∃ flags : Byte, p[2]? = some flags ∧ flags.getLsbD 0 = s.lamp.demand
               ∧ flags.getLsbD 1 = (s.lamp.state == .cooling true) ∧ flags.getLsbD 2 = s.pins.lampEn
               ∧ flags.getLsbD 3 = s.pins.ignite ∧ flags.getLsbD 4 = s.pins.fan
               ∧ flags.getLsbD 5 = s.account.record.unverified)
           ∧ (p.take 8).drop 3 = [byte s.lamp.requested.code, byte s.lamp.effective.code, byte s.pins.level.code,
               byte (thermalCap s.lamp.temp).code, byte s.lamp.temp.code]
           ∧ (p.take 11).drop 9 = [byte s.lamp.attempts, byte s.lamp.timeToLight]
           ∧ (p.take 20).drop 14 = be32 s.account.record.wear ++ be16 (s.account.record.wear / 57600)
           ∧ p[20]? = some (match s.account.status with
               | .good => (0 : Byte)
               | .warn => 1
               | .expired => 2)
           ∧ p.drop 21 = be32 s.account.record.burnSeconds ++ be16 s.account.record.ignitions
               ++ be16 s.account.record.hotIgnitions ++ be16 s.account.record.failedAttempts ++ be16 s.account.record.outages
               ++ [byte s.account.record.grace] ++ be32 s.account.record.lastBurn)

/-- R86: SOURCE_READ gives the switch record, the causes of MUTE and the measurement. That a timer past its deadline reads 0
is the model's choice (log entry 28).
R103: GEOMETRY_READ gives the active geometry, or with a plate field that plate's preset. -/
def Obligations.SourceAndGeometryReadsReportThePicture : Prop :=
  (∀ (l : Link) (s : State), Listening l s →
       ∃ p : List Byte, exec (.sourceRead l) s = answered .sourceRead l (s.hearing (.sourceRead l)) .ok p ∧ p.length = 17
         ∧ p.take 4 = [byte s.switch.state.code, byte s.switch.routed, byte s.switch.target, byte s.switch.previous]
         ∧ p[4]? = some (match s.switch.origin with
             | none => (0xFF : Byte)
             | some (.by .remote) => 0
             | some (.by .lectern) => 1
             | some (.by .campus) => 2
             | some (.by .schedule) => 3
             | some (.by .plate) => 4
             | some (.by .follow) => 5
             | some .revert => 6)
         ∧ p[9]? = some (match s.switch.edge with
             | none => (0xFF : Byte)
             | some .rising => 0
             | some .falling => 1)
         ∧ (p.take 7).drop 5 = be16 s.switch.lockTime
         ∧ (∃ flags : Byte, p[7]? = some flags ∧ flags.getLsbD 0 = s.switch.pictureMute ∧ flags.getLsbD 1 = s.switch.bridgeMute
             ∧ flags.getLsbD 2 = !(s.lamp.state == .warming || s.lamp.state == .lit) ∧ flags.getLsbD 3 = s.pins.mute)
         ∧ p[8]? = some (byte s.pins.srcSel) ∧ p[10]? = some (byte s.switch.ring.length)
         ∧ (s.switch.ring = [] → (p.take 13).drop 11 = [0, 0])
         ∧ (s.switch.ring ≠ [] →
             let used := s.switch.ring.drop (s.switch.ring.length - s.settings.averaging)
             (p.take 13).drop 11 = be16 (used.sum / used.length))
         ∧ p[13]? = some (byte s.switch.streak)
         ∧ (let left := be16 ((s.switch.timerEnd - s.now) / 1000)
            p.drop 14 = match s.switch.state with
              | .muting => 1 :: left
              | .masking => 2 :: left
              | .seeking => 3 :: left
              | .confirming => 4 :: left
              | .showing => 5 :: left
              | _ => [0, 0, 0]))
  ∧ (∀ (l : Link) (s : State), Listening l s →
         (let stored := fun p : Preset => [byte p.mode.code, BitVec.ofInt 8 p.vManual, BitVec.ofInt 8 p.h, BitVec.ofInt 8 p.vTrim]
          let word := fun i : Int => be16 (BitVec.ofInt 16 i).toNat
          (exec (.geometryRead l none) s = answered .geometryRead l (s.hearing (.geometryRead l none)) .ok
             (stored s.geometry.active ++ word s.geometry.vAuto
               ++ [BitVec.ofInt 8 s.geometry.vEff, byte ((if s.geometry.tiltStale then 1 else 0) + if s.geometry.clamped then 2 else 0)]
               ++ word s.geometry.corners.tl.dx ++ word s.geometry.corners.tl.dy ++ word s.geometry.corners.tr.dx
               ++ word s.geometry.corners.tr.dy ++ word s.geometry.corners.bl.dx ++ word s.geometry.corners.bl.dy
               ++ word s.geometry.corners.br.dx ++ word s.geometry.corners.br.dy
               ++ word s.geometry.average ++ [byte s.geometry.ring.length]
               ++ be16 s.settings.panelWidth ++ be16 s.settings.panelHeight))
          ∧ ∀ n : Byte,
             (∀ p, s.geometry.presets[n.toNat]? = some p → n.toNat ≤ 12 →
               exec (.geometryRead l (some n)) s
                   = answered .geometryRead l (s.hearing (.geometryRead l (some n))) .ok (stored p))
             ∧ (12 < n.toNat → exec (.geometryRead l (some n)) s
                 = answered .geometryRead l (s.hearing (.geometryRead l (some n))) .badArgument [])))

/-- R59, R58, R173: PLATE_READ gives the final address in force and seven bytes for each address; COUNTERS_READ the link
counters, the silence flag and the bus counters. -/
def Obligations.PlateAndCounterReadsReportTheBusAndTheLinks : Prop :=
  ∀ (l : Link) (s : State), Listening l s →
    (∃ p : List Byte, exec (.plateRead l) s
        = answered .plateRead l (s.hearing (.plateRead l)) .ok p ∧ p[0]? = some (byte s.scanner.finalInForce)
      ∧ p.length = 1 + 7 * s.scanner.plates.length
      ∧ ∀ n q, s.scanner.plates[n]? = some q → ∃ kind signal edge : Byte,
          (p.drop (1 + 7 * n)).take 7
            = [byte q.state.code, kind, signal, edge, byte q.connects, byte q.buttons, byte q.missStreak]
          ∧ (q.kind = none → kind = 0xFF) ∧ (∀ k, q.kind = some k → kind = byte k.code)
          ∧ (q.signal = none → signal = 0xFF) ∧ (∀ a, q.signal = some a → signal = if a then 1 else 0)
          ∧ (q.syncEdge = none → edge = 0xFF) ∧ (q.syncEdge = some .rising → edge = 0) ∧ (q.syncEdge = some .falling → edge = 1))
    ∧ ∃ p : List Byte, exec (.countersRead l) s = answered .countersRead l (s.hearing (.countersRead l)) .ok p ∧ p.length = 34
      ∧ p.take 10 = [byte s.engine.badCrc, byte s.engine.gaps, byte s.engine.overruns, byte s.lectern.badCrc,
          byte s.lectern.gaps, byte s.lectern.overruns, byte s.campus.badCrc, byte s.campus.gaps, byte s.campus.overruns,
          if (heardOn l s).flag then 1 else 0]
      ∧ ∀ n bad miss, n < 12 → s.scanner.badReplies[n]? = some bad → s.scanner.misses[n]? = some miss →
          (p.drop (10 + 2 * n)).take 2 = [byte bad, byte miss]

/-- R118, R116: LOCKOUT_READ.
R125, R132, R136: CLOCK_READ, ENTRY_LIST and OCCURRENCE_READ. -/
def Obligations.LockoutAndTimetableReadsReportTheirRecords : Prop :=
  (∀ (l : Link) (s : State), Listening l s →
       ∃ permitted : Byte,
         exec (.lockoutRead l) s = answered .lockoutRead l (s.hearing (.lockoutRead l)) .ok
           ([byte s.policy.effective.code, byte s.policy.base.code]
             ++ (match s.policy.override with
                 | none => [0, 0xFF, 0, 0]
                 | some ⟨level, none⟩ => [1, byte level.code, 0, 0]
                 | some ⟨level, some m⟩ => 1 :: byte level.code :: be16 m)
             ++ [permitted, if s.policy.effective = .openRoom ∨ s.policy.effective = .present then 1 else 0])
         ∧ permitted.getLsbD 0 = permits .sessionStart (requesterOf l) s.policy.effective
         ∧ permitted.getLsbD 1 = permits .sessionEnd (requesterOf l) s.policy.effective
         ∧ permitted.getLsbD 2 = permits .sessionExtend (requesterOf l) s.policy.effective
         ∧ permitted.getLsbD 3 = permits .lampLevel (requesterOf l) s.policy.effective
         ∧ permitted.getLsbD 4 = permits .sourceSelect (requesterOf l) s.policy.effective
         ∧ permitted.getLsbD 5 = permits .pictureMute (requesterOf l) s.policy.effective
         ∧ permitted.getLsbD 6 = permits .geometry (requesterOf l) s.policy.effective ∧ permitted.getLsbD 7 = false)
  ∧ (∀ (l : Link) (s : State), Listening l s →
         exec (.clockRead l) s = answered .clockRead l (s.hearing (.clockRead l)) .ok
           (be16 s.clock.date.year ++ [byte s.clock.date.month, byte s.clock.date.day, byte s.clock.date.weekday,
             byte s.clock.hour, byte s.clock.minute, byte s.clock.second, if s.clock.unset then 1 else 0])
         ∧ exec (.entryList l) s
             = answered .entryList l (s.hearing (.entryList l)) .ok (byte s.table.length :: s.table.map fun e => byte e.id)
         ∧ ∃ now next, exec (.occurrenceRead l) s = answered .occurrenceRead l (s.hearing (.occurrenceRead l)) .ok
             ((if s.clock.unset then 1 else 0) :: now ++ next
               ++ be16 (if s.finder.next.isSome then s.finder.lead else 0))
             ∧ ∀ o b, ((o = s.finder.current ∧ b = now) ∨ (o = s.finder.next ∧ b = next)) →
               (o = none → b = List.replicate 26 0)
               ∧ ∀ x, o = some x → b.take 9 = byte x.id :: be16 x.date.year ++ [byte x.date.month, byte x.date.day]
                   ++ be16 x.start ++ be16 x.stop
                 ∧ ∀ e, entryOf s.table x.id = some e → e.label.length ≤ 16 → b.length = 26
                   ∧ b.drop 9 = byte e.label.length :: e.label ++ List.replicate (16 - e.label.length) 0)

/-- R132, R186: ENTRY_READ answers with the payload that ENTRY_PUT would decode to the very entry held; NOT_FOUND for an id
the table does not hold. -/
def Obligations.EntryReadAnswersWhatEntryPutDecodes : Prop :=
  ∀ (l : Link) (id : Byte) (s : State), Listening l s →
    (∀ e, entryOf s.table id.toNat = some e → e.valid = true →
      ∃ p raw, exec (.entryRead l id) s = answered .entryRead l (s.hearing (.entryRead l id)) .ok p
        ∧ rawEntryOf p = some raw ∧ entryOfRaw raw = some e)
    ∧ ((∀ e ∈ s.table, e.id ≠ id.toNat) → exec (.entryRead l id) s
        = answered .entryRead l (s.hearing (.entryRead l id)) .notFound [])

/-- R182. -/
def Obligations.SettingReadReportsTheValueInForce : Prop :=
  ∀ (l : Link) (id : Byte) (s : State), Listening l s →
    (∀ i : SettingId, i.code = id →
      exec (.settingRead l id) s
          = answered .settingRead l (s.hearing (.settingRead l id)) .ok (id :: be32 (s.settings.get i)))
    ∧ ((∀ i : SettingId, i.code ≠ id) →
        exec (.settingRead l id) s = answered .settingRead l (s.hearing (.settingRead l id)) .badArgument [])

/-- R172: NOTICE_READ. That bits 15 to 12 of the answer are 0 is the model's choice (log entry 33). -/
def Obligations.NoticeReadReturnsAndRemovesThePendingSet : Prop :=
  ∀ (l : Link) (s : State), Listening l s →
    ∃ u, exec (.noticeRead l) s = answered .noticeRead l u .ok (be16 (s.link l).notices.toNat)
      ∧ u.link l = { (s.hearing (.noticeRead l)).link l with notices := 0, attention := false }
      ∧ u.silence = heardOn l s ∧ OtherLinksSame l s u
      ∧ ∀ b : Block, (∀ n, b ≠ .notice n) → b ≠ .attention → b.same (s.hearing (.noticeRead l)) u

/-! ## Session requests -/

/-- R151: SESSION_START in NONE.
R152: SESSION_START in a session.
R22 to R24, R33, R5: what turning demand on does to the lamp. -/
def Obligations.SessionStartGrantsOrResumes : Prop :=
  (∀ (l : Link) (s : State), Admitted .sessionStart l s →
       let now := s.clock.minuteCount
       let stop := match s.finder.next with
         | none => now + s.settings.walkupLength
         | some x => min (now + s.settings.walkupLength) (x.date.number * 1440 + x.start)
       let denied := s.account.status = .expired ∧ s.policy.effective ≠ .service ∧ s.account.record.grace = 0
       (s.session.use = .none → stop < now + 5 →
         exec (.sessionStart l) s = answered .sessionStart l (s.hearing (.sessionStart l)) .refusedState [])
       ∧ (s.session.use = .none → now + 5 ≤ stop → denied →
         exec (.sessionStart l) s = answered .sessionStart l (s.hearing (.sessionStart l)) .lampExpired [])
       ∧ (s.session.use = .none → now + 5 ≤ stop → ¬denied →
         ∃ u, exec (.sessionStart l) s = answered .sessionStart l u .ok u.roomBytes
           ∧ u.session = { use := .walkup now stop (decide (stop ≤ now + 5)), demand := true, requested := .normal }
           ∧ u.policy.base = s.settings.walkupLevel ∧ u.lamp.demand = true ∧ u.lamp.requested = .normal
           ∧ u.switch.bridgeMute = false ∧ Pending .session u ∧ SwitchedOn s u
           ∧ Untouched (.session :: .notice .session :: handOverBlocks) (s.hearing (.sessionStart l)) u))
  ∧ (∀ (l : Link) (s : State), Admitted .sessionStart l s →
         (∀ b, s.session.use = .booked b → s.session.demand = true →
           exec (.sessionStart l) s
               = answered .sessionStart l (s.hearing (.sessionStart l)) .ok (s.hearing (.sessionStart l)).roomBytes)
         ∧ (∀ b, s.session.use = .booked b → s.session.demand = false →
           ∃ u, exec (.sessionStart l) s = answered .sessionStart l u .ok u.roomBytes
             ∧ u.session = { s.session with demand := true } ∧ u.lamp.demand = true ∧ Pending .session u ∧ SwitchedOn s u
             ∧ Untouched (.session :: .notice .session :: handOverBlocks) (s.hearing (.sessionStart l)) u)
         ∧ (∀ a b w, s.session.use = .walkup a b w →
           exec (.sessionStart l) s
               = answered .sessionStart l (s.hearing (.sessionStart l)) .ok (s.hearing (.sessionStart l)).roomBytes)
         ∧ (∀ a b, s.session.use = .bridge a b →
           ∃ u, exec (.sessionStart l) s = answered .sessionStart l u .ok u.roomBytes
             ∧ u.session = { s.session with
                 use := .walkup s.clock.minuteCount b (decide (b ≤ s.clock.minuteCount + 5)), requested := .normal }
             ∧ u.policy.base = s.settings.walkupLevel ∧ u.lamp.requested = .normal ∧ u.switch.bridgeMute = false
             ∧ Pending .session u
             ∧ Untouched (.session :: .notice .session :: handOverBlocks) (s.hearing (.sessionStart l)) u))

/-- R153, with R22, R30, R6 to R8 and R15: SESSION_END, and what turning demand off does to the lamp. -/
def Obligations.SessionEndTurnsDemandOff : Prop :=
  ∀ (l : Link) (s : State), Admitted .sessionEnd l s →
    (s.session.use = .none → exec (.sessionEnd l) s = answered .sessionEnd l (s.hearing (.sessionEnd l)) .refusedState [])
    ∧ (∀ b, s.session.use = .booked b → s.session.demand = false →
        exec (.sessionEnd l) s = answered .sessionEnd l (s.hearing (.sessionEnd l)) .ok (s.hearing (.sessionEnd l)).roomBytes)
    ∧ (∀ b, s.session.use = .booked b → s.session.demand = true →
        ∃ u, exec (.sessionEnd l) s = answered .sessionEnd l u .ok u.roomBytes
          ∧ u.session = { s.session with demand := false } ∧ u.lamp.demand = false
          ∧ u.lamp.requested = s.session.requested ∧ u.policy.base = s.baseLevel
          ∧ u.switch.bridgeMute = s.session.use.bridgeMute ∧ Pending .session u ∧ SwitchedOff s u
          ∧ Untouched (.session :: .notice .session :: handOverBlocks) (s.hearing (.sessionEnd l)) u)
    ∧ ((∃ a b w, s.session.use = .walkup a b w) ∨ (∃ a b, s.session.use = .bridge a b) →
        ∃ u, exec (.sessionEnd l) s = answered .sessionEnd l u .ok u.roomBytes
          ∧ u.session = { use := .none, demand := false, requested := .normal } ∧ u.lamp.demand = false
          ∧ u.lamp.requested = .normal ∧ u.policy.base = s.settings.idleLevel ∧ u.switch.bridgeMute = false
          ∧ Pending .session u ∧ SwitchedOff s u
          ∧ Untouched (.session :: .notice .session :: handOverBlocks) (s.hearing (.sessionEnd l)) u)

/-- R154, R155, R157: SESSION_EXTEND and LAMP_LEVEL. -/
def Obligations.SessionExtendAndLampLevelActOnTheSession : Prop :=
  ∀ (l : Link) (s : State),
    (Admitted .sessionExtend l s →
      (∀ a b w, s.session.use = .walkup a b w →
        let now := s.clock.minuteCount
        let bound := min (b + s.settings.extendStep) (now + 240)
        let stop := match s.finder.next with
          | none => bound
          | some x => min bound (x.date.number * 1440 + x.start)
        ∃ u, exec (.sessionExtend l) s = answered .sessionExtend l u .ok u.roomBytes
          ∧ u.session = { s.session with use := .walkup a stop (decide (stop ≤ now + 5)) }
          ∧ (u.session ≠ s.session → Pending .session u) ∧ (u.session = s.session → u = (s.hearing (.sessionExtend l)))
          ∧ Untouched (.session :: .notice .session :: handOverBlocks) (s.hearing (.sessionExtend l)) u)
      ∧ ((∀ a b w, s.session.use ≠ .walkup a b w) →
          exec (.sessionExtend l) s = answered .sessionExtend l (s.hearing (.sessionExtend l)) .refusedState []))
    ∧ ∀ level : Byte, Admitted .lampLevel l s →
      (2 < level.toNat → exec (.lampLevel l level) s = answered .lampLevel l (s.hearing (.lampLevel l level)) .badArgument [])
      ∧ (level.toNat ≤ 2 → s.session.use = .none →
          exec (.lampLevel l level) s = answered .lampLevel l (s.hearing (.lampLevel l level)) .refusedState [])
      ∧ ∀ v, level = byte v.code → s.session.use ≠ .none →
          ∃ u, exec (.lampLevel l level) s = answered .lampLevel l u .ok u.roomBytes
            ∧ u.session = { s.session with requested := v }
            ∧ (s.session.requested ≠ v → u.lamp.requested = v ∧ Pending .session u)
            ∧ (s.session.requested = v → u = (s.hearing (.lampLevel l level)))
            ∧ Untouched (.session :: .notice .session :: handOverBlocks) (s.hearing (.lampLevel l level)) u

/-! ## Requests to the lamp -/

/-- R12, R13, R14, with R33: the service operations with the lamp at rest, with a strike held that the change lets go or
holds for another cause, or refused while the lamp is struck, burning or FAILED. -/
def Obligations.ServiceOperationsRewriteTheAccount : Prop :=
  ∀ (l : Link) (hours : BitVec 16) (s : State),
    let limits := fun wear : Nat => statusOf (wear / 57600) s.settings.lifeLimit s.settings.warningMargin
    let refused := ∀ b p, s.lamp.state ≠ .off b ∧ s.lamp.state ≠ .cooling p
    let serviceable := ∃ b p, s.lamp.state = .off b ∨ s.lamp.state = .cooling p
    let resting := s.lamp.state = .off .none ∨ (s.lamp.state = .off .thermal ∧ s.lamp.temp = .hot)
      ∨ ∃ p, s.lamp.state = .cooling p
    let leaves := fun (r : AccountRecord) (warm : Nat) (h u : State) =>
      let a : Account := { s.account with record := r, warmCount := warm, checkpoint := 0, status := limits r.wear }
      let changed := a.status ≠ s.account.status ∨ r.grace ≠ s.account.record.grace
        ∨ r.unverified ≠ s.account.record.unverified
      (changed → Pending .account u) ∧ Queued .account (.account r) s u ∧ Untouched burnBlocks h u
        ∧ (resting → u.account = a ∧ Untouched (.store :: .account :: .notice .account :: ballastBlocks) h u)
        ∧ ∀ c, s.lamp.state = .off c → c ≠ .none →
          (¬changed → u.account = a ∧ u.lamp = s.lamp)
          ∧ (changed → s.lamp.temp = .hot → u.account = a ∧ u.lamp.state = .off .thermal)
          ∧ (changed → s.lamp.temp ≠ .hot →
              u.lamp.state = .striking .attempt ∧ u.lamp.attempts = 1 ∧ u.lamp.timerStart = s.now
                ∧ u.lamp.timerLength = s.settings.strikeWindow * 1000000 ∧ u.pins.ignite = true ∧ u.pins.lampEn = true
                ∧ Pending .lamp u
                ∧ u.account.record = { r with
                    wear := min 3774873599 (r.wear + s.settings.strikeCost * 960
                      * if warm < s.settings.warmWindow then 2 else 1) }
                ∧ u.account.attempt = some (decide (warm < s.settings.warmWindow)) ∧ u.account.currentBurn = 0)
    (Admitted .lampReplaced l s → refused →
      exec (.lampReplaced l) s = answered .lampReplaced l (s.hearing (.lampReplaced l)) .refusedState [])
    ∧ (Admitted .accountSet l s → refused →
      exec (.accountSet l hours) s = answered .accountSet l (s.hearing (.accountSet l hours)) .refusedState [])
    ∧ (Admitted .lampReplaced l s → serviceable →
      ∃ u, exec (.lampReplaced l) s = answered .lampReplaced l u .ok []
        ∧ leaves { grace := s.settings.graceSetting } 1800 (s.hearing (.lampReplaced l)) u)
    ∧ (Admitted .accountSet l s → serviceable →
      ∃ u, exec (.accountSet l hours) s = answered .accountSet l u .ok []
        ∧ leaves { s.account.record with wear := hours.toNat * 57600, unverified := false } s.account.warmCount
            (s.hearing (.accountSet l hours)) u)

/-- R34, R36, R33: a report of the engine's temperature state. -/
def Obligations.EngineReportSetsTheTemperature : Prop :=
  ∀ (l : Link) (b : Byte) (s : State), Admitted .engineReport l s →
    (2 < b.toNat → exec (.engineReport l b) s = answered .engineReport l (s.hearing (.engineReport l b)) .badArgument [])
    ∧ ∀ t : TempState, t ≠ .unknown → b = byte t.code →
      (s.lamp.temp = t → exec (.engineReport l b) s = answered .engineReport l (s.hearing (.engineReport l b)) .ok [])
      ∧ (s.lamp.temp ≠ t →
        ∃ u, exec (.engineReport l b) s = answered .engineReport l u .ok [] ∧ u.lamp.temp = t ∧ Pending .lamp u
          ∧ (t = .hot → s.lamp.state.burning = true →
              u.lamp.state = .cooling s.lamp.demand ∧ u.lamp.timerStart = s.now
              ∧ u.lamp.timerLength = s.settings.cooldown * 1000000 ∧ u.pins.lampEn = false ∧ u.pins.ignite = false
              ∧ u.account = { s.account with
                  record := { s.account.record with lastBurn := s.account.currentBurn }
                  warmCount := 0, attempt := none, checkpoint := 0 }
              ∧ Queued .account (.account u.account.record) s u ∧ Untouched burnBlocks (s.hearing (.engineReport l b)) u)
          ∧ (s.lamp.state.burning = false ∨ t ≠ .hot → (∀ c, s.lamp.state = .off c → c = .none) →
              u.lamp = { s.lamp with
                temp := t, effective := effectiveLevel s.lamp.requested t s.account.status }
              ∧ Untouched ballastBlocks (s.hearing (.engineReport l b)) u)
          ∧ (∀ c, s.lamp.state = .off c → c ≠ .none →
              (t = .hot → u.lamp.state = .off .thermal)
              ∧ (t ≠ .hot → s.strikePermitted = false → u.lamp.state = .off .account
                  ∧ (c ≠ .account → Pending .account u))
              ∧ (t ≠ .hot → s.strikePermitted = true → u.lamp.state = .striking .attempt ∧ u.lamp.attempts = 1
                  ∧ u.pins.ignite = true)
              ∧ Untouched strikeBlocks (s.hearing (.engineReport l b)) u))

/-! ## Requests to the switch sequencer -/

/-- R68, R69: SOURCE_SELECT is checked, then taken in a settled state. That ring and streak are emptied at the entry to
MUTING is log entry 35's inference.
R70: SOURCE_SELECT in a state in transit; a link's class is never FOLLOW. -/
def Obligations.SourceSelectIsCheckedAndTaken : Prop :=
  (∀ (l : Link) (plate : Byte) (s : State), Admitted .sourceSelect l s →
       let t := plate.toNat
       let open' := t = 0 ∨ (t ≤ 12 ∧ (s.plate t).state = .present)
       let origin := some (Origin.by (requesterOf l))
       (12 < t → exec (.sourceSelect l plate) s
           = answered .sourceSelect l (s.hearing (.sourceSelect l plate)) .badArgument [])
       ∧ (t ≤ 12 → ¬open' → exec (.sourceSelect l plate) s
           = answered .sourceSelect l (s.hearing (.sourceSelect l plate)) .sourceLost [])
       ∧ (open' → t = s.switch.routed → s.switch.state = .dark ∨ s.switch.state = .showing →
           exec (.sourceSelect l plate) s = answered .sourceSelect l (s.hearing (.sourceSelect l plate)) .ok [])
       ∧ (open' → t = s.switch.routed → s.switch.state = .noSignal →
           ∃ u, exec (.sourceSelect l plate) s
               = answered .sourceSelect l u .accepted [] ∧ SeekingFrom none origin (s.hearing (.sourceSelect l plate)) u)
       ∧ (open' → t ≠ s.switch.routed →
           s.switch.state = .dark ∨ s.switch.state = .noSignal
             ∨ (s.switch.state = .showing ∧ (s.pins.mute = true ∨ s.settings.muteLead = 0)) →
           ∃ u, exec (.sourceSelect l plate) s
               = answered .sourceSelect l u .accepted [] ∧ RoutedTo t origin (s.hearing (.sourceSelect l plate)) u)
       ∧ (open' → t ≠ s.switch.routed → s.switch.state = .showing → s.pins.mute = false → 0 < s.settings.muteLead →
           ∃ u, exec (.sourceSelect l plate) s = answered .sourceSelect l u .accepted []
             ∧ u.switch = { s.switch with
                 state := .muting, target := t, origin := origin, ring := [], streak := 0, missMark := false
                 timerEnd := s.now + s.settings.muteLead * 1000 }
             ∧ u.pins = { s.pins with mute := true } ∧ Pending .picture u
             ∧ Untouched (.switch :: muteBlocks) (s.hearing (.sourceSelect l plate)) u))
  ∧ (∀ (l : Link) (plate : Byte) (s : State), Admitted .sourceSelect l s →
         let t := plate.toNat
         (t = 0 ∨ (t ≤ 12 ∧ (s.plate t).state = .present)) →
         let origin := some (Origin.by (requesterOf l))
         (t = s.switch.target → s.switch.state.settled = false →
             exec (.sourceSelect l plate) s = answered .sourceSelect l (s.hearing (.sourceSelect l plate)) .ok [])
         ∧ (t ≠ s.switch.target → s.switch.state = .muting →
             ∃ u, exec (.sourceSelect l plate) s = answered .sourceSelect l u .accepted []
               ∧ u.switch = { s.switch with target := t, origin := origin }
                 ∧ Untouched [.switch] (s.hearing (.sourceSelect l plate)) u)
         ∧ (t ≠ s.switch.target → s.switch.state = .masking ∨ s.switch.state = .seeking ∨ s.switch.state = .confirming →
             ∃ u, exec (.sourceSelect l plate) s
                 = answered .sourceSelect l u .accepted [] ∧ RoutedTo t origin (s.hearing (.sourceSelect l plate)) u))

/-- R67. -/
def Obligations.PictureMuteSetsItsCauseOfMute : Prop :=
  ∀ (l : Link) (b : Byte) (s : State), Admitted .pictureMute l s →
    (1 < b.toNat → exec (.pictureMute l b) s = answered .pictureMute l (s.hearing (.pictureMute l b)) .badArgument [])
    ∧ ∀ on, b = (if on then 1 else 0) →
      ∃ u, exec (.pictureMute l b) s = answered .pictureMute l u .ok []
        ∧ u.switch = { s.switch with pictureMute := on }
        ∧ u.pins = { s.pins with
            mute := s.switch.state != .showing || on || s.switch.bridgeMute
              || !(s.lamp.state == .warming || s.lamp.state == .lit) }
        ∧ (u.pins.mute ≠ s.pins.mute → Pending .picture u
          ∧ Untouched (.switch :: muteBlocks) (s.hearing (.pictureMute l b)) u)
        ∧ (u.pins.mute = s.pins.mute → Untouched [.switch] (s.hearing (.pictureMute l b)) u)

/-! ## Requests to the geometry unit -/

/-- R98, R99, R95: GEOMETRY_SET and GEOMETRY_TRIM, with the fields cut to their ranges. -/
def Obligations.GeometryRequestsAreClamped : Prop :=
  ∀ (l : Link) (mode b1 b2 b3 : Byte) (s : State),
    let cut := fun (k : Int) (x : Int) => max (-k) (min k x)
    let answer := fun p : Preset => [byte p.mode.code, BitVec.ofInt 8 p.vManual, BitVec.ofInt 8 p.h, BitVec.ofInt 8 p.vTrim]
    let leaves := fun (asked kept : Preset) (r u : State) =>
      u.geometry = { s.geometry with active := kept, requestClamp := decide (kept ≠ asked) }.derive s.settings.panelWidth
          s.settings.panelHeight
        ∧ (u.geometry.corners ≠ s.geometry.corners ∨ u.geometry.clamped ≠ s.geometry.clamped → Pending .geometry u)
        ∧ (u.geometry.corners = s.geometry.corners → u.geometry.clamped = s.geometry.clamped →
            Untouched [.geometry] r u)
        ∧ Untouched [.geometry, .notice .geometry, .attention] r u
    (Admitted .geometrySet l s →
      (1 < mode.toNat → exec (.geometrySet l mode b1 b2 b3) s
          = answered .geometrySet l (s.hearing (.geometrySet l mode b1 b2 b3)) .badArgument [])
      ∧ ∀ m, mode = byte m.code →
        let asked : Preset := ⟨m, b1.toInt, b2.toInt, b3.toInt⟩
        let kept : Preset := ⟨m, cut 40 b1.toInt, cut 30 b2.toInt, cut 10 b3.toInt⟩
        ∃ u, exec (.geometrySet l mode b1 b2 b3) s = answered .geometrySet l u .ok (answer kept)
          ∧ leaves asked kept (s.hearing (.geometrySet l mode b1 b2 b3)) u)
    ∧ (Admitted .geometryTrim l s → s.geometry.active.mode = .manual →
        let p := s.geometry.active
        let asked := { p with vManual := p.vManual + b1.toInt, h := p.h + b2.toInt }
        let kept := { p with vManual := cut 40 (p.vManual + b1.toInt), h := cut 30 (p.h + b2.toInt) }
        ∃ u, exec (.geometryTrim l b1 b2) s = answered .geometryTrim l u .ok (answer kept)
          ∧ leaves asked kept (s.hearing (.geometryTrim l b1 b2)) u)
    ∧ (Admitted .geometryTrim l s → s.geometry.active.mode = .auto →
        let p := s.geometry.active
        let asked := { p with vTrim := p.vTrim + b1.toInt, h := p.h + b2.toInt }
        let kept := { p with vTrim := cut 10 (p.vTrim + b1.toInt), h := cut 30 (p.h + b2.toInt) }
        ∃ u, exec (.geometryTrim l b1 b2) s = answered .geometryTrim l u .ok (answer kept)
          ∧ leaves asked kept (s.hearing (.geometryTrim l b1 b2)) u)

/-- R100: PRESET_STORE. -/
def Obligations.PresetStoreSavesTheActiveGeometry : Prop :=
  ∀ (l : Link) (s : State), Admitted .presetStore l s →
    ∃ u, exec (.presetStore l) s = answered .presetStore l u .ok []
      ∧ u.geometry = { s.geometry with presets := s.geometry.presets.set s.switch.routed s.geometry.active }
      ∧ (s.switch.routed < s.geometry.presets.length →
          u.geometry.presets[s.switch.routed]? = some s.geometry.active)
      ∧ Queued .presets (.presets (u.geometry.presets.map Preset.stored)) s u
        ∧ Untouched [.geometry, .store] (s.hearing (.presetStore l)) u

/-- R91, R92, R93: a tilt report and the tilt-silence expiry. -/
def Obligations.TiltReportsFillTheRing : Prop :=
  ∀ (l : Link) (tilt : BitVec 16) (s : State),
    (Admitted .tiltReport l s →
      let ring := newest 8 (s.geometry.ring ++ [max (-900) (min 900 tilt.toInt)])
      let away := fun (n : Int) (d : Nat) => if n < 0 then -((2 * n.natAbs + d) / (2 * d) : Int) else (2 * n + d) / (2 * d)
      let used := ring.drop (ring.length - s.settings.tiltAveraging)
      let average := if used = [] then 0 else away used.sum used.length
      let v := away (average * s.settings.tiltGain) 160
      ∃ u, exec (.tiltReport l tilt) s = answered .tiltReport l u .ok []
        ∧ u.geometry = { s.geometry with
            ring := ring, tiltTimer := some (s.now + 5000000), tiltStale := false, average := average, vAuto := v
            vEff := u.geometry.vEff, clamped := u.geometry.clamped, corners := u.geometry.corners }
        ∧ (s.geometry.active.mode = .auto →
            u.geometry.vEff = max (-40) (min 40 (v + s.geometry.active.vTrim)))
        ∧ (s.geometry.active.mode = .manual → u.geometry.vEff = s.geometry.active.vManual)
        ∧ (s.geometry.tiltStale = true ∨ u.geometry.corners ≠ s.geometry.corners
            ∨ u.geometry.clamped ≠ s.geometry.clamped → Pending .geometry u)
        ∧ Untouched [.geometry, .notice .geometry, .attention] (s.hearing (.tiltReport l tilt)) u)
    ∧ (∀ till, s.geometry.tiltTimer = some till →
        ∃ t, exec .tiltSilenceExpiry s = .next t ∧ t.now = max s.now till
          ∧ t.geometry = { s.geometry with tiltStale := true, tiltTimer := none } ∧ Pending .geometry t
          ∧ Untouched [.time, .geometry, .notice .geometry, .attention] s t)
    ∧ (s.geometry.tiltTimer = none → exec .tiltSilenceExpiry s = .next s)

/-! ## Requests to the policy unit -/

/-- R107, R110: OVERRIDE_SET. -/
def Obligations.OverrideSetReplacesTheRecord : Prop :=
  ∀ (l : Link) (b : Byte) (minutes : Option (BitVec 16)) (s : State), Admitted .overrideSet l s →
    let bad := ∃ m, minutes = some m ∧ (m = 0 ∨ 1440 < m.toNat)
    (4 < b.toNat ∨ bad → exec (.overrideSet l b minutes) s
        = answered .overrideSet l (s.hearing (.overrideSet l b minutes)) .badArgument [])
    ∧ ∀ level, b = byte level.code → ¬bad →
      ∃ u, exec (.overrideSet l b minutes) s = answered .overrideSet l u .ok
          ([byte level.code, 1, byte level.code] ++ be16 ((minutes.map BitVec.toNat).getD 0))
        ∧ u.policy = { s.policy with override := some ⟨level, minutes.map BitVec.toNat⟩, effective := level }
        ∧ (s.policy.effective ≠ level → Pending .lockout u ∧ Untouched policyBlocks (s.hearing (.overrideSet l b minutes)) u)
        ∧ (s.policy.effective = level → Untouched [.policy] (s.hearing (.overrideSet l b minutes)) u)

/-- R108. -/
def Obligations.OverrideClearReturnsToTheBaseLevel : Prop :=
  ∀ (l : Link) (s : State), Listening l s →
    (l ≠ .campus → exec (.overrideClear l) s = answered .overrideClear l (s.hearing (.overrideClear l)) .wrongLink [])
    ∧ (l = .campus →
      (s.policy.override = none → s.policy.effective = s.policy.base →
        exec (.overrideClear l) s
            = answered .overrideClear l (s.hearing (.overrideClear l)) .ok [byte s.policy.effective.code])
      ∧ ∃ u, exec (.overrideClear l) s = answered .overrideClear l u .ok [byte s.policy.base.code]
          ∧ u.policy = { s.policy with override := none, effective := s.policy.base }
          ∧ (s.policy.effective ≠ s.policy.base → Pending .lockout u
            ∧ Untouched policyBlocks (s.hearing (.overrideClear l)) u)
          ∧ (s.policy.effective = s.policy.base → Untouched [.policy] (s.hearing (.overrideClear l)) u))

/-! ## Requests to the clock, the table and the settings -/

/-- R124, R135, R141, R156 with R147 to R150: CLOCK_SET. -/
def Obligations.ClockSetSetsTheClock : Prop :=
  ∀ (l : Link) (d : RawDate) (hour minute : Byte) (s : State), Admitted .clockSet l s →
    let date : Date := ⟨d.year.toNat, d.month.toNat, d.day.toNat⟩
    let good := 2000 ≤ date.year ∧ date.year ≤ 2099 ∧ 1 ≤ date.month ∧ date.month ≤ 12 ∧ 1 ≤ date.day
      ∧ date.day ≤ monthLength date.year date.month ∧ hour.toNat ≤ 23 ∧ minute.toNat ≤ 59
    (¬good → exec (.clockSet l d hour minute) s
        = answered .clockSet l (s.hearing (.clockSet l d hour minute)) .badArgument [])
    ∧ (good → ∃ u,
        exec (.clockSet l d hour minute) s = answered .clockSet l u .ok
          (be16 date.year ++ [byte date.month, byte date.day, byte date.weekday, hour, minute, 0, 0])
        ∧ u.clock = { s.clock with
            date := date, hour := hour.toNat, minute := minute.toNat, second := 0, unset := false, secondStart := s.now }
        ∧ u.finder = found s.table u.clock ∧ Pending .clock u
        ∧ (u.finder.current ≠ s.finder.current ∨ u.finder.next ≠ s.finder.next → Pending .schedule u)
        ∧ EndClamped u.clock.minuteCount s u
        ∧ Untouched (.clock :: .notice .clock :: .finder :: .notice .schedule :: runnerBlocks) (s.hearing (.clockSet l d hour minute)) u)

/-- R128, R129, R130, R156 with R147 to R150, R178, R179: ENTRY_PUT on a table of ascending ids. -/
def Obligations.EntryPutAddsOrReplacesAnEntry : Prop :=
  ∀ (l : Link) (raw : RawEntry) (s : State), (Instr.entryPut l raw).wellFormed = true → Admitted .entryPut l s →
    ((∀ e, entryOfRaw raw = some e → e.valid = false) →
      exec (.entryPut l raw) s = answered .entryPut l (s.hearing (.entryPut l raw)) .badArgument [])
    ∧ ∀ e, entryOfRaw raw = some e → e.valid = true → s.table.Pairwise (fun a b => a.id < b.id) →
      let held := ∃ x ∈ s.table, x.id = e.id
      let clash := fun x : Entry => x ∈ s.table ∧ x.id ≠ e.id ∧ e.conflicts x = true
      (∀ x, clash x → (∀ y, clash y → x.id ≤ y.id) →
        exec (.entryPut l raw) s = answered .entryPut l (s.hearing (.entryPut l raw)) .conflict [byte x.id])
      ∧ ((∀ x, ¬clash x) → ¬held → 32 ≤ s.table.length →
          exec (.entryPut l raw) s = answered .entryPut l (s.hearing (.entryPut l raw)) .tableFull [])
      ∧ ((∀ x, ¬clash x) → held ∨ s.table.length < 32 →
          ∃ u, exec (.entryPut l raw) s = answered .entryPut l u .ok [byte u.table.length]
            ∧ (∀ x, x ∈ u.table ↔ x = e ∨ (x ∈ s.table ∧ x.id ≠ e.id))
            ∧ u.table.Pairwise (fun a b => a.id < b.id)
            ∧ (held → u.table.length = s.table.length) ∧ (¬held → u.table.length = s.table.length + 1)
            ∧ u.finder = found u.table s.clock ∧ Pending .schedule u ∧ ScheduleQueued s u
            ∧ EndClamped s.clock.minuteCount s u
            ∧ Untouched (.table :: .finder :: .notice .schedule :: runnerBlocks) (s.hearing (.entryPut l raw)) u)

/-- R131, R156 with R147 to R150, R178, R179: ENTRY_DELETE and SCHEDULE_CLEAR. -/
def Obligations.EntriesAreDeletedAndCleared : Prop :=
  ∀ (l : Link) (id : Byte) (s : State),
    let leaves := fun (table : List Entry) (r u : State) =>
      EndClamped s.clock.minuteCount s u ∧ u.table = table ∧ u.finder = found table s.clock ∧ Pending .schedule u
        ∧ ScheduleQueued s u
        ∧ Untouched (.table :: .finder :: .notice .schedule :: runnerBlocks) r u
    (Admitted .entryDelete l s →
      ((∀ e ∈ s.table, e.id ≠ id.toNat) →
        exec (.entryDelete l id) s = answered .entryDelete l (s.hearing (.entryDelete l id)) .notFound [])
      ∧ ((∃ e ∈ s.table, e.id = id.toNat) →
        ∃ u, exec (.entryDelete l id) s = answered .entryDelete l u .ok []
          ∧ leaves (s.table.filter fun e => e.id != id.toNat) (s.hearing (.entryDelete l id)) u))
    ∧ (Admitted .scheduleClear l s →
      (s.table = [] → exec (.scheduleClear l) s = answered .scheduleClear l (s.hearing (.scheduleClear l)) .ok [])
      ∧ (s.table ≠ [] → ∃ u, exec (.scheduleClear l) s = answered .scheduleClear l u .ok []
          ∧ leaves [] (s.hearing (.scheduleClear l)) u))

/-- R181: a write gives its setting the clamped value and every other setting keeps its own. -/
def Obligations.SettingValuesAreClamped : Prop :=
  ∀ (v : Settings) (i j : SettingId) (n : Nat),
    (j ≠ i → (v.put i n).get j = v.get j)
    ∧ (v.put i n).get i =
      let cut := fun lo hi => max lo (min hi n)
      let member := fun a b c d : Nat => if n ≤ a then a else if n ≤ b then b else if n ≤ c then c else d
      match i with
      | .lifeLimit => cut 100 30000
      | .warningMargin => cut 0 2000
      | .graceSetting => cut 0 9
      | .strikeCost => cut 0 60
      | .warmWindow => cut 0 1800
      | .cooldown => cut 60 300
      | .warmUp => cut 0 120
      | .strikeWindow => cut 1 10
      | .retryWait => cut 5 120
      | .attempts => cut 1 5
      | .finalAddress => cut 1 12
      | .missLimit => cut 1 6
      | .follow => cut 0 1
      | .muteLead => cut 0 100
      | .maskTime => cut 10 500
      | .seekWindow => cut 500 5000
      | .averaging => member 1 2 4 8
      | .tolerance => cut 1 16
      | .stableCount => cut 2 8
      | .confirmFactor => cut 1 127
      | .fallback => cut 0 1
      | .panelWidth => cut 640 4096
      | .panelHeight => cut 360 2400
      | .tiltGain => cut 0 32
      | .tiltAveraging => member 1 2 4 8
      | .lead => cut 0 10
      | .bridgeMax => cut 0 120
      | .walkupLength => cut 15 240
      | .extendStep => cut 15 120
      | .idleLevel => cut 0 4
      | .walkupLevel => cut 0 4
      | .rate _ => if n ≤ 9600 then 9600 else member 19200 38400 57600 115200
      | .mask _ => n % 4096

/-- R181: SETTING_WRITE stores the value, hands it to its owner, queues SETTINGS and answers the value stored; a setting
that its owner reads at its next use changes nothing else. That a value is unsigned is log entry 21's inference, and that a
rate written with its own value is applied afresh, with its link's buffer emptied, is log entry 19's. -/
def Obligations.SettingWriteStoresAndQueues : Prop :=
  ∀ (l : Link) (id : Byte) (value : BitVec 32) (s : State), Admitted .settingWrite l s →
    ((∀ i : SettingId, i.code ≠ id) →
      exec (.settingWrite l id value) s = answered .settingWrite l (s.hearing (.settingWrite l id value)) .badArgument [])
    ∧ ∀ i : SettingId, i.code = id →
      ∃ u, exec (.settingWrite l id value) s = answered .settingWrite l u .ok (id :: be32 (u.settings.get i))
        ∧ u.settings = s.settings.put i value.toNat ∧ Queued .settings (.settings u.settings.values) s u
        ∧ (i ∉ [SettingId.lifeLimit, .warningMargin, .missLimit, .panelWidth, .panelHeight, .tiltGain, .tiltAveraging,
              .idleLevel, .walkupLevel] → (∀ k, i ≠ .rate k ∧ i ≠ .mask k) → Untouched [.settings, .store] (s.hearing (.settingWrite l id value)) u)
        ∧ (i = .missLimit →
            u.scanner.plates = s.scanner.plates.map fun p =>
              if p.state = .present ∧ u.settings.missLimit ≤ p.missStreak then { p with state := .lost } else p)
        ∧ (u.scanner.plates ≠ s.scanner.plates → Pending .plates u)
        ∧ (i = .lifeLimit ∨ i = .warningMargin → (∀ c, s.lamp.state = .off c → c = .none) →
            u.account = { s.account with
              status := statusOf (s.account.record.wear / 57600) u.settings.lifeLimit u.settings.warningMargin })
        ∧ (i = .panelWidth ∨ i = .panelHeight → u.geometry.corners =
            cornersOf u.geometry.vEff s.geometry.active.h u.settings.panelWidth u.settings.panelHeight)
        ∧ (i = .idleLevel ∨ i = .walkupLevel → match s.session.use with
            | .none => u.policy.base = u.settings.idleLevel
            | .booked b => if b.running then
                  ∀ e terms, entryOf s.table b.id = some e → e.terms = some terms → u.policy.base = terms.level
                else u.policy.base = u.settings.idleLevel
            | .walkup _ _ _ => u.policy.base = u.settings.walkupLevel
            | .bridge _ _ => u.policy.base = u.settings.idleLevel)
        ∧ (i = .tiltGain ∨ i = .tiltAveraging →
            (s.geometry.tiltStale = true → u.geometry = s.geometry)
            ∧ (s.geometry.tiltStale = false →
                u.geometry.average = tiltAverage s.geometry.ring u.settings.tiltAveraging
                  ∧ u.geometry.vAuto = vAutoOf u.geometry.average u.settings.tiltGain
                  ∧ u.geometry.vEff = (match s.geometry.active.mode with
                      | .manual => s.geometry.active.vManual
                      | .auto => max (-40) (min 40 (u.geometry.vAuto + s.geometry.active.vTrim)))))
        ∧ (∀ k, i = .mask k → (s.link k).answering ≠ .held → (u.link k).attention = ((s.link k).notices &&& u.settings.maskOf k != 0))
        ∧ (∀ k, i = .rate k → k ≠ .campus → (s.link k).answering ≠ .sending → (u.link k).rate = u.settings.rateOf k
            ∧ (u.link k).frames = [] ∧ (u.link k).collecting = none ∧ (u.link k).rateDue = false)
        ∧ (∀ k, i = .rate k → k = .campus ∨ (s.link k).answering = .sending →
            (u.link k).rate = (s.link k).rate ∧ (u.link k).rateDue = true)

/-- R58, R173, R183: COUNTERS_CLEAR; R175: RESTART is answered OK and the reset waits for the response to be sent. -/
def Obligations.CountersClearAndRestart : Prop :=
  ∀ (l : Link) (s : State),
    (Admitted .countersClear l s →
      ∃ u, exec (.countersClear l) s = answered .countersClear l u .ok []
        ∧ (∀ k, u.link k = { (s.hearing (.countersClear l)).link k with badCrc := 0, gaps := 0, overruns := 0 })
        ∧ u.scanner = { s.scanner with badReplies := List.replicate 12 0, misses := List.replicate 12 0 }
        ∧ u.supply = { s.supply with powerOn := false, resetPin := false, supplyDrop := false, restart := false }
        ∧ Untouched [.links, .scanner, .supply] (s.hearing (.countersClear l)) u)
    ∧ (Admitted .restart l s →
        exec (.restart l) s = answered .restart l { (s.hearing (.restart l)) with restartArmed := true } .ok [])

/-! ## The second event -/

/-- R3, R4, R6, R121: a second event within a minute advances the clock, charges a burning lamp and adds to the warm count.
The order of charge and minute event (log entry 7) makes no difference here. -/
def Obligations.SecondEventChargesABurningLamp : Prop :=
  ∀ (a b : Bool) (s : State), s.clock.second < 59 →
    let weight := match s.lamp.state, s.pins.level with
      | .lit, .eco => 10
      | .lit, .boost => 22
      | _, _ => 16
    let shining := s.lamp.state = .warming ∨ s.lamp.state = .lit
    ∃ t, exec (.secondEvent a b) s = .next t ∧ t.now = max s.now (s.clock.secondStart + 1000000)
      ∧ t.clock = { s.clock with second := s.clock.second + 1, secondStart := s.clock.secondStart + 1000000 }
      ∧ t.account.warmCount = min 1800 (s.account.warmCount + 1)
      ∧ (¬shining → t.account = { s.account with warmCount := t.account.warmCount }
          ∧ Untouched [.time, .clock, .account] s t)
      ∧ (shining →
          t.account.record = { s.account.record with
              wear := min 3774873599 (s.account.record.wear + weight)
              burnSeconds := min 4294967295 (s.account.record.burnSeconds + 1) }
          ∧ t.account.currentBurn = min 4294967295 (s.account.currentBurn + 1)
          ∧ t.account.status
              = statusOf (t.account.record.wear / 57600) s.settings.lifeLimit s.settings.warningMargin
          ∧ (t.account.status ≠ s.account.status → Pending .account t)
          ∧ (s.account.checkpoint < 359 → t.account.checkpoint = s.account.checkpoint + 1 ∧ t.store = s.store)
          ∧ (359 ≤ s.account.checkpoint → t.account.checkpoint = 0
              ∧ ∀ w, s.store.write = some w → t.store = { s.store with queue := enqueue s.store.queue .account })
          ∧ Untouched (.time :: .clock :: burnBlocks) s t)

/-- R121, R123, R109, R135, R126: the minute event. R3: the second that ends the minute is charged by the lamp as it stands
before the minute event or as the minute event leaves it, as the order operand of log entry 7 says. -/
def Obligations.MinuteEventMovesTheClockAndTheCountdown : Prop :=
  ∀ (a b : Bool) (s : State), 59 ≤ s.clock.second → s.clock.hour ≤ 23 →
    ∃ t, exec (.secondEvent a b) s = .next t
      ∧ t.clock.second = 0 ∧ t.clock.secondStart = s.clock.secondStart + 1000000
      ∧ (s.clock.minute < 59 → t.clock.minute = s.clock.minute + 1 ∧ t.clock.hour = s.clock.hour
          ∧ t.clock.date = s.clock.date ∧ t.clock.unset = s.clock.unset)
      ∧ (59 ≤ s.clock.minute → s.clock.hour < 23 →
          t.clock.minute = 0 ∧ t.clock.hour = s.clock.hour + 1 ∧ t.clock.date = s.clock.date)
      ∧ (59 ≤ s.clock.minute → s.clock.hour = 23 → t.clock.minute = 0 ∧ t.clock.hour = 0
          ∧ (s.clock.date.valid = true → s.clock.date ≠ ⟨2099, 12, 31⟩ →
              t.clock.date.number = s.clock.date.number + 1 ∧ t.clock.date.valid = true ∧ t.clock.unset = s.clock.unset)
          ∧ (s.clock.date = ⟨2099, 12, 31⟩ → t.clock.date = ⟨2000, 1, 1⟩ ∧ t.clock.unset = true
              ∧ (s.clock.minute = 59 → s.clock.second = 59 → Pending .clock t)))
      ∧ (s.startUpDone = true → t.finder = found s.table t.clock
          ∧ t.policy.override = (match s.policy.override with
              | some ⟨level, some m⟩ => if m ≤ 1 then none else some ⟨level, some (m - 1)⟩
              | o => o))
      ∧ (s.startUpDone = false → t.finder = s.finder ∧ t.policy = s.policy ∧ t.session = s.session)
      ∧ (let weight := fun x : State => match x.lamp.state, x.pins.level with
          | .lit, .eco => 10
          | .lit, .boost => 22
          | _, _ => 16
         let shining := fun x : State => x.lamp.state = .warming ∨ x.lamp.state = .lit
         let charged := fun x : State =>
           t.account.record.burnSeconds = min 4294967295 (x.account.record.burnSeconds + 1)
             ∧ t.account.record.wear = min 3774873599 (x.account.record.wear + weight x)
         let m := s.advanceClock.takeMinute (s.clock.tickKind == .wrap) b
         (a = true → shining s → charged s)
           ∧ (a = true → ¬shining s → t.account.record.burnSeconds = s.account.record.burnSeconds)
           ∧ (a = false → shining m → charged m ∧ t.account.currentBurn = min 4294967295 (m.account.currentBurn + 1))
           ∧ (a = false → ¬shining m → t.account = { m.account with warmCount := t.account.warmCount })
           ∧ (a = false → t.account.warmCount = min 1800 (m.account.warmCount + 1)))
      ∧ Untouched (.time :: .clock :: .notice .clock :: .finder :: .notice .schedule :: runnerBlocks) s t

/-- R133 to R135, R142, R145 to R147: at a minute event with a current occurrence that the room does not yet run, the booked
start is made, whatever the record held; demand is kept from a PREWARM of the same occurrence and on otherwise.
R130, R145, R147: an ENTRY_PUT that replaces the entry of the running session ends it and starts the occurrence that is then
current, demand kept when it is the same one. -/
def Obligations.MinuteEventMakesTheBookedStart : Prop :=
  (∀ (a b : Bool) (s : State) (c : Occurrence) (e : Entry) (terms : Terms),
       s.startUpDone = true → 59 ≤ s.clock.second → (found s.table s.clock.tick).current = some c →
       entryOf s.table c.id = some e → e.terms = some terms →
       (∀ k, s.session.use = .booked k → k.running = true → ¬(k.id = c.id ∧ k.date = c.date)) →
         ∃ t, exec (.secondEvent a b) s = .next t ∧ Pending .session t
           ∧ ((∃ k, s.session.use = .booked k ∧ k.id = c.id ∧ k.date = c.date) →
               StartedFor c e terms s.session.demand s t)
           ∧ ((∀ k, s.session.use = .booked k → ¬(k.id = c.id ∧ k.date = c.date)) → StartedFor c e terms true s t))
  ∧ (∀ (l : Link) (raw : RawEntry) (s : State) (k : Booking) (e e' : Entry) (c : Occurrence) (terms : Terms),
         (Instr.entryPut l raw).wellFormed = true → Admitted .entryPut l s →
         entryOfRaw raw = some e → e.valid = true → (∃ x ∈ s.table, x.id = e.id) →
         (∀ x ∈ s.table, x.id ≠ e.id → e.conflicts x = false) →
         s.session.use = .booked k → k.running = true → k.id = e.id →
         (found (insertEntry e s.table) s.clock).current = some c → entryOf (insertEntry e s.table) c.id = some e' →
         e'.terms = some terms →
           ∃ u, exec (.entryPut l raw) s = answered .entryPut l u .ok [byte u.table.length]
             ∧ (k.id = c.id ∧ k.date = c.date → StartedFor c e' terms s.session.demand s u)
             ∧ (¬(k.id = c.id ∧ k.date = c.date) → StartedFor c e' terms true s u))

/-- R147, R148, R149: the bridging decision and what the end of a booking or a walk-up leaves when no pre-warm follows. A
count-down taken first (log entry 7) can strike a held lamp before the decision, which is left out here.
R144, R155: in NONE the next occurrence is pre-warmed within the lead; a walk-up that goes on is warned in its last five
minutes.
R144, R150: a PREWARM whose occurrence is no longer due within the lead, and a BRIDGE whose end has come, end in NONE or in
the pre-warm that is due.
R146: at a later runner event an owed source is issued again while the target is the owed base, and dropped once it is not. -/
def Obligations.MinuteEventEndsPrewarmsAndWarns : Prop :=
  (∀ (a b : Bool) (s : State), s.startUpDone = true → 59 ≤ s.clock.second →
       let clock := s.clock.tick
       let f := found s.table clock
       f.current = none → (b = false ∨ ∀ c, s.lamp.state = .off c → c = .none) →
       ((∃ k, s.session.use = .booked k ∧ k.running = true)
         ∨ ∃ x y w, s.session.use = .walkup x y w ∧ y ≤ clock.minuteCount) →
       let v := s.settings
       let bridges := BridgeCalledFor v f s.lamp.state
       ∃ t, exec (.secondEvent a b) s = .next t ∧ Pending .session t
         ∧ (∀ x, f.next = some x → bridges →
             t.session = { use := .bridge clock.minuteCount (x.date.number * 1440 + x.start), demand := true, requested := .eco }
               ∧ t.switch.bridgeMute = true ∧ t.lamp.demand = true ∧ t.lamp.requested = .eco
               ∧ t.policy.base = v.idleLevel)
         ∧ (¬bridges → t.table = s.table ∧ EndedSession v f t
             ∧ (f.next = none ∨ v.lead < f.lead → t.switch.bridgeMute = false ∧ t.lamp.demand = false
                 ∧ t.lamp.requested = .normal ∧ t.policy.base = v.idleLevel)))
  ∧ (∀ (a b : Bool) (s : State), s.startUpDone = true → 59 ≤ s.clock.second →
         let clock := s.clock.tick
         let f := found s.table clock
         f.current = none →
         (∀ x e, s.session.use = .none → f.next = some x → f.lead ≤ s.settings.lead → entryOf s.table x.id = some e →
           ∃ t, exec (.secondEvent a b) s = .next t ∧ Pending .session t
             ∧ t.session.use = .booked
                 { id := x.id, date := x.date, running := false, start := x.date.number * 1440 + x.start
                   stop := x.date.number * 1440 + x.stop, label := e.label, owed := none }
             ∧ t.session.demand = true ∧ t.session.requested = .normal
             ∧ t.switch.bridgeMute = true ∧ t.lamp.demand = true ∧ t.policy.base = s.settings.idleLevel)
         ∧ (∀ x y w, s.session.use = .walkup x y w → clock.minuteCount < y → s.clock.tickKind = .minute →
           ∃ t, exec (.secondEvent a b) s = .next t
             ∧ t.session = { s.session with use := .walkup x y (decide (y ≤ clock.minuteCount + 5)) }
             ∧ (t.session ≠ s.session → Pending .session t)))
  ∧ (∀ (a b : Bool) (s : State), s.startUpDone = true → 59 ≤ s.clock.second →
         let clock := s.clock.tick
         let f := found s.table clock
         let v := s.settings
         f.current = none →
         ((∃ x y, s.session.use = .bridge x y ∧ y ≤ clock.minuteCount)
           ∨ ∃ k, s.session.use = .booked k ∧ k.running = false
             ∧ ((∀ x, f.next = some x → ¬(k.id = x.id ∧ k.date = x.date)) ∨ v.lead < f.lead)) →
           ∃ t, exec (.secondEvent a b) s = .next t ∧ t.lamp.demand = t.session.demand ∧ t.policy.base = v.idleLevel
             ∧ t.table = s.table ∧ EndedSession v f t
             ∧ (f.next = none ∨ v.lead < f.lead → t.switch.bridgeMute = false ∧ Pending .session t)
             ∧ (∀ x e, f.next = some x → f.lead ≤ v.lead → entryOf s.table x.id = some e →
                 t.switch.bridgeMute = true ∧ Pending .session t))
  ∧ (∀ (a b : Bool) (s : State) (k : Booking) (c : Occurrence) (e : Entry) (terms : Terms) (base : Nat),
         s.startUpDone = true → 59 ≤ s.clock.second → (found s.table s.clock.tick).current = some c →
         s.session.use = .booked k → k.running = true → k.id = c.id → k.date = c.date → k.owed = some base →
         entryOf s.table k.id = some e → e.terms = some terms →
         (s.switch.state.settled = true → s.switch.target = s.switch.routed) →
           ∃ t owed, exec (.secondEvent a b) s = .next t
             ∧ t.session = { s.session with use := .booked { k with owed := owed } }
             ∧ (s.switch.target ≠ base → owed = none ∧ t.switch.target = s.switch.target
                 ∧ t.switch.routed = s.switch.routed ∧ t.switch.state = s.switch.state)
             ∧ (s.switch.target = base → t.switch.target = terms.source → owed = none)
             ∧ (s.switch.target = base → t.switch.target ≠ terms.source →
                 t.switch.target = base ∧ owed = some base)
             ∧ (s.switch.target = base → terms.source ≤ 12 → (s.plate terms.source).state = .present →
                 1 ≤ terms.source → t.switch.target = terms.source ∧ owed = none))

/-! ## The lamp's events -/

/-- R25, R31: what a change of LIT starts or abandons.
R25, R7, R9, R29: LIT confirmed within the strike window.
R31, R8: an outage ends the burn, with demand still on. -/
def Obligations.LitIsConfirmedAndItsLossIsAnOutage : Prop :=
  (∀ (high : Bool) (dt : Nat) (s : State),
       ∃ t, exec (.litChange high dt) s = .next t ∧ t.now = s.now + dt ∧ t.pins = { s.pins with lit := high }
         ∧ t.lamp = { s.lamp with litHold :=
             if s.pins.lit = high then s.lamp.litHold
             else if s.lamp.state = .striking .attempt then (if high then some t.now else none)
             else if s.lamp.state = .warming ∨ s.lamp.state = .lit then (if high then none else some t.now)
             else s.lamp.litHold }
         ∧ Untouched [.time, .pins, .lamp] s t)
  ∧ (∀ s : State,
         (∀ rise, s.lamp.state = .striking .attempt → s.lamp.litHold = some rise →
           rise + 100000 ≤ s.lamp.timerStart + s.lamp.timerLength →
           let grace := s.account.status = .expired ∧ s.policy.effective ≠ .service ∧ 0 < s.account.record.grace
           ∃ t, exec .litConfirmed s = .next t ∧ t.now = max s.now (rise + 100000)
             ∧ t.lamp.state = (if s.settings.warmUp = 0 then .lit else .warming)
             ∧ t.lamp.timeToLight = min 255 ((rise - s.lamp.igniteAt) / 20000) ∧ t.lamp.timerStart = t.now
             ∧ t.lamp.timerLength = s.settings.warmUp * 1000000 ∧ t.pins.ignite = false ∧ t.pins.lampEn = true
             ∧ t.account.record = { s.account.record with
                 ignitions := min 65535 (s.account.record.ignitions + 1)
                 hotIgnitions := if s.account.attempt = some true then min 65535 (s.account.record.hotIgnitions + 1)
                   else s.account.record.hotIgnitions
                 grace := t.account.record.grace }
             ∧ (grace → t.account.record.grace = s.account.record.grace - 1 ∧ Pending .account t)
             ∧ (¬grace → t.account.record.grace = s.account.record.grace)
             ∧ t.account.attempt = none ∧ Pending .lamp t ∧ Untouched (.time :: strikeBlocks) s t)
         ∧ (s.lamp.state ≠ .striking .attempt ∨ s.lamp.litHold = none → exec .litConfirmed s = .next s))
  ∧ (∀ s : State,
         (∀ fall, s.lamp.state = .warming ∨ s.lamp.state = .lit → s.lamp.litHold = some fall →
           ∃ t, exec .outage s = .next t ∧ t.now = max s.now (fall + 100000) ∧ t.lamp.state = .cooling s.lamp.demand
             ∧ t.lamp.timerStart = t.now ∧ t.lamp.timerLength = s.settings.cooldown * 1000000 ∧ t.pins.lampEn = false
             ∧ t.pins.mute = true
             ∧ t.account = { s.account with
                 record := { s.account.record with
                   lastBurn := s.account.currentBurn, outages := min 65535 (s.account.record.outages + 1) }
                 warmCount := 0, attempt := none, checkpoint := 0 }
             ∧ (∀ w, s.store.write = some w → t.store = { s.store with queue := enqueue s.store.queue .account })
             ∧ Pending .lamp t ∧ Untouched (.time :: burnBlocks) s t)
         ∧ ((s.lamp.state ≠ .warming ∧ s.lamp.state ≠ .lit) ∨ s.lamp.litHold = none → exec .outage s = .next s))

/-- R26, R27, R7: the strike window and the retry wait end.
R29, R32, R33, R42: warm-up and cooldown end. -/
def Obligations.LampTimersExpire : Prop :=
  (∀ s : State, let due := max s.now (s.lamp.timerStart + s.lamp.timerLength)
       (s.lamp.state = .striking .attempt →
         ∃ t, exec .strikeWindowExpiry s = .next t ∧ t.now = due
           ∧ t.account = { s.account with
               record := { s.account.record with failedAttempts := min 65535 (s.account.record.failedAttempts + 1) }
               attempt := none }
           ∧ (s.lamp.attempts < s.settings.attempts → t.lamp.state = .striking .retryWait ∧ t.lamp.timerStart = t.now
               ∧ t.lamp.timerLength = s.settings.retryWait * 1000000 ∧ t.pins.fan = true)
           ∧ (s.settings.attempts ≤ s.lamp.attempts → t.lamp.state = .failed)
           ∧ t.lamp.attempts = s.lamp.attempts ∧ t.pins.ignite = false ∧ t.pins.lampEn = false
           ∧ Pending .lamp t ∧ Untouched (.time :: .account :: ballastBlocks) s t)
       ∧ (s.lamp.state = .striking .retryWait →
         ∃ t, exec .retryWaitExpiry s = .next t ∧ t.now = due
           ∧ (s.lamp.temp ≠ .hot → s.strikePermitted = true → t.lamp.state = .striking .attempt
               ∧ t.lamp.attempts = s.lamp.attempts + 1 ∧ t.lamp.timerStart = t.now
               ∧ t.lamp.timerLength = s.settings.strikeWindow * 1000000 ∧ t.lamp.timeToLight = 0 ∧ t.pins.ignite = true
               ∧ t.pins.lampEn = true
               ∧ t.account.record.wear = min 3774873599 (s.account.record.wear + s.settings.strikeCost * 960
                   * if s.account.warmCount < s.settings.warmWindow then 2 else 1)
               ∧ t.account.attempt = some (decide (s.account.warmCount < s.settings.warmWindow))
               ∧ t.account.currentBurn = 0)
           ∧ (s.lamp.temp ≠ .hot → s.strikePermitted = false →
               t.lamp.state = .off .account ∧ t.lamp.attempts = s.lamp.attempts ∧ t.account = s.account
                 ∧ Pending .account t)
           ∧ Pending .lamp t ∧ Untouched (.time :: strikeBlocks) s t)
       ∧ (s.lamp.state ≠ .striking .attempt → exec .strikeWindowExpiry s = .next s)
       ∧ (s.lamp.state ≠ .striking .retryWait → exec .retryWaitExpiry s = .next s))
  ∧ (∀ s : State, let due := max s.now (s.lamp.timerStart + s.lamp.timerLength)
         (s.lamp.state = .warming →
           ∃ t, exec .warmUpExpiry s = .next t ∧ t.now = due
             ∧ t.lamp = { s.lamp with
                 state := .lit, effective := effectiveLevel s.lamp.requested s.lamp.temp s.account.status }
             ∧ t.pins.level = t.lamp.effective ∧ t.pins.lampEn = true ∧ Pending .lamp t
             ∧ Untouched (.time :: ballastBlocks) s t)
         ∧ (∀ strike, s.lamp.state = .cooling strike → s.startUpDone = true →
           ∃ t, exec .cooldownExpiry s = .next t ∧ t.now = due ∧ Pending .lamp t
             ∧ (strike = false → t.lamp.state = .off .none ∧ t.lamp.demand = s.lamp.demand
                 ∧ Untouched (.time :: ballastBlocks) s t)
             ∧ (strike = true → s.lamp.temp = .hot → t.lamp.state = .off .thermal)
             ∧ (strike = true → s.lamp.temp ≠ .hot → s.strikePermitted = false →
                 t.lamp.state = .off .account ∧ Pending .account t)
             ∧ (strike = true → s.lamp.temp ≠ .hot → s.strikePermitted = true →
                 t.lamp.state = .striking .attempt ∧ t.lamp.attempts = 1 ∧ t.pins.ignite = true)
             ∧ Untouched (.time :: strikeBlocks) s t)
         ∧ (s.lamp.state ≠ .warming → exec .warmUpExpiry s = .next s)
         ∧ ((∀ strike, s.lamp.state ≠ .cooling strike) → exec .cooldownExpiry s = .next s))

/-! ## The room bus -/

/-- R43, R45 to R47, R54, R56: a POLL is sent, a reply window expires, a cycle starts.
R46, R116: the POLL carries the address, ON_AIR and SELECTABLE. -/
def Obligations.PollCycleVisitsTheAddresses : Prop :=
  (∀ s : State,
       (∀ address frame till, s.scanner.slot = .polling address frame till →
         ∃ t, exec .pollSent s = .next t ∧ t.now = max s.now till
           ∧ t.scanner = { s.scanner with slot := .window address [] (t.now + 2000) }
           ∧ t.pins = { s.pins with busDe := false } ∧ Untouched [.time, .scanner, .pins] s t)
       ∧ (∀ address bytes till p, s.scanner.slot = .window address bytes till → 1 ≤ address →
           s.scanner.plates[address - 1]? = some p →
         ∃ t q, exec .replyWindowExpiry s = .next t ∧ t.now = max s.now till
           ∧ q = (if p.state = .present ∧ s.settings.missLimit ≤ min 7 (p.missStreak + 1)
               then { p with missStreak := min 7 (p.missStreak + 1), state := .lost }
               else { p with missStreak := min 7 (p.missStreak + 1) })
           ∧ t.scanner.plates = s.scanner.plates.set (address - 1) q
           ∧ t.scanner.misses
               = s.scanner.misses.set (address - 1) (min 255 (nth s.scanner.misses (address - 1) 0 + 1))
           ∧ t.scanner.badReplies = s.scanner.badReplies ∧ (q.state ≠ p.state → Pending .plates t)
           ∧ SlotAfter address { s with now := t.now } t
           ∧ Untouched [.time, .scanner, .pins, .notice .plates, .attention] s t)
       ∧ (∀ till, s.scanner.slot = .cycleGap till →
         ∃ t, exec .cycleGapExpiry s = .next t ∧ t.now = max s.now till
           ∧ t.scanner.finalInForce = s.settings.finalAddress ∧ t.scanner.plates.length = s.scanner.plates.length
           ∧ (∀ n p, s.scanner.plates[n]? = some p →
               t.scanner.plates[n]? = some
                 (if s.settings.finalAddress < n + 1 then
                   (if p.state = .unconfigured then p else { p with state := .unconfigured, missStreak := 0 })
                  else if p.state = .unconfigured then { p with state := .absent, missStreak := 0 } else p))
           ∧ (t.scanner.plates ≠ s.scanner.plates → Pending .plates t)
           ∧ t.scanner.slot = .polling 1 (t.pollFrame 1) (t.now + 240) ∧ t.pins = { s.pins with busDe := true }
           ∧ Untouched [.time, .scanner, .pins, .notice .plates, .attention] s t)
       ∧ ((∀ address frame till, s.scanner.slot ≠ .polling address frame till) → exec .pollSent s = .next s)
       ∧ ((∀ address bytes till, s.scanner.slot ≠ .window address bytes till) → exec .replyWindowExpiry s = .next s)
       ∧ ((∀ till, s.scanner.slot ≠ .cycleGap till) → exec .cycleGapExpiry s = .next s))
  ∧ (∀ (address : Nat) (s : State), ∃ flags : Byte,
         s.pollFrame address = [byte address, flags, crc8 [byte address, flags]]
           ∧ flags.getLsbD 0 = (s.switch.routed == address && s.switch.state == .showing)
           ∧ flags.getLsbD 1 = (s.policy.effective == .openRoom || s.policy.effective == .present)
           ∧ flags.toNat < 4)

/-- R43, R47, R50, R51, R54: a byte on the bus; that the next POLL carries ON_AIR as a plate's request has left it is log
entry 23's inference. A group of five is judged by its CRC and its address; a good reply from a
plate that was not PRESENT makes no request.
R51, R52, with R69 and R70: a changed button count of a PRESENT plate makes a PLATE request, a changed connect count a
FOLLOW request, when the level permits it; the sequencer takes it in each of its states, and drops a FOLLOW request while a
switch of another origin is in transit. Ring and streak at the entry to MUTING: log entry 35. -/
def Obligations.RepliesAreJudgedAndPlatesHeard : Prop :=
  (∀ (b : Byte) (s : State),
       ((∀ address bytes till, s.scanner.slot ≠ .window address bytes till) → exec (.busByteReceived b) s = .next s)
       ∧ ∀ address bytes till, s.scanner.slot = .window address bytes till →
         (bytes.length ≠ 4 → exec (.busByteReceived b) s
           = .next { s with scanner := { s.scanner with slot := .window address (bytes ++ [b]) till } })
         ∧ ∀ who flags connects buttons, bytes = [who, flags, connects, buttons] →
           (crc8 bytes = b → who.toNat ≠ address → exec (.busByteReceived b) s
             = .next { s with scanner := { s.scanner with slot := .window address [] till } })
           ∧ ∀ p, 1 ≤ address → s.scanner.plates[address - 1]? = some p →
             (crc8 bytes ≠ b →
               ∃ t q, exec (.busByteReceived b) s = .next t
                 ∧ q = { p with
                     missStreak := min 7 (p.missStreak + 1)
                     state := if p.state = .present ∧ s.settings.missLimit ≤ min 7 (p.missStreak + 1) then .lost else p.state }
                 ∧ (q.state ≠ p.state → Pending .plates t)
                 ∧ t.scanner.plates = s.scanner.plates.set (address - 1) q
                 ∧ t.scanner.badReplies
                     = s.scanner.badReplies.set (address - 1) (min 255 (nth s.scanner.badReplies (address - 1) 0 + 1))
                 ∧ t.scanner.misses = s.scanner.misses ∧ SlotAfter address s t
                 ∧ Untouched [.scanner, .pins, .notice .plates, .attention] s t)
             ∧ (crc8 bytes = b → who.toNat = address →
               ∃ t q, exec (.busByteReceived b) s = .next t ∧ t.scanner.plates = s.scanner.plates.set (address - 1) q
                 ∧ q.state = .present ∧ q.missStreak = 0 ∧ q.connects = connects.toNat ∧ q.buttons = buttons.toNat
                 ∧ q.kind = some (plateKindOfCode (flags.toNat % 4)) ∧ q.signal = some (flags.getLsbD 2)
                 ∧ q.syncEdge = some (if flags.getLsbD 3 then .falling else .rising)
                 ∧ (p.state ≠ .present ∨ p.kind ≠ q.kind ∨ p.signal ≠ q.signal → Pending .plates t)
                 ∧ (if address < s.scanner.finalInForce then t.scanner.slot = .polling (address + 1) (t.pollFrame (address + 1)) (s.now + 240)
                    else t.scanner.slot = .cycleGap (s.now + 50000))
                 ∧ (p.state ≠ .present ∨ (p.connects = q.connects ∧ p.buttons = q.buttons) →
                     SlotAfter address s t ∧ Untouched [.scanner, .pins, .notice .plates, .attention] s t)
                 ∧ Untouched (.scanner :: .notice .plates :: routeBlocks) s t))
  ∧ (∀ (flags connects buttons : Byte) (address till : Nat) (p : Plate) (s : State) (c : Requester),
         1 ≤ address → address ≤ 12 → s.scanner.plates[address - 1]? = some p → p.state = .present →
         s.scanner.slot = .window address [byte address, flags, connects, buttons] till →
         let press := p.buttons ≠ buttons.toNat
         let follow := p.buttons = buttons.toNat ∧ p.connects ≠ connects.toNat ∧ flags.getLsbD 2 = true ∧ s.settings.follow = true
         let open' := s.policy.effective = .openRoom ∨ s.policy.effective = .present
         let w := s.switch
         let routed : Switch :=
           { w with
             state := .masking, routed := address, target := address, origin := some (.by c), lockTime := 0
             reference := none, ring := [], streak := 0, missMark := false, timerEnd := s.now + s.settings.maskTime * 1000
             routedAt := s.now }
         let dropped := c = .follow ∧ w.origin ≠ some (.by .follow)
         ∃ t, exec (.busByteReceived (crc8 [byte address, flags, connects, buttons])) s = .next t
           ∧ ((¬press ∧ ¬follow) ∨ ¬open' → t.switch = w ∧ t.pins.srcSel = s.pins.srcSel)
           ∧ (open' → (press ∧ c = .plate) ∨ (follow ∧ c = .follow) →
               (address = w.routed → w.state = .dark ∨ w.state = .showing → t.switch = w)
               ∧ (address = w.routed → w.state = .noSignal →
                   t.switch = { w with
                     state := .seeking, origin := some (.by c), edge := some (if flags.getLsbD 3 then .falling else .rising)
                     ring := [], streak := 0, missMark := false, reference := none
                     timerEnd := s.now + s.settings.seekWindow * 1000 })
               ∧ (address ≠ w.routed →
                   w.state = .dark ∨ w.state = .noSignal
                     ∨ (w.state = .showing ∧ (s.pins.mute = true ∨ s.settings.muteLead = 0)) →
                   t.switch = routed ∧ t.pins.srcSel = address ∧ t.pins.mute = true
                     ∧ t.geometry.active = nth s.geometry.presets address {})
               ∧ (address ≠ w.routed → w.state = .showing → s.pins.mute = false → 0 < s.settings.muteLead →
                   t.switch = { w with
                       state := .muting, target := address, origin := some (.by c), ring := [], streak := 0
                       missMark := false, timerEnd := s.now + s.settings.muteLead * 1000 }
                     ∧ t.pins.mute = true ∧ t.pins.srcSel = s.pins.srcSel)
               ∧ (w.state.settled = false → dropped ∨ address = w.target → t.switch = w ∧ t.pins.srcSel = s.pins.srcSel)
               ∧ (w.state = .muting → ¬dropped → address ≠ w.target →
                   t.switch = { w with target := address, origin := some (.by c) })
               ∧ (w.state = .masking ∨ w.state = .seeking ∨ w.state = .confirming → ¬dropped → address ≠ w.target →
                   t.switch = routed ∧ t.pins.srcSel = address ∧ t.pins.mute = true
                     ∧ t.geometry.active = nth s.geometry.presets address {})))

/-! ## The picture's events -/

/-- R75, R76, R78, R79, R82: a VSYNC edge in SEEKING or NO_SIGNAL.
R75, R77, R83, R84: a VSYNC edge in SHOWING; in the states that do not time VSYNC an edge is ignored. -/
def Obligations.VsyncIsMeasuredAndWatched : Prop :=
  (∀ (edge : SyncEdge) (dt : Nat) (s : State), s.switch.state = .seeking ∨ s.switch.state = .noSignal →
       let now := s.now + dt
       let w := s.switch
       let same := fun (t : State) (x : Switch) => t.switch = x ∧ t.now = now ∧ Untouched [.time, .switch] s t
       ∃ t, exec (.vsyncEdge edge dt) s = .next t
         ∧ (w.edge ≠ some edge → same t w)
         ∧ (w.edge = some edge → w.reference = none → same t { w with reference := some now })
         ∧ ∀ r, w.edge = some edge → w.reference = some r →
           let i := min 65535 (now - r)
           let avg := ringAverage w.ring s.settings.averaging
           let inStep := (i - avg) * 256 ≤ avg * s.settings.tolerance ∧ (avg - i) * 256 ≤ avg * s.settings.tolerance
           (i < 8000 ∨ 50000 < i → same t { w with reference := some now, ring := [], streak := 0 })
           ∧ (8000 ≤ i → i ≤ 50000 → w.ring = [] ∨ ¬inStep →
               same t { w with reference := some now, ring := [i], streak := 1 })
           ∧ (8000 ≤ i → i ≤ 50000 → w.ring ≠ [] → inStep → w.streak + 1 < s.settings.stableCount →
               same t { w with reference := some now, ring := newest 8 (w.ring ++ [i]), streak := w.streak + 1 })
           ∧ (8000 ≤ i → i ≤ 50000 → w.ring ≠ [] → inStep → s.settings.stableCount ≤ w.streak + 1 →
               let ring := newest 8 (w.ring ++ [i])
               t.switch = { w with
                   state := .confirming, reference := some now, ring := ring, streak := w.streak + 1
                   timerEnd := now + ringAverage ring s.settings.averaging * s.settings.confirmFactor / 128 }
                 ∧ t.pins = { s.pins with mute := true } ∧ t.now = now ∧ Untouched (.time :: .switch :: muteBlocks) s t))
  ∧ (∀ (edge : SyncEdge) (dt : Nat) (s : State),
         let now := s.now + dt
         let w := s.switch
         (w.state ≠ .showing → w.state ≠ .seeking → w.state ≠ .noSignal →
           exec (.vsyncEdge edge dt) s = .next { s with now := now })
         ∧ (w.state = .showing → w.edge ≠ some edge → exec (.vsyncEdge edge dt) s = .next { s with now := now })
         ∧ ∀ r, w.state = .showing → w.edge = some edge → w.reference = some r →
           let i := min 65535 (now - r)
           let avg := ringAverage w.ring s.settings.averaging
           let good := 8000 ≤ i ∧ i ≤ 50000 ∧ (i - avg) * 256 ≤ avg * s.settings.tolerance
             ∧ (avg - i) * 256 ≤ avg * s.settings.tolerance
           ∃ t, exec (.vsyncEdge edge dt) s = .next t ∧ t.now = now
             ∧ (good →
                 let ring := newest 8 (w.ring ++ [i])
                 t.switch = { w with
                     reference := some now, ring := ring, missMark := false
                     timerEnd := now + 4 * ringAverage ring s.settings.averaging }
                   ∧ Untouched [.time, .switch] s t)
             ∧ (¬good → w.missMark = false →
                 t.switch = { w with reference := some now, missMark := true, timerEnd := now + 4 * avg }
                   ∧ Untouched [.time, .switch] s t)
             ∧ (¬good → w.missMark = true →
                 SeekingFrom (some now) w.origin { s with now := now } t ∧ Pending .picture t))

/-- R72, R73, R80, R83: the mute lead, the mask, the confirm delay and the sync watch end.
R81, R82: the seek window ends in NO_SIGNAL or in a revert to the previous plate. -/
def Obligations.SwitchTimersExpire : Prop :=
  (∀ s : State, let now := max s.now s.switch.timerEnd
       (s.switch.state = .muting →
         ∃ t, exec .muteLeadExpiry s = .next t ∧ t.now = now
           ∧ RoutedTo s.switch.target s.switch.origin { s with now := now } t)
       ∧ (s.switch.state = .masking → s.switch.routed = 0 →
         ∃ t, exec .maskExpiry s = .next t ∧ t.now = now ∧ t.switch = { s.switch with state := .dark }
           ∧ t.pins = { s.pins with mute := true } ∧ Pending .picture t
           ∧ Untouched (.time :: .switch :: muteBlocks) s t)
       ∧ (s.switch.state = .masking → s.switch.routed ≠ 0 →
         ∃ t, exec .maskExpiry s = .next t ∧ t.now = now ∧ SeekingFrom none s.switch.origin { s with now := now } t)
       ∧ (s.switch.state = .confirming →
         ∃ t, exec .confirmDelayExpiry s = .next t ∧ t.now = now
           ∧ t.switch = { s.switch with
               state := .showing, previous := s.switch.routed
               lockTime := min 65535 ((now - s.switch.routedAt) / 1000), missMark := false
               timerEnd := s.switch.reference.getD now + 4 * ringAverage s.switch.ring s.settings.averaging }
           ∧ t.pins.mute = (s.switch.pictureMute || s.switch.bridgeMute
               || !(s.lamp.state == .warming || s.lamp.state == .lit))
           ∧ Pending .picture t ∧ Untouched (.time :: .switch :: muteBlocks) s t)
       ∧ (s.switch.state = .showing →
         ∃ t, exec .syncWatchExpiry s = .next t ∧ t.now = now
           ∧ SeekingFrom none s.switch.origin { s with now := now } t ∧ Pending .picture t)
       ∧ (s.switch.state ≠ .muting → exec .muteLeadExpiry s = .next s)
       ∧ (s.switch.state ≠ .masking → exec .maskExpiry s = .next s)
       ∧ (s.switch.state ≠ .confirming → exec .confirmDelayExpiry s = .next s)
       ∧ (s.switch.state ≠ .showing → exec .syncWatchExpiry s = .next s))
  ∧ (∀ s : State, let now := max s.now s.switch.timerEnd
         let revert := s.settings.fallback = .revert ∧ s.switch.origin ≠ some .revert ∧ s.switch.previous ≠ 0
           ∧ (s.plate s.switch.previous).state = .present ∧ s.switch.previous ≠ s.switch.routed
         (s.switch.state = .seeking → revert →
           ∃ t, exec .seekWindowExpiry s = .next t ∧ t.now = now
             ∧ RoutedTo s.switch.previous (some .revert) { s with now := now } t)
         ∧ (s.switch.state = .seeking → ¬revert →
           ∃ t, exec .seekWindowExpiry s = .next t ∧ t.now = now ∧ t.switch = { s.switch with state := .noSignal }
             ∧ t.pins = { s.pins with mute := true } ∧ Pending .picture t
             ∧ Untouched (.time :: .switch :: muteBlocks) s t)
         ∧ (s.switch.state ≠ .seeking → exec .seekWindowExpiry s = .next s))

/-! ## The calendar and the policy table -/

/-- R121, R122: the month lengths, the day after a date, the day numbers that count the days from 2000-01-01 one by one,
and the weekday (0 Monday through 6 Sunday) that follows from them. -/
def Obligations.DayNumbersFollowTheCalendar : Prop :=
  (∀ n, n < 36525 → (dateOfNumber n).valid = true ∧ (dateOfNumber n).number = n)
    ∧ (∀ d : Date, d.valid = true → d.number < 36525 ∧ dateOfNumber d.number = d)
    ∧ (⟨2000, 1, 1⟩ : Date).number = 0 ∧ (⟨2024, 1, 1⟩ : Date).number = 8766 ∧ (⟨2027, 3, 15⟩ : Date).number = 9935
    ∧ (∀ y m, 1 ≤ m → m ≤ 12 →
        monthLength y m = if m = 2 then (if y % 4 = 0 then 29 else 28) else if m ∈ [4, 6, 9, 11] then 30 else 31)
    ∧ (∀ d : Date, d.valid = true → d ≠ ⟨2099, 12, 31⟩ →
        d.next.number = d.number + 1
          ∧ d.next = if d.day < monthLength d.year d.month then ⟨d.year, d.month, d.day + 1⟩
            else if d.month = 12 then ⟨d.year + 1, 1, 1⟩ else ⟨d.year, d.month + 1, 1⟩)
    ∧ ∀ d : Date, d.weekday = (match d.number % 7 with
        | 0 => 5
        | 1 => 6
        | 2 => 0
        | 3 => 1
        | 4 => 2
        | 5 => 3
        | _ => 4)

/-- R112, with SELECTABLE of R116 as its PLATE cells of SOURCE_SELECT, and with R113 and R168: the links that accept each
command and the five commands of no row that SERVICE alone permits. -/
def Obligations.PolicyTableAdmitsTheClassesOfItsCells : Prop :=
  let table : PolicyRow → List (List Requester) := fun row =>
    match row with
    | .sessionStart | .sessionEnd | .sessionExtend =>
      [[.lectern, .campus], [.lectern, .campus, .remote], [.lectern, .campus], [.campus], [.campus]]
    | .lampLevel => [[.campus], [.lectern, .campus, .remote], [.campus], [.campus], [.campus]]
    | .sourceSelect =>
      [[.lectern, .campus], [.lectern, .campus, .remote, .plate, .follow], [.lectern, .campus, .plate, .follow], [.campus],
        [.lectern, .campus]]
    | .pictureMute =>
      [[.lectern, .campus], [.lectern, .campus, .remote], [.lectern, .campus, .remote], [.lectern, .campus],
        [.lectern, .campus]]
    | .geometry => [[.campus], [.lectern, .campus, .remote], [.lectern, .campus], [.campus], [.lectern, .campus]]
  let rowOf : Command → Option PolicyRow := fun cmd =>
    match cmd with
    | .sessionStart => some .sessionStart
    | .sessionEnd => some .sessionEnd
    | .sessionExtend => some .sessionExtend
    | .lampLevel => some .lampLevel
    | .sourceSelect => some .sourceSelect
    | .pictureMute => some .pictureMute
    | .geometrySet | .geometryTrim | .presetStore => some .geometry
    | _ => none
  let ofEngine : List Command := [.tiltReport, .engineReport]
  let ofCampus : List Command :=
    [.clockSet, .entryPut, .entryDelete, .scheduleClear, .overrideSet, .overrideClear, .lampReplaced, .accountSet,
      .settingWrite, .restart, .countersClear]
  let serviceOnly : List Command := [.lampReplaced, .accountSet, .scheduleClear, .settingWrite, .restart]
  ∀ (row : PolicyRow) (c : Requester) (level : Level),
    (permits row c level = true ↔ c = .schedule ∨ c ∈ nth (table row) level.code [])
      ∧ (selectable level = true ↔ level = .openRoom ∨ level = .present)
      ∧ ∀ (cmd : Command) (l : Link),
          (rowOf cmd = some row → requesterOf l = c → cmd.acceptedOn l = true →
            judge cmd l level = if permits row c level then none else some .refusedLockout)
          ∧ (rowOf cmd = none → cmd.acceptedOn l = true →
              judge cmd l level = if cmd ∈ serviceOnly ∧ level ≠ .service then some .refusedLockout else none)
          ∧ (cmd.acceptedOn l = true ↔ (cmd ∈ ofEngine → l = .engine) ∧ (cmd ∈ ofCampus → l = .campus))
          ∧ (cmd.acceptedOn l = false → judge cmd l level = some .wrongLink)
          ∧ requesterOf l ≠ .plate ∧ requesterOf l ≠ .follow
end

