-- ==== Sys2Proof/Laws/State.lean ====
section
/-! SUPPORT. One lemma for each field and each basic update of the state, so that no later proof unfolds a record update. -/

namespace Sys2Proof.Machine

open Sys2Proof.Config

/-! ## `elapse`: only the model's time changes -/

@[simp] theorem State.elapse_pending (s : State) (d : Nat) : (s.elapse d).pending = s.pending := rfl
@[simp] theorem State.elapse_choices (s : State) (d : Nat) : (s.elapse d).choices = s.choices := rfl
@[simp] theorem State.elapse_settings (s : State) (d : Nat) : (s.elapse d).settings = s.settings := rfl
@[simp] theorem State.elapse_account (s : State) (d : Nat) : (s.elapse d).account = s.account := rfl
@[simp] theorem State.elapse_lamp (s : State) (d : Nat) : (s.elapse d).lamp = s.lamp := rfl
@[simp] theorem State.elapse_scanner (s : State) (d : Nat) : (s.elapse d).scanner = s.scanner := rfl
@[simp] theorem State.elapse_switch (s : State) (d : Nat) : (s.elapse d).switch = s.switch := rfl
@[simp] theorem State.elapse_geometry (s : State) (d : Nat) : (s.elapse d).geometry = s.geometry := rfl
@[simp] theorem State.elapse_policy (s : State) (d : Nat) : (s.elapse d).policy = s.policy := rfl
@[simp] theorem State.elapse_clock (s : State) (d : Nat) : (s.elapse d).clock = s.clock := rfl
@[simp] theorem State.elapse_table (s : State) (d : Nat) : (s.elapse d).table = s.table := rfl
@[simp] theorem State.elapse_finder (s : State) (d : Nat) : (s.elapse d).finder = s.finder := rfl
@[simp] theorem State.elapse_session (s : State) (d : Nat) : (s.elapse d).session = s.session := rfl
@[simp] theorem State.elapse_engine (s : State) (d : Nat) : (s.elapse d).engine = s.engine := rfl
@[simp] theorem State.elapse_lectern (s : State) (d : Nat) : (s.elapse d).lectern = s.lectern := rfl
@[simp] theorem State.elapse_campus (s : State) (d : Nat) : (s.elapse d).campus = s.campus := rfl
@[simp] theorem State.elapse_receiversOn (s : State) (d : Nat) : (s.elapse d).receiversOn = s.receiversOn := rfl
@[simp] theorem State.elapse_silence (s : State) (d : Nat) : (s.elapse d).silence = s.silence := rfl
@[simp] theorem State.elapse_restartArmed (s : State) (d : Nat) : (s.elapse d).restartArmed = s.restartArmed := rfl
@[simp] theorem State.elapse_store (s : State) (d : Nat) : (s.elapse d).store = s.store := rfl
@[simp] theorem State.elapse_supply (s : State) (d : Nat) : (s.elapse d).supply = s.supply := rfl
@[simp] theorem State.elapse_startUpDone (s : State) (d : Nat) : (s.elapse d).startUpDone = s.startUpDone := rfl
@[simp] theorem State.elapse_pins (s : State) (d : Nat) : (s.elapse d).pins = s.pins := rfl

@[simp] theorem State.elapse_now (s : State) (d : Nat) : (s.elapse d).now = s.now + d := rfl

/-! ## `reach`: only the model's time changes -/

@[simp] theorem State.reach_pending (s : State) (d : Nat) : (s.reach d).pending = s.pending := rfl
@[simp] theorem State.reach_choices (s : State) (d : Nat) : (s.reach d).choices = s.choices := rfl
@[simp] theorem State.reach_settings (s : State) (d : Nat) : (s.reach d).settings = s.settings := rfl
@[simp] theorem State.reach_account (s : State) (d : Nat) : (s.reach d).account = s.account := rfl
@[simp] theorem State.reach_lamp (s : State) (d : Nat) : (s.reach d).lamp = s.lamp := rfl
@[simp] theorem State.reach_scanner (s : State) (d : Nat) : (s.reach d).scanner = s.scanner := rfl
@[simp] theorem State.reach_switch (s : State) (d : Nat) : (s.reach d).switch = s.switch := rfl
@[simp] theorem State.reach_geometry (s : State) (d : Nat) : (s.reach d).geometry = s.geometry := rfl
@[simp] theorem State.reach_policy (s : State) (d : Nat) : (s.reach d).policy = s.policy := rfl
@[simp] theorem State.reach_clock (s : State) (d : Nat) : (s.reach d).clock = s.clock := rfl
@[simp] theorem State.reach_table (s : State) (d : Nat) : (s.reach d).table = s.table := rfl
@[simp] theorem State.reach_finder (s : State) (d : Nat) : (s.reach d).finder = s.finder := rfl
@[simp] theorem State.reach_session (s : State) (d : Nat) : (s.reach d).session = s.session := rfl
@[simp] theorem State.reach_engine (s : State) (d : Nat) : (s.reach d).engine = s.engine := rfl
@[simp] theorem State.reach_lectern (s : State) (d : Nat) : (s.reach d).lectern = s.lectern := rfl
@[simp] theorem State.reach_campus (s : State) (d : Nat) : (s.reach d).campus = s.campus := rfl
@[simp] theorem State.reach_receiversOn (s : State) (d : Nat) : (s.reach d).receiversOn = s.receiversOn := rfl
@[simp] theorem State.reach_silence (s : State) (d : Nat) : (s.reach d).silence = s.silence := rfl
@[simp] theorem State.reach_restartArmed (s : State) (d : Nat) : (s.reach d).restartArmed = s.restartArmed := rfl
@[simp] theorem State.reach_store (s : State) (d : Nat) : (s.reach d).store = s.store := rfl
@[simp] theorem State.reach_supply (s : State) (d : Nat) : (s.reach d).supply = s.supply := rfl
@[simp] theorem State.reach_startUpDone (s : State) (d : Nat) : (s.reach d).startUpDone = s.startUpDone := rfl
@[simp] theorem State.reach_pins (s : State) (d : Nat) : (s.reach d).pins = s.pins := rfl

@[simp] theorem State.reach_now (s : State) (d : Nat) : (s.reach d).now = max s.now d := rfl

/-! ## `setLink`: only the link named changes -/

@[simp] theorem State.setLink_pending (s : State) (l : Link) (x : LinkState) : (s.setLink l x).pending = s.pending := by cases l <;> rfl
@[simp] theorem State.setLink_now (s : State) (l : Link) (x : LinkState) : (s.setLink l x).now = s.now := by cases l <;> rfl
@[simp] theorem State.setLink_choices (s : State) (l : Link) (x : LinkState) : (s.setLink l x).choices = s.choices := by cases l <;> rfl
@[simp] theorem State.setLink_settings (s : State) (l : Link) (x : LinkState) : (s.setLink l x).settings = s.settings := by cases l <;> rfl
@[simp] theorem State.setLink_account (s : State) (l : Link) (x : LinkState) : (s.setLink l x).account = s.account := by cases l <;> rfl
@[simp] theorem State.setLink_lamp (s : State) (l : Link) (x : LinkState) : (s.setLink l x).lamp = s.lamp := by cases l <;> rfl
@[simp] theorem State.setLink_scanner (s : State) (l : Link) (x : LinkState) : (s.setLink l x).scanner = s.scanner := by cases l <;> rfl
@[simp] theorem State.setLink_switch (s : State) (l : Link) (x : LinkState) : (s.setLink l x).switch = s.switch := by cases l <;> rfl
@[simp] theorem State.setLink_geometry (s : State) (l : Link) (x : LinkState) : (s.setLink l x).geometry = s.geometry := by cases l <;> rfl
@[simp] theorem State.setLink_policy (s : State) (l : Link) (x : LinkState) : (s.setLink l x).policy = s.policy := by cases l <;> rfl
@[simp] theorem State.setLink_clock (s : State) (l : Link) (x : LinkState) : (s.setLink l x).clock = s.clock := by cases l <;> rfl
@[simp] theorem State.setLink_table (s : State) (l : Link) (x : LinkState) : (s.setLink l x).table = s.table := by cases l <;> rfl
@[simp] theorem State.setLink_finder (s : State) (l : Link) (x : LinkState) : (s.setLink l x).finder = s.finder := by cases l <;> rfl
@[simp] theorem State.setLink_session (s : State) (l : Link) (x : LinkState) : (s.setLink l x).session = s.session := by cases l <;> rfl
@[simp] theorem State.setLink_receiversOn (s : State) (l : Link) (x : LinkState) : (s.setLink l x).receiversOn = s.receiversOn := by cases l <;> rfl
@[simp] theorem State.setLink_silence (s : State) (l : Link) (x : LinkState) : (s.setLink l x).silence = s.silence := by cases l <;> rfl
@[simp] theorem State.setLink_restartArmed (s : State) (l : Link) (x : LinkState) : (s.setLink l x).restartArmed = s.restartArmed := by cases l <;> rfl
@[simp] theorem State.setLink_store (s : State) (l : Link) (x : LinkState) : (s.setLink l x).store = s.store := by cases l <;> rfl
@[simp] theorem State.setLink_supply (s : State) (l : Link) (x : LinkState) : (s.setLink l x).supply = s.supply := by cases l <;> rfl
@[simp] theorem State.setLink_startUpDone (s : State) (l : Link) (x : LinkState) : (s.setLink l x).startUpDone = s.startUpDone := by cases l <;> rfl
@[simp] theorem State.setLink_pins (s : State) (l : Link) (x : LinkState) : (s.setLink l x).pins = s.pins := by cases l <;> rfl

@[simp] theorem State.link_setLink_same (s : State) (l : Link) (x : LinkState) : (s.setLink l x).link l = x := by
  cases l <;> rfl

theorem State.link_setLink_other (s : State) (l k : Link) (x : LinkState) (h : k ≠ l) : (s.setLink l x).link k = s.link k := by
  cases l <;> cases k <;> first | rfl | exact absurd rfl h

@[simp] theorem State.setLink_setLink (s : State) (l : Link) (x y : LinkState) : (s.setLink l x).setLink l y = s.setLink l y := by
  cases l <;> rfl

@[simp] theorem State.setLink_link (s : State) (l : Link) : s.setLink l (s.link l) = s := by cases l <;> rfl

/-! ## `raise`: only the links' pending sets and attention lines change -/

@[simp] theorem State.raise_pending (s : State) (n : Notice) : (s.raise n).pending = s.pending := rfl
@[simp] theorem State.raise_now (s : State) (n : Notice) : (s.raise n).now = s.now := rfl
@[simp] theorem State.raise_choices (s : State) (n : Notice) : (s.raise n).choices = s.choices := rfl
@[simp] theorem State.raise_settings (s : State) (n : Notice) : (s.raise n).settings = s.settings := rfl
@[simp] theorem State.raise_account (s : State) (n : Notice) : (s.raise n).account = s.account := rfl
@[simp] theorem State.raise_lamp (s : State) (n : Notice) : (s.raise n).lamp = s.lamp := rfl
@[simp] theorem State.raise_scanner (s : State) (n : Notice) : (s.raise n).scanner = s.scanner := rfl
@[simp] theorem State.raise_switch (s : State) (n : Notice) : (s.raise n).switch = s.switch := rfl
@[simp] theorem State.raise_geometry (s : State) (n : Notice) : (s.raise n).geometry = s.geometry := rfl
@[simp] theorem State.raise_policy (s : State) (n : Notice) : (s.raise n).policy = s.policy := rfl
@[simp] theorem State.raise_clock (s : State) (n : Notice) : (s.raise n).clock = s.clock := rfl
@[simp] theorem State.raise_table (s : State) (n : Notice) : (s.raise n).table = s.table := rfl
@[simp] theorem State.raise_finder (s : State) (n : Notice) : (s.raise n).finder = s.finder := rfl
@[simp] theorem State.raise_session (s : State) (n : Notice) : (s.raise n).session = s.session := rfl
@[simp] theorem State.raise_receiversOn (s : State) (n : Notice) : (s.raise n).receiversOn = s.receiversOn := rfl
@[simp] theorem State.raise_silence (s : State) (n : Notice) : (s.raise n).silence = s.silence := rfl
@[simp] theorem State.raise_restartArmed (s : State) (n : Notice) : (s.raise n).restartArmed = s.restartArmed := rfl
@[simp] theorem State.raise_store (s : State) (n : Notice) : (s.raise n).store = s.store := rfl
@[simp] theorem State.raise_supply (s : State) (n : Notice) : (s.raise n).supply = s.supply := rfl
@[simp] theorem State.raise_startUpDone (s : State) (n : Notice) : (s.raise n).startUpDone = s.startUpDone := rfl
@[simp] theorem State.raise_pins (s : State) (n : Notice) : (s.raise n).pins = s.pins := rfl

theorem State.link_raise (s : State) (n : Notice) (l : Link) :
    (s.raise n).link l = (s.link l).note n (s.settings.maskOf l) := by cases l <;> rfl

/-! ## `raiseIf`: as `raise`, or nothing -/

@[simp] theorem State.raiseIf_pending (s : State) (c : Bool) (n : Notice) : (s.raiseIf c n).pending = s.pending := by cases c <;> rfl
@[simp] theorem State.raiseIf_now (s : State) (c : Bool) (n : Notice) : (s.raiseIf c n).now = s.now := by cases c <;> rfl
@[simp] theorem State.raiseIf_choices (s : State) (c : Bool) (n : Notice) : (s.raiseIf c n).choices = s.choices := by cases c <;> rfl
@[simp] theorem State.raiseIf_settings (s : State) (c : Bool) (n : Notice) : (s.raiseIf c n).settings = s.settings := by cases c <;> rfl
@[simp] theorem State.raiseIf_account (s : State) (c : Bool) (n : Notice) : (s.raiseIf c n).account = s.account := by cases c <;> rfl
@[simp] theorem State.raiseIf_lamp (s : State) (c : Bool) (n : Notice) : (s.raiseIf c n).lamp = s.lamp := by cases c <;> rfl
@[simp] theorem State.raiseIf_scanner (s : State) (c : Bool) (n : Notice) : (s.raiseIf c n).scanner = s.scanner := by cases c <;> rfl
@[simp] theorem State.raiseIf_switch (s : State) (c : Bool) (n : Notice) : (s.raiseIf c n).switch = s.switch := by cases c <;> rfl
@[simp] theorem State.raiseIf_geometry (s : State) (c : Bool) (n : Notice) : (s.raiseIf c n).geometry = s.geometry := by cases c <;> rfl
@[simp] theorem State.raiseIf_policy (s : State) (c : Bool) (n : Notice) : (s.raiseIf c n).policy = s.policy := by cases c <;> rfl
@[simp] theorem State.raiseIf_clock (s : State) (c : Bool) (n : Notice) : (s.raiseIf c n).clock = s.clock := by cases c <;> rfl
@[simp] theorem State.raiseIf_table (s : State) (c : Bool) (n : Notice) : (s.raiseIf c n).table = s.table := by cases c <;> rfl
@[simp] theorem State.raiseIf_finder (s : State) (c : Bool) (n : Notice) : (s.raiseIf c n).finder = s.finder := by cases c <;> rfl
@[simp] theorem State.raiseIf_session (s : State) (c : Bool) (n : Notice) : (s.raiseIf c n).session = s.session := by cases c <;> rfl
@[simp] theorem State.raiseIf_receiversOn (s : State) (c : Bool) (n : Notice) : (s.raiseIf c n).receiversOn = s.receiversOn := by cases c <;> rfl
@[simp] theorem State.raiseIf_silence (s : State) (c : Bool) (n : Notice) : (s.raiseIf c n).silence = s.silence := by cases c <;> rfl
@[simp] theorem State.raiseIf_restartArmed (s : State) (c : Bool) (n : Notice) : (s.raiseIf c n).restartArmed = s.restartArmed := by cases c <;> rfl
@[simp] theorem State.raiseIf_store (s : State) (c : Bool) (n : Notice) : (s.raiseIf c n).store = s.store := by cases c <;> rfl
@[simp] theorem State.raiseIf_supply (s : State) (c : Bool) (n : Notice) : (s.raiseIf c n).supply = s.supply := by cases c <;> rfl
@[simp] theorem State.raiseIf_startUpDone (s : State) (c : Bool) (n : Notice) : (s.raiseIf c n).startUpDone = s.startUpDone := by cases c <;> rfl
@[simp] theorem State.raiseIf_pins (s : State) (c : Bool) (n : Notice) : (s.raiseIf c n).pins = s.pins := by cases c <;> rfl

@[simp] theorem State.raiseIf_true (s : State) (n : Notice) : s.raiseIf true n = s.raise n := rfl
@[simp] theorem State.raiseIf_false (s : State) (n : Notice) : s.raiseIf false n = s := rfl

/-! ## `raiseLink`: only one link's pending set and attention line change -/

@[simp] theorem State.raiseLink_pending (s : State) (l : Link) : (s.raiseLink l).pending = s.pending := by cases l <;> rfl
@[simp] theorem State.raiseLink_now (s : State) (l : Link) : (s.raiseLink l).now = s.now := by cases l <;> rfl
@[simp] theorem State.raiseLink_choices (s : State) (l : Link) : (s.raiseLink l).choices = s.choices := by cases l <;> rfl
@[simp] theorem State.raiseLink_settings (s : State) (l : Link) : (s.raiseLink l).settings = s.settings := by cases l <;> rfl
@[simp] theorem State.raiseLink_account (s : State) (l : Link) : (s.raiseLink l).account = s.account := by cases l <;> rfl
@[simp] theorem State.raiseLink_lamp (s : State) (l : Link) : (s.raiseLink l).lamp = s.lamp := by cases l <;> rfl
@[simp] theorem State.raiseLink_scanner (s : State) (l : Link) : (s.raiseLink l).scanner = s.scanner := by cases l <;> rfl
@[simp] theorem State.raiseLink_switch (s : State) (l : Link) : (s.raiseLink l).switch = s.switch := by cases l <;> rfl
@[simp] theorem State.raiseLink_geometry (s : State) (l : Link) : (s.raiseLink l).geometry = s.geometry := by cases l <;> rfl
@[simp] theorem State.raiseLink_policy (s : State) (l : Link) : (s.raiseLink l).policy = s.policy := by cases l <;> rfl
@[simp] theorem State.raiseLink_clock (s : State) (l : Link) : (s.raiseLink l).clock = s.clock := by cases l <;> rfl
@[simp] theorem State.raiseLink_table (s : State) (l : Link) : (s.raiseLink l).table = s.table := by cases l <;> rfl
@[simp] theorem State.raiseLink_finder (s : State) (l : Link) : (s.raiseLink l).finder = s.finder := by cases l <;> rfl
@[simp] theorem State.raiseLink_session (s : State) (l : Link) : (s.raiseLink l).session = s.session := by cases l <;> rfl
@[simp] theorem State.raiseLink_receiversOn (s : State) (l : Link) : (s.raiseLink l).receiversOn = s.receiversOn := by cases l <;> rfl
@[simp] theorem State.raiseLink_silence (s : State) (l : Link) : (s.raiseLink l).silence = s.silence := by cases l <;> rfl
@[simp] theorem State.raiseLink_restartArmed (s : State) (l : Link) : (s.raiseLink l).restartArmed = s.restartArmed := by cases l <;> rfl
@[simp] theorem State.raiseLink_store (s : State) (l : Link) : (s.raiseLink l).store = s.store := by cases l <;> rfl
@[simp] theorem State.raiseLink_supply (s : State) (l : Link) : (s.raiseLink l).supply = s.supply := by cases l <;> rfl
@[simp] theorem State.raiseLink_startUpDone (s : State) (l : Link) : (s.raiseLink l).startUpDone = s.startUpDone := by cases l <;> rfl
@[simp] theorem State.raiseLink_pins (s : State) (l : Link) : (s.raiseLink l).pins = s.pins := by cases l <;> rfl

/-! ## `settleLine`: only one link's attention line changes -/

@[simp] theorem State.settleLine_pending (s : State) (l : Link) : (s.settleLine l).pending = s.pending := by cases l <;> rfl
@[simp] theorem State.settleLine_now (s : State) (l : Link) : (s.settleLine l).now = s.now := by cases l <;> rfl
@[simp] theorem State.settleLine_choices (s : State) (l : Link) : (s.settleLine l).choices = s.choices := by cases l <;> rfl
@[simp] theorem State.settleLine_settings (s : State) (l : Link) : (s.settleLine l).settings = s.settings := by cases l <;> rfl
@[simp] theorem State.settleLine_account (s : State) (l : Link) : (s.settleLine l).account = s.account := by cases l <;> rfl
@[simp] theorem State.settleLine_lamp (s : State) (l : Link) : (s.settleLine l).lamp = s.lamp := by cases l <;> rfl
@[simp] theorem State.settleLine_scanner (s : State) (l : Link) : (s.settleLine l).scanner = s.scanner := by cases l <;> rfl
@[simp] theorem State.settleLine_switch (s : State) (l : Link) : (s.settleLine l).switch = s.switch := by cases l <;> rfl
@[simp] theorem State.settleLine_geometry (s : State) (l : Link) : (s.settleLine l).geometry = s.geometry := by cases l <;> rfl
@[simp] theorem State.settleLine_policy (s : State) (l : Link) : (s.settleLine l).policy = s.policy := by cases l <;> rfl
@[simp] theorem State.settleLine_clock (s : State) (l : Link) : (s.settleLine l).clock = s.clock := by cases l <;> rfl
@[simp] theorem State.settleLine_table (s : State) (l : Link) : (s.settleLine l).table = s.table := by cases l <;> rfl
@[simp] theorem State.settleLine_finder (s : State) (l : Link) : (s.settleLine l).finder = s.finder := by cases l <;> rfl
@[simp] theorem State.settleLine_session (s : State) (l : Link) : (s.settleLine l).session = s.session := by cases l <;> rfl
@[simp] theorem State.settleLine_receiversOn (s : State) (l : Link) : (s.settleLine l).receiversOn = s.receiversOn := by cases l <;> rfl
@[simp] theorem State.settleLine_silence (s : State) (l : Link) : (s.settleLine l).silence = s.silence := by cases l <;> rfl
@[simp] theorem State.settleLine_restartArmed (s : State) (l : Link) : (s.settleLine l).restartArmed = s.restartArmed := by cases l <;> rfl
@[simp] theorem State.settleLine_store (s : State) (l : Link) : (s.settleLine l).store = s.store := by cases l <;> rfl
@[simp] theorem State.settleLine_supply (s : State) (l : Link) : (s.settleLine l).supply = s.supply := by cases l <;> rfl
@[simp] theorem State.settleLine_startUpDone (s : State) (l : Link) : (s.settleLine l).startUpDone = s.startUpDone := by cases l <;> rfl
@[simp] theorem State.settleLine_pins (s : State) (l : Link) : (s.settleLine l).pins = s.pins := by cases l <;> rfl

/-! ## `countError`: only the link named changes -/

@[simp] theorem State.countError_pending (s : State) (l : Link) (c : ErrorCounter) : (s.countError l c).pending = s.pending := by
  unfold State.countError; split <;> simp
@[simp] theorem State.countError_now (s : State) (l : Link) (c : ErrorCounter) : (s.countError l c).now = s.now := by
  unfold State.countError; split <;> simp
@[simp] theorem State.countError_choices (s : State) (l : Link) (c : ErrorCounter) : (s.countError l c).choices = s.choices := by
  unfold State.countError; split <;> simp
@[simp] theorem State.countError_settings (s : State) (l : Link) (c : ErrorCounter) : (s.countError l c).settings = s.settings := by
  unfold State.countError; split <;> simp
@[simp] theorem State.countError_account (s : State) (l : Link) (c : ErrorCounter) : (s.countError l c).account = s.account := by
  unfold State.countError; split <;> simp
@[simp] theorem State.countError_lamp (s : State) (l : Link) (c : ErrorCounter) : (s.countError l c).lamp = s.lamp := by
  unfold State.countError; split <;> simp
@[simp] theorem State.countError_scanner (s : State) (l : Link) (c : ErrorCounter) : (s.countError l c).scanner = s.scanner := by
  unfold State.countError; split <;> simp
@[simp] theorem State.countError_switch (s : State) (l : Link) (c : ErrorCounter) : (s.countError l c).switch = s.switch := by
  unfold State.countError; split <;> simp
@[simp] theorem State.countError_geometry (s : State) (l : Link) (c : ErrorCounter) : (s.countError l c).geometry = s.geometry := by
  unfold State.countError; split <;> simp
@[simp] theorem State.countError_policy (s : State) (l : Link) (c : ErrorCounter) : (s.countError l c).policy = s.policy := by
  unfold State.countError; split <;> simp
@[simp] theorem State.countError_clock (s : State) (l : Link) (c : ErrorCounter) : (s.countError l c).clock = s.clock := by
  unfold State.countError; split <;> simp
@[simp] theorem State.countError_table (s : State) (l : Link) (c : ErrorCounter) : (s.countError l c).table = s.table := by
  unfold State.countError; split <;> simp
@[simp] theorem State.countError_finder (s : State) (l : Link) (c : ErrorCounter) : (s.countError l c).finder = s.finder := by
  unfold State.countError; split <;> simp
@[simp] theorem State.countError_session (s : State) (l : Link) (c : ErrorCounter) : (s.countError l c).session = s.session := by
  unfold State.countError; split <;> simp
@[simp] theorem State.countError_receiversOn (s : State) (l : Link) (c : ErrorCounter) : (s.countError l c).receiversOn = s.receiversOn := by
  unfold State.countError; split <;> simp
@[simp] theorem State.countError_silence (s : State) (l : Link) (c : ErrorCounter) : (s.countError l c).silence = s.silence := by
  unfold State.countError; split <;> simp
@[simp] theorem State.countError_restartArmed (s : State) (l : Link) (c : ErrorCounter) : (s.countError l c).restartArmed = s.restartArmed := by
  unfold State.countError; split <;> simp
@[simp] theorem State.countError_store (s : State) (l : Link) (c : ErrorCounter) : (s.countError l c).store = s.store := by
  unfold State.countError; split <;> simp
@[simp] theorem State.countError_supply (s : State) (l : Link) (c : ErrorCounter) : (s.countError l c).supply = s.supply := by
  unfold State.countError; split <;> simp
@[simp] theorem State.countError_startUpDone (s : State) (l : Link) (c : ErrorCounter) : (s.countError l c).startUpDone = s.startUpDone := by
  unfold State.countError; split <;> simp
@[simp] theorem State.countError_pins (s : State) (l : Link) (c : ErrorCounter) : (s.countError l c).pins = s.pins := by
  unfold State.countError; split <;> simp

/-! ## `deriveLevel`: only the effective level changes -/

@[simp] theorem State.deriveLevel_pending (s : State) : (s.deriveLevel).pending = s.pending := rfl
@[simp] theorem State.deriveLevel_now (s : State) : (s.deriveLevel).now = s.now := rfl
@[simp] theorem State.deriveLevel_choices (s : State) : (s.deriveLevel).choices = s.choices := rfl
@[simp] theorem State.deriveLevel_settings (s : State) : (s.deriveLevel).settings = s.settings := rfl
@[simp] theorem State.deriveLevel_account (s : State) : (s.deriveLevel).account = s.account := rfl
@[simp] theorem State.deriveLevel_scanner (s : State) : (s.deriveLevel).scanner = s.scanner := rfl
@[simp] theorem State.deriveLevel_switch (s : State) : (s.deriveLevel).switch = s.switch := rfl
@[simp] theorem State.deriveLevel_geometry (s : State) : (s.deriveLevel).geometry = s.geometry := rfl
@[simp] theorem State.deriveLevel_policy (s : State) : (s.deriveLevel).policy = s.policy := rfl
@[simp] theorem State.deriveLevel_clock (s : State) : (s.deriveLevel).clock = s.clock := rfl
@[simp] theorem State.deriveLevel_table (s : State) : (s.deriveLevel).table = s.table := rfl
@[simp] theorem State.deriveLevel_finder (s : State) : (s.deriveLevel).finder = s.finder := rfl
@[simp] theorem State.deriveLevel_session (s : State) : (s.deriveLevel).session = s.session := rfl
@[simp] theorem State.deriveLevel_engine (s : State) : (s.deriveLevel).engine = s.engine := rfl
@[simp] theorem State.deriveLevel_lectern (s : State) : (s.deriveLevel).lectern = s.lectern := rfl
@[simp] theorem State.deriveLevel_campus (s : State) : (s.deriveLevel).campus = s.campus := rfl
@[simp] theorem State.deriveLevel_receiversOn (s : State) : (s.deriveLevel).receiversOn = s.receiversOn := rfl
@[simp] theorem State.deriveLevel_silence (s : State) : (s.deriveLevel).silence = s.silence := rfl
@[simp] theorem State.deriveLevel_restartArmed (s : State) : (s.deriveLevel).restartArmed = s.restartArmed := rfl
@[simp] theorem State.deriveLevel_store (s : State) : (s.deriveLevel).store = s.store := rfl
@[simp] theorem State.deriveLevel_supply (s : State) : (s.deriveLevel).supply = s.supply := rfl
@[simp] theorem State.deriveLevel_startUpDone (s : State) : (s.deriveLevel).startUpDone = s.startUpDone := rfl
@[simp] theorem State.deriveLevel_pins (s : State) : (s.deriveLevel).pins = s.pins := rfl

/-! ## `driveBallast`: only the ballast outputs change -/

@[simp] theorem State.driveBallast_pending (s : State) : (s.driveBallast).pending = s.pending := rfl
@[simp] theorem State.driveBallast_now (s : State) : (s.driveBallast).now = s.now := rfl
@[simp] theorem State.driveBallast_choices (s : State) : (s.driveBallast).choices = s.choices := rfl
@[simp] theorem State.driveBallast_settings (s : State) : (s.driveBallast).settings = s.settings := rfl
@[simp] theorem State.driveBallast_account (s : State) : (s.driveBallast).account = s.account := rfl
@[simp] theorem State.driveBallast_lamp (s : State) : (s.driveBallast).lamp = s.lamp := rfl
@[simp] theorem State.driveBallast_scanner (s : State) : (s.driveBallast).scanner = s.scanner := rfl
@[simp] theorem State.driveBallast_switch (s : State) : (s.driveBallast).switch = s.switch := rfl
@[simp] theorem State.driveBallast_geometry (s : State) : (s.driveBallast).geometry = s.geometry := rfl
@[simp] theorem State.driveBallast_policy (s : State) : (s.driveBallast).policy = s.policy := rfl
@[simp] theorem State.driveBallast_clock (s : State) : (s.driveBallast).clock = s.clock := rfl
@[simp] theorem State.driveBallast_table (s : State) : (s.driveBallast).table = s.table := rfl
@[simp] theorem State.driveBallast_finder (s : State) : (s.driveBallast).finder = s.finder := rfl
@[simp] theorem State.driveBallast_session (s : State) : (s.driveBallast).session = s.session := rfl
@[simp] theorem State.driveBallast_engine (s : State) : (s.driveBallast).engine = s.engine := rfl
@[simp] theorem State.driveBallast_lectern (s : State) : (s.driveBallast).lectern = s.lectern := rfl
@[simp] theorem State.driveBallast_campus (s : State) : (s.driveBallast).campus = s.campus := rfl
@[simp] theorem State.driveBallast_receiversOn (s : State) : (s.driveBallast).receiversOn = s.receiversOn := rfl
@[simp] theorem State.driveBallast_silence (s : State) : (s.driveBallast).silence = s.silence := rfl
@[simp] theorem State.driveBallast_restartArmed (s : State) : (s.driveBallast).restartArmed = s.restartArmed := rfl
@[simp] theorem State.driveBallast_store (s : State) : (s.driveBallast).store = s.store := rfl
@[simp] theorem State.driveBallast_supply (s : State) : (s.driveBallast).supply = s.supply := rfl
@[simp] theorem State.driveBallast_startUpDone (s : State) : (s.driveBallast).startUpDone = s.startUpDone := rfl

/-! ## `settleMute`: MUTE, and the notice of its change -/

@[simp] theorem State.settleMute_pending (s : State) : (s.settleMute).pending = s.pending := by
  simp only [State.settleMute]; split <;> simp
@[simp] theorem State.settleMute_now (s : State) : (s.settleMute).now = s.now := by
  simp only [State.settleMute]; split <;> simp
@[simp] theorem State.settleMute_choices (s : State) : (s.settleMute).choices = s.choices := by
  simp only [State.settleMute]; split <;> simp
@[simp] theorem State.settleMute_settings (s : State) : (s.settleMute).settings = s.settings := by
  simp only [State.settleMute]; split <;> simp
@[simp] theorem State.settleMute_account (s : State) : (s.settleMute).account = s.account := by
  simp only [State.settleMute]; split <;> simp
@[simp] theorem State.settleMute_lamp (s : State) : (s.settleMute).lamp = s.lamp := by
  simp only [State.settleMute]; split <;> simp
@[simp] theorem State.settleMute_scanner (s : State) : (s.settleMute).scanner = s.scanner := by
  simp only [State.settleMute]; split <;> simp
@[simp] theorem State.settleMute_switch (s : State) : (s.settleMute).switch = s.switch := by
  simp only [State.settleMute]; split <;> simp
@[simp] theorem State.settleMute_geometry (s : State) : (s.settleMute).geometry = s.geometry := by
  simp only [State.settleMute]; split <;> simp
@[simp] theorem State.settleMute_policy (s : State) : (s.settleMute).policy = s.policy := by
  simp only [State.settleMute]; split <;> simp
@[simp] theorem State.settleMute_clock (s : State) : (s.settleMute).clock = s.clock := by
  simp only [State.settleMute]; split <;> simp
@[simp] theorem State.settleMute_table (s : State) : (s.settleMute).table = s.table := by
  simp only [State.settleMute]; split <;> simp
@[simp] theorem State.settleMute_finder (s : State) : (s.settleMute).finder = s.finder := by
  simp only [State.settleMute]; split <;> simp
@[simp] theorem State.settleMute_session (s : State) : (s.settleMute).session = s.session := by
  simp only [State.settleMute]; split <;> simp
@[simp] theorem State.settleMute_receiversOn (s : State) : (s.settleMute).receiversOn = s.receiversOn := by
  simp only [State.settleMute]; split <;> simp
@[simp] theorem State.settleMute_silence (s : State) : (s.settleMute).silence = s.silence := by
  simp only [State.settleMute]; split <;> simp
@[simp] theorem State.settleMute_restartArmed (s : State) : (s.settleMute).restartArmed = s.restartArmed := by
  simp only [State.settleMute]; split <;> simp
@[simp] theorem State.settleMute_store (s : State) : (s.settleMute).store = s.store := by
  simp only [State.settleMute]; split <;> simp
@[simp] theorem State.settleMute_supply (s : State) : (s.settleMute).supply = s.supply := by
  simp only [State.settleMute]; split <;> simp
@[simp] theorem State.settleMute_startUpDone (s : State) : (s.settleMute).startUpDone = s.startUpDone := by
  simp only [State.settleMute]; split <;> simp

/-! ## `startWrite`: only the store changes -/

@[simp] theorem State.startWrite_pending (s : State) : (s.startWrite).pending = s.pending := by
  unfold State.startWrite; split <;> [split <;> rfl; rfl]
@[simp] theorem State.startWrite_now (s : State) : (s.startWrite).now = s.now := by
  unfold State.startWrite; split <;> [split <;> rfl; rfl]
@[simp] theorem State.startWrite_choices (s : State) : (s.startWrite).choices = s.choices := by
  unfold State.startWrite; split <;> [split <;> rfl; rfl]
@[simp] theorem State.startWrite_settings (s : State) : (s.startWrite).settings = s.settings := by
  unfold State.startWrite; split <;> [split <;> rfl; rfl]
@[simp] theorem State.startWrite_account (s : State) : (s.startWrite).account = s.account := by
  unfold State.startWrite; split <;> [split <;> rfl; rfl]
@[simp] theorem State.startWrite_lamp (s : State) : (s.startWrite).lamp = s.lamp := by
  unfold State.startWrite; split <;> [split <;> rfl; rfl]
@[simp] theorem State.startWrite_scanner (s : State) : (s.startWrite).scanner = s.scanner := by
  unfold State.startWrite; split <;> [split <;> rfl; rfl]
@[simp] theorem State.startWrite_switch (s : State) : (s.startWrite).switch = s.switch := by
  unfold State.startWrite; split <;> [split <;> rfl; rfl]
@[simp] theorem State.startWrite_geometry (s : State) : (s.startWrite).geometry = s.geometry := by
  unfold State.startWrite; split <;> [split <;> rfl; rfl]
@[simp] theorem State.startWrite_policy (s : State) : (s.startWrite).policy = s.policy := by
  unfold State.startWrite; split <;> [split <;> rfl; rfl]
@[simp] theorem State.startWrite_clock (s : State) : (s.startWrite).clock = s.clock := by
  unfold State.startWrite; split <;> [split <;> rfl; rfl]
@[simp] theorem State.startWrite_table (s : State) : (s.startWrite).table = s.table := by
  unfold State.startWrite; split <;> [split <;> rfl; rfl]
@[simp] theorem State.startWrite_finder (s : State) : (s.startWrite).finder = s.finder := by
  unfold State.startWrite; split <;> [split <;> rfl; rfl]
@[simp] theorem State.startWrite_session (s : State) : (s.startWrite).session = s.session := by
  unfold State.startWrite; split <;> [split <;> rfl; rfl]
@[simp] theorem State.startWrite_engine (s : State) : (s.startWrite).engine = s.engine := by
  unfold State.startWrite; split <;> [split <;> rfl; rfl]
@[simp] theorem State.startWrite_lectern (s : State) : (s.startWrite).lectern = s.lectern := by
  unfold State.startWrite; split <;> [split <;> rfl; rfl]
@[simp] theorem State.startWrite_campus (s : State) : (s.startWrite).campus = s.campus := by
  unfold State.startWrite; split <;> [split <;> rfl; rfl]
@[simp] theorem State.startWrite_receiversOn (s : State) : (s.startWrite).receiversOn = s.receiversOn := by
  unfold State.startWrite; split <;> [split <;> rfl; rfl]
@[simp] theorem State.startWrite_silence (s : State) : (s.startWrite).silence = s.silence := by
  unfold State.startWrite; split <;> [split <;> rfl; rfl]
@[simp] theorem State.startWrite_restartArmed (s : State) : (s.startWrite).restartArmed = s.restartArmed := by
  unfold State.startWrite; split <;> [split <;> rfl; rfl]
@[simp] theorem State.startWrite_supply (s : State) : (s.startWrite).supply = s.supply := by
  unfold State.startWrite; split <;> [split <;> rfl; rfl]
@[simp] theorem State.startWrite_startUpDone (s : State) : (s.startWrite).startUpDone = s.startUpDone := by
  unfold State.startWrite; split <;> [split <;> rfl; rfl]
@[simp] theorem State.startWrite_pins (s : State) : (s.startWrite).pins = s.pins := by
  unfold State.startWrite; split <;> [split <;> rfl; rfl]

/-! ## `queueKind`: only the store changes -/

@[simp] theorem State.queueKind_pending (s : State) (k : Kind) : (s.queueKind k).pending = s.pending := by
  unfold State.queueKind; simp
@[simp] theorem State.queueKind_now (s : State) (k : Kind) : (s.queueKind k).now = s.now := by
  unfold State.queueKind; simp
@[simp] theorem State.queueKind_choices (s : State) (k : Kind) : (s.queueKind k).choices = s.choices := by
  unfold State.queueKind; simp
@[simp] theorem State.queueKind_settings (s : State) (k : Kind) : (s.queueKind k).settings = s.settings := by
  unfold State.queueKind; simp
@[simp] theorem State.queueKind_account (s : State) (k : Kind) : (s.queueKind k).account = s.account := by
  unfold State.queueKind; simp
@[simp] theorem State.queueKind_lamp (s : State) (k : Kind) : (s.queueKind k).lamp = s.lamp := by
  unfold State.queueKind; simp
@[simp] theorem State.queueKind_scanner (s : State) (k : Kind) : (s.queueKind k).scanner = s.scanner := by
  unfold State.queueKind; simp
@[simp] theorem State.queueKind_switch (s : State) (k : Kind) : (s.queueKind k).switch = s.switch := by
  unfold State.queueKind; simp
@[simp] theorem State.queueKind_geometry (s : State) (k : Kind) : (s.queueKind k).geometry = s.geometry := by
  unfold State.queueKind; simp
@[simp] theorem State.queueKind_policy (s : State) (k : Kind) : (s.queueKind k).policy = s.policy := by
  unfold State.queueKind; simp
@[simp] theorem State.queueKind_clock (s : State) (k : Kind) : (s.queueKind k).clock = s.clock := by
  unfold State.queueKind; simp
@[simp] theorem State.queueKind_table (s : State) (k : Kind) : (s.queueKind k).table = s.table := by
  unfold State.queueKind; simp
@[simp] theorem State.queueKind_finder (s : State) (k : Kind) : (s.queueKind k).finder = s.finder := by
  unfold State.queueKind; simp
@[simp] theorem State.queueKind_session (s : State) (k : Kind) : (s.queueKind k).session = s.session := by
  unfold State.queueKind; simp
@[simp] theorem State.queueKind_engine (s : State) (k : Kind) : (s.queueKind k).engine = s.engine := by
  unfold State.queueKind; simp
@[simp] theorem State.queueKind_lectern (s : State) (k : Kind) : (s.queueKind k).lectern = s.lectern := by
  unfold State.queueKind; simp
@[simp] theorem State.queueKind_campus (s : State) (k : Kind) : (s.queueKind k).campus = s.campus := by
  unfold State.queueKind; simp
@[simp] theorem State.queueKind_receiversOn (s : State) (k : Kind) : (s.queueKind k).receiversOn = s.receiversOn := by
  unfold State.queueKind; simp
@[simp] theorem State.queueKind_silence (s : State) (k : Kind) : (s.queueKind k).silence = s.silence := by
  unfold State.queueKind; simp
@[simp] theorem State.queueKind_restartArmed (s : State) (k : Kind) : (s.queueKind k).restartArmed = s.restartArmed := by
  unfold State.queueKind; simp
@[simp] theorem State.queueKind_supply (s : State) (k : Kind) : (s.queueKind k).supply = s.supply := by
  unfold State.queueKind; simp
@[simp] theorem State.queueKind_startUpDone (s : State) (k : Kind) : (s.queueKind k).startUpDone = s.startUpDone := by
  unfold State.queueKind; simp
@[simp] theorem State.queueKind_pins (s : State) (k : Kind) : (s.queueKind k).pins = s.pins := by
  unfold State.queueKind; simp

/-! ## `deriveStatus`: status, and the notice of its change -/

@[simp] theorem State.deriveStatus_pending (s : State) : (s.deriveStatus).pending = s.pending := by
  unfold State.deriveStatus; split <;> simp
@[simp] theorem State.deriveStatus_now (s : State) : (s.deriveStatus).now = s.now := by
  unfold State.deriveStatus; split <;> simp
@[simp] theorem State.deriveStatus_choices (s : State) : (s.deriveStatus).choices = s.choices := by
  unfold State.deriveStatus; split <;> simp
@[simp] theorem State.deriveStatus_settings (s : State) : (s.deriveStatus).settings = s.settings := by
  unfold State.deriveStatus; split <;> simp
@[simp] theorem State.deriveStatus_lamp (s : State) : (s.deriveStatus).lamp = s.lamp := by
  unfold State.deriveStatus; split <;> simp
@[simp] theorem State.deriveStatus_scanner (s : State) : (s.deriveStatus).scanner = s.scanner := by
  unfold State.deriveStatus; split <;> simp
@[simp] theorem State.deriveStatus_switch (s : State) : (s.deriveStatus).switch = s.switch := by
  unfold State.deriveStatus; split <;> simp
@[simp] theorem State.deriveStatus_geometry (s : State) : (s.deriveStatus).geometry = s.geometry := by
  unfold State.deriveStatus; split <;> simp
@[simp] theorem State.deriveStatus_policy (s : State) : (s.deriveStatus).policy = s.policy := by
  unfold State.deriveStatus; split <;> simp
@[simp] theorem State.deriveStatus_clock (s : State) : (s.deriveStatus).clock = s.clock := by
  unfold State.deriveStatus; split <;> simp
@[simp] theorem State.deriveStatus_table (s : State) : (s.deriveStatus).table = s.table := by
  unfold State.deriveStatus; split <;> simp
@[simp] theorem State.deriveStatus_finder (s : State) : (s.deriveStatus).finder = s.finder := by
  unfold State.deriveStatus; split <;> simp
@[simp] theorem State.deriveStatus_session (s : State) : (s.deriveStatus).session = s.session := by
  unfold State.deriveStatus; split <;> simp
@[simp] theorem State.deriveStatus_receiversOn (s : State) : (s.deriveStatus).receiversOn = s.receiversOn := by
  unfold State.deriveStatus; split <;> simp
@[simp] theorem State.deriveStatus_silence (s : State) : (s.deriveStatus).silence = s.silence := by
  unfold State.deriveStatus; split <;> simp
@[simp] theorem State.deriveStatus_restartArmed (s : State) : (s.deriveStatus).restartArmed = s.restartArmed := by
  unfold State.deriveStatus; split <;> simp
@[simp] theorem State.deriveStatus_store (s : State) : (s.deriveStatus).store = s.store := by
  unfold State.deriveStatus; split <;> simp
@[simp] theorem State.deriveStatus_supply (s : State) : (s.deriveStatus).supply = s.supply := by
  unfold State.deriveStatus; split <;> simp
@[simp] theorem State.deriveStatus_startUpDone (s : State) : (s.deriveStatus).startUpDone = s.startUpDone := by
  unfold State.deriveStatus; split <;> simp
@[simp] theorem State.deriveStatus_pins (s : State) : (s.deriveStatus).pins = s.pins := by
  unfold State.deriveStatus; split <;> simp

/-! ## `deriveTilt`: the tilt average and v_auto -/

@[simp] theorem Geometry.deriveTilt_average (g : Geometry) (n gain : Nat) :
    (g.deriveTilt n gain).average = tiltAverage g.ring n := rfl
@[simp] theorem Geometry.deriveTilt_vAuto (g : Geometry) (n gain : Nat) :
    (g.deriveTilt n gain).vAuto = vAutoOf (tiltAverage g.ring n) gain := rfl
@[simp] theorem Geometry.deriveTilt_active (g : Geometry) (n gain : Nat) : (g.deriveTilt n gain).active = g.active := rfl
@[simp] theorem Geometry.deriveTilt_vEff (g : Geometry) (n gain : Nat) : (g.deriveTilt n gain).vEff = g.vEff := rfl
@[simp] theorem Geometry.deriveTilt_tiltStale (g : Geometry) (n gain : Nat) : (g.deriveTilt n gain).tiltStale = g.tiltStale := rfl
@[simp] theorem Geometry.deriveTilt_clamped (g : Geometry) (n gain : Nat) : (g.deriveTilt n gain).clamped = g.clamped := rfl
@[simp] theorem Geometry.deriveTilt_requestClamp (g : Geometry) (n gain : Nat) : (g.deriveTilt n gain).requestClamp = g.requestClamp := rfl
@[simp] theorem Geometry.deriveTilt_corners (g : Geometry) (n gain : Nat) : (g.deriveTilt n gain).corners = g.corners := rfl
@[simp] theorem Geometry.deriveTilt_ring (g : Geometry) (n gain : Nat) : (g.deriveTilt n gain).ring = g.ring := rfl
@[simp] theorem Geometry.deriveTilt_tiltTimer (g : Geometry) (n gain : Nat) : (g.deriveTilt n gain).tiltTimer = g.tiltTimer := rfl
@[simp] theorem Geometry.deriveTilt_presets (g : Geometry) (n gain : Nat) : (g.deriveTilt n gain).presets = g.presets := rfl

/-! ## `putGeometry`: the geometry, and the notice of its change -/

@[simp] theorem State.putGeometry_pending (s : State) (g : Geometry) : (s.putGeometry g).pending = s.pending := by
  simp [State.putGeometry]
@[simp] theorem State.putGeometry_now (s : State) (g : Geometry) : (s.putGeometry g).now = s.now := by
  simp [State.putGeometry]
@[simp] theorem State.putGeometry_choices (s : State) (g : Geometry) : (s.putGeometry g).choices = s.choices := by
  simp [State.putGeometry]
@[simp] theorem State.putGeometry_settings (s : State) (g : Geometry) : (s.putGeometry g).settings = s.settings := by
  simp [State.putGeometry]
@[simp] theorem State.putGeometry_account (s : State) (g : Geometry) : (s.putGeometry g).account = s.account := by
  simp [State.putGeometry]
@[simp] theorem State.putGeometry_lamp (s : State) (g : Geometry) : (s.putGeometry g).lamp = s.lamp := by
  simp [State.putGeometry]
@[simp] theorem State.putGeometry_scanner (s : State) (g : Geometry) : (s.putGeometry g).scanner = s.scanner := by
  simp [State.putGeometry]
@[simp] theorem State.putGeometry_switch (s : State) (g : Geometry) : (s.putGeometry g).switch = s.switch := by
  simp [State.putGeometry]
@[simp] theorem State.putGeometry_policy (s : State) (g : Geometry) : (s.putGeometry g).policy = s.policy := by
  simp [State.putGeometry]
@[simp] theorem State.putGeometry_clock (s : State) (g : Geometry) : (s.putGeometry g).clock = s.clock := by
  simp [State.putGeometry]
@[simp] theorem State.putGeometry_table (s : State) (g : Geometry) : (s.putGeometry g).table = s.table := by
  simp [State.putGeometry]
@[simp] theorem State.putGeometry_finder (s : State) (g : Geometry) : (s.putGeometry g).finder = s.finder := by
  simp [State.putGeometry]
@[simp] theorem State.putGeometry_session (s : State) (g : Geometry) : (s.putGeometry g).session = s.session := by
  simp [State.putGeometry]
@[simp] theorem State.putGeometry_receiversOn (s : State) (g : Geometry) : (s.putGeometry g).receiversOn = s.receiversOn := by
  simp [State.putGeometry]
@[simp] theorem State.putGeometry_silence (s : State) (g : Geometry) : (s.putGeometry g).silence = s.silence := by
  simp [State.putGeometry]
@[simp] theorem State.putGeometry_restartArmed (s : State) (g : Geometry) : (s.putGeometry g).restartArmed = s.restartArmed := by
  simp [State.putGeometry]
@[simp] theorem State.putGeometry_store (s : State) (g : Geometry) : (s.putGeometry g).store = s.store := by
  simp [State.putGeometry]
@[simp] theorem State.putGeometry_supply (s : State) (g : Geometry) : (s.putGeometry g).supply = s.supply := by
  simp [State.putGeometry]
@[simp] theorem State.putGeometry_startUpDone (s : State) (g : Geometry) : (s.putGeometry g).startUpDone = s.startUpDone := by
  simp [State.putGeometry]
@[simp] theorem State.putGeometry_pins (s : State) (g : Geometry) : (s.putGeometry g).pins = s.pins := by
  simp [State.putGeometry]

/-! ## `setPlate`: only one plate record changes -/

@[simp] theorem State.setPlate_pending (s : State) (n : Nat) (p : Plate) : (s.setPlate n p).pending = s.pending := rfl
@[simp] theorem State.setPlate_now (s : State) (n : Nat) (p : Plate) : (s.setPlate n p).now = s.now := rfl
@[simp] theorem State.setPlate_choices (s : State) (n : Nat) (p : Plate) : (s.setPlate n p).choices = s.choices := rfl
@[simp] theorem State.setPlate_settings (s : State) (n : Nat) (p : Plate) : (s.setPlate n p).settings = s.settings := rfl
@[simp] theorem State.setPlate_account (s : State) (n : Nat) (p : Plate) : (s.setPlate n p).account = s.account := rfl
@[simp] theorem State.setPlate_lamp (s : State) (n : Nat) (p : Plate) : (s.setPlate n p).lamp = s.lamp := rfl
@[simp] theorem State.setPlate_switch (s : State) (n : Nat) (p : Plate) : (s.setPlate n p).switch = s.switch := rfl
@[simp] theorem State.setPlate_geometry (s : State) (n : Nat) (p : Plate) : (s.setPlate n p).geometry = s.geometry := rfl
@[simp] theorem State.setPlate_policy (s : State) (n : Nat) (p : Plate) : (s.setPlate n p).policy = s.policy := rfl
@[simp] theorem State.setPlate_clock (s : State) (n : Nat) (p : Plate) : (s.setPlate n p).clock = s.clock := rfl
@[simp] theorem State.setPlate_table (s : State) (n : Nat) (p : Plate) : (s.setPlate n p).table = s.table := rfl
@[simp] theorem State.setPlate_finder (s : State) (n : Nat) (p : Plate) : (s.setPlate n p).finder = s.finder := rfl
@[simp] theorem State.setPlate_session (s : State) (n : Nat) (p : Plate) : (s.setPlate n p).session = s.session := rfl
@[simp] theorem State.setPlate_engine (s : State) (n : Nat) (p : Plate) : (s.setPlate n p).engine = s.engine := rfl
@[simp] theorem State.setPlate_lectern (s : State) (n : Nat) (p : Plate) : (s.setPlate n p).lectern = s.lectern := rfl
@[simp] theorem State.setPlate_campus (s : State) (n : Nat) (p : Plate) : (s.setPlate n p).campus = s.campus := rfl
@[simp] theorem State.setPlate_receiversOn (s : State) (n : Nat) (p : Plate) : (s.setPlate n p).receiversOn = s.receiversOn := rfl
@[simp] theorem State.setPlate_silence (s : State) (n : Nat) (p : Plate) : (s.setPlate n p).silence = s.silence := rfl
@[simp] theorem State.setPlate_restartArmed (s : State) (n : Nat) (p : Plate) : (s.setPlate n p).restartArmed = s.restartArmed := rfl
@[simp] theorem State.setPlate_store (s : State) (n : Nat) (p : Plate) : (s.setPlate n p).store = s.store := rfl
@[simp] theorem State.setPlate_supply (s : State) (n : Nat) (p : Plate) : (s.setPlate n p).supply = s.supply := rfl
@[simp] theorem State.setPlate_startUpDone (s : State) (n : Nat) (p : Plate) : (s.setPlate n p).startUpDone = s.startUpDone := rfl
@[simp] theorem State.setPlate_pins (s : State) (n : Nat) (p : Plate) : (s.setPlate n p).pins = s.pins := rfl

/-! ## `recompute`: the finder's items, and the notice of their change -/

@[simp] theorem State.recompute_pending (s : State) (q : Bool) : (s.recompute q).pending = s.pending := by
  simp [State.recompute]
@[simp] theorem State.recompute_now (s : State) (q : Bool) : (s.recompute q).now = s.now := by
  simp [State.recompute]
@[simp] theorem State.recompute_choices (s : State) (q : Bool) : (s.recompute q).choices = s.choices := by
  simp [State.recompute]
@[simp] theorem State.recompute_settings (s : State) (q : Bool) : (s.recompute q).settings = s.settings := by
  simp [State.recompute]
@[simp] theorem State.recompute_account (s : State) (q : Bool) : (s.recompute q).account = s.account := by
  simp [State.recompute]
@[simp] theorem State.recompute_lamp (s : State) (q : Bool) : (s.recompute q).lamp = s.lamp := by
  simp [State.recompute]
@[simp] theorem State.recompute_scanner (s : State) (q : Bool) : (s.recompute q).scanner = s.scanner := by
  simp [State.recompute]
@[simp] theorem State.recompute_switch (s : State) (q : Bool) : (s.recompute q).switch = s.switch := by
  simp [State.recompute]
@[simp] theorem State.recompute_geometry (s : State) (q : Bool) : (s.recompute q).geometry = s.geometry := by
  simp [State.recompute]
@[simp] theorem State.recompute_policy (s : State) (q : Bool) : (s.recompute q).policy = s.policy := by
  simp [State.recompute]
@[simp] theorem State.recompute_clock (s : State) (q : Bool) : (s.recompute q).clock = s.clock := by
  simp [State.recompute]
@[simp] theorem State.recompute_table (s : State) (q : Bool) : (s.recompute q).table = s.table := by
  simp [State.recompute]
@[simp] theorem State.recompute_session (s : State) (q : Bool) : (s.recompute q).session = s.session := by
  simp [State.recompute]
@[simp] theorem State.recompute_receiversOn (s : State) (q : Bool) : (s.recompute q).receiversOn = s.receiversOn := by
  simp [State.recompute]
@[simp] theorem State.recompute_silence (s : State) (q : Bool) : (s.recompute q).silence = s.silence := by
  simp [State.recompute]
@[simp] theorem State.recompute_restartArmed (s : State) (q : Bool) : (s.recompute q).restartArmed = s.restartArmed := by
  simp [State.recompute]
@[simp] theorem State.recompute_store (s : State) (q : Bool) : (s.recompute q).store = s.store := by
  simp [State.recompute]
@[simp] theorem State.recompute_supply (s : State) (q : Bool) : (s.recompute q).supply = s.supply := by
  simp [State.recompute]
@[simp] theorem State.recompute_startUpDone (s : State) (q : Bool) : (s.recompute q).startUpDone = s.startUpDone := by
  simp [State.recompute]
@[simp] theorem State.recompute_pins (s : State) (q : Bool) : (s.recompute q).pins = s.pins := by
  simp [State.recompute]

/-! ## `hear`: only the engine's silence count and flag change -/

@[simp] theorem State.hear_pending (s : State) (l : Link) : (s.hear l).pending = s.pending := by cases l <;> rfl
@[simp] theorem State.hear_now (s : State) (l : Link) : (s.hear l).now = s.now := by cases l <;> rfl
@[simp] theorem State.hear_choices (s : State) (l : Link) : (s.hear l).choices = s.choices := by cases l <;> rfl
@[simp] theorem State.hear_settings (s : State) (l : Link) : (s.hear l).settings = s.settings := by cases l <;> rfl
@[simp] theorem State.hear_account (s : State) (l : Link) : (s.hear l).account = s.account := by cases l <;> rfl
@[simp] theorem State.hear_lamp (s : State) (l : Link) : (s.hear l).lamp = s.lamp := by cases l <;> rfl
@[simp] theorem State.hear_scanner (s : State) (l : Link) : (s.hear l).scanner = s.scanner := by cases l <;> rfl
@[simp] theorem State.hear_switch (s : State) (l : Link) : (s.hear l).switch = s.switch := by cases l <;> rfl
@[simp] theorem State.hear_geometry (s : State) (l : Link) : (s.hear l).geometry = s.geometry := by cases l <;> rfl
@[simp] theorem State.hear_policy (s : State) (l : Link) : (s.hear l).policy = s.policy := by cases l <;> rfl
@[simp] theorem State.hear_clock (s : State) (l : Link) : (s.hear l).clock = s.clock := by cases l <;> rfl
@[simp] theorem State.hear_table (s : State) (l : Link) : (s.hear l).table = s.table := by cases l <;> rfl
@[simp] theorem State.hear_finder (s : State) (l : Link) : (s.hear l).finder = s.finder := by cases l <;> rfl
@[simp] theorem State.hear_session (s : State) (l : Link) : (s.hear l).session = s.session := by cases l <;> rfl
@[simp] theorem State.hear_engine (s : State) (l : Link) : (s.hear l).engine = s.engine := by cases l <;> rfl
@[simp] theorem State.hear_lectern (s : State) (l : Link) : (s.hear l).lectern = s.lectern := by cases l <;> rfl
@[simp] theorem State.hear_campus (s : State) (l : Link) : (s.hear l).campus = s.campus := by cases l <;> rfl
@[simp] theorem State.hear_receiversOn (s : State) (l : Link) : (s.hear l).receiversOn = s.receiversOn := by cases l <;> rfl
@[simp] theorem State.hear_restartArmed (s : State) (l : Link) : (s.hear l).restartArmed = s.restartArmed := by cases l <;> rfl
@[simp] theorem State.hear_store (s : State) (l : Link) : (s.hear l).store = s.store := by cases l <;> rfl
@[simp] theorem State.hear_supply (s : State) (l : Link) : (s.hear l).supply = s.supply := by cases l <;> rfl
@[simp] theorem State.hear_startUpDone (s : State) (l : Link) : (s.hear l).startUpDone = s.startUpDone := by cases l <;> rfl
@[simp] theorem State.hear_pins (s : State) (l : Link) : (s.hear l).pins = s.pins := by cases l <;> rfl

@[simp] theorem State.hear_silence (s : State) (l : Link) : (s.hear l).silence = heardOn l s := by cases l <;> rfl

/-! ## `respond`: only the answering link changes -/

@[simp] theorem State.respond_pending (l : Link) (code : Byte) (a : Answer) :
    (State.respond l code a).pending = a.state.pending := by cases l <;> rfl
@[simp] theorem State.respond_now (l : Link) (code : Byte) (a : Answer) :
    (State.respond l code a).now = a.state.now := by cases l <;> rfl
@[simp] theorem State.respond_choices (l : Link) (code : Byte) (a : Answer) :
    (State.respond l code a).choices = a.state.choices := by cases l <;> rfl
@[simp] theorem State.respond_settings (l : Link) (code : Byte) (a : Answer) :
    (State.respond l code a).settings = a.state.settings := by cases l <;> rfl
@[simp] theorem State.respond_account (l : Link) (code : Byte) (a : Answer) :
    (State.respond l code a).account = a.state.account := by cases l <;> rfl
@[simp] theorem State.respond_lamp (l : Link) (code : Byte) (a : Answer) :
    (State.respond l code a).lamp = a.state.lamp := by cases l <;> rfl
@[simp] theorem State.respond_scanner (l : Link) (code : Byte) (a : Answer) :
    (State.respond l code a).scanner = a.state.scanner := by cases l <;> rfl
@[simp] theorem State.respond_switch (l : Link) (code : Byte) (a : Answer) :
    (State.respond l code a).switch = a.state.switch := by cases l <;> rfl
@[simp] theorem State.respond_geometry (l : Link) (code : Byte) (a : Answer) :
    (State.respond l code a).geometry = a.state.geometry := by cases l <;> rfl
@[simp] theorem State.respond_policy (l : Link) (code : Byte) (a : Answer) :
    (State.respond l code a).policy = a.state.policy := by cases l <;> rfl
@[simp] theorem State.respond_clock (l : Link) (code : Byte) (a : Answer) :
    (State.respond l code a).clock = a.state.clock := by cases l <;> rfl
@[simp] theorem State.respond_table (l : Link) (code : Byte) (a : Answer) :
    (State.respond l code a).table = a.state.table := by cases l <;> rfl
@[simp] theorem State.respond_finder (l : Link) (code : Byte) (a : Answer) :
    (State.respond l code a).finder = a.state.finder := by cases l <;> rfl
@[simp] theorem State.respond_session (l : Link) (code : Byte) (a : Answer) :
    (State.respond l code a).session = a.state.session := by cases l <;> rfl
@[simp] theorem State.respond_receiversOn (l : Link) (code : Byte) (a : Answer) :
    (State.respond l code a).receiversOn = a.state.receiversOn := by cases l <;> rfl
@[simp] theorem State.respond_silence (l : Link) (code : Byte) (a : Answer) :
    (State.respond l code a).silence = a.state.silence := by cases l <;> rfl
@[simp] theorem State.respond_restartArmed (l : Link) (code : Byte) (a : Answer) :
    (State.respond l code a).restartArmed = a.state.restartArmed := by cases l <;> rfl
@[simp] theorem State.respond_store (l : Link) (code : Byte) (a : Answer) :
    (State.respond l code a).store = a.state.store := by cases l <;> rfl
@[simp] theorem State.respond_supply (l : Link) (code : Byte) (a : Answer) :
    (State.respond l code a).supply = a.state.supply := by cases l <;> rfl
@[simp] theorem State.respond_startUpDone (l : Link) (code : Byte) (a : Answer) :
    (State.respond l code a).startUpDone = a.state.startUpDone := by cases l <;> rfl
@[simp] theorem State.respond_pins (l : Link) (code : Byte) (a : Answer) :
    (State.respond l code a).pins = a.state.pins := by cases l <;> rfl

theorem State.link_respond_other (l k : Link) (code : Byte) (a : Answer) (h : k ≠ l) :
    (State.respond l code a).link k = a.state.link k := State.link_setLink_other _ _ _ _ h

end Sys2Proof.Machine
end

