-- ==== Sys2Proof/Laws/Frames.lean ====
section
/-! SUPPORT. For each shared operation, once, the blocks of the state it can touch. -/

namespace Sys2Proof.Machine

open Sys2Proof.Config

/-! ## Frames compose -/

theorem Block.same_refl (b : Block) (s : State) : b.same s s := by
  cases b <;> simp [Block.same]

theorem Block.same_trans {b : Block} {s t u : State} (h : b.same s t) (k : b.same t u) : b.same s u := by
  cases b <;> simp_all [Block.same]

theorem Untouched.refl (A : List Block) (s : State) : Untouched A s s := fun b _ => b.same_refl s

theorem Untouched.trans {A : List Block} {s t u : State} (h : Untouched A s t) (k : Untouched A t u) : Untouched A s u :=
  fun b hb => Block.same_trans (h b hb) (k b hb)

/-- Whether every block of one list is in another. -/
def within (A B : List Block) : Bool := A.all fun b => decide (b ∈ B)

theorem Untouched.mono {A B : List Block} {s t : State} (h : Untouched A s t) (sub : within A B = true) : Untouched B s t :=
  fun b hb => h b fun ha => hb (of_decide_eq_true (List.all_eq_true.mp sub b ha))

/-- One operation after another, each within the blocks named. -/
theorem Untouched.andThen {A B C : List Block} {s t u : State} (h : Untouched A s t) (k : Untouched B t u)
    (subA : within A C = true) (subB : within B C = true) : Untouched C s u := (h.mono subA).trans (k.mono subB)

/-! ## Links and notices -/

@[simp] theorem LinkState.note_quiet (x : LinkState) (n : Notice) (m : NoticeSet) : (x.note n m).quiet = x.quiet := rfl
@[simp] theorem LinkState.settle_quiet (x : LinkState) (m : NoticeSet) : (x.settle m).quiet = x.quiet := rfl

theorem Notice.flag_disjoint {m n : Notice} (h : m ≠ n) (x : NoticeSet) : (x ||| n.flag) &&& m.flag = x &&& m.flag := by
  have d : n.flag &&& m.flag = 0 := by
    cases m <;> cases n <;> first | exact absurd rfl h | decide
  simp [BitVec.and_or_distrib_right, d]

theorem State.raise_untouched (s : State) (n : Notice) : Untouched [.notice n, .attention] s (s.raise n) := by
  intro b hb
  cases b with
  | notice m =>
    have h : m ≠ n := by rintro rfl; exact hb (by simp)
    intro l
    rw [s.link_raise]
    exact Notice.flag_disjoint h _
  | links => intro l; rw [s.link_raise]; rfl
  | attention => exact (hb (by simp)).elim
  | _ => rfl

theorem State.raiseIf_untouched (s : State) (c : Bool) (n : Notice) :
    Untouched [.notice n, .attention] s (s.raiseIf c n) := by
  cases c
  · exact .refl _ _
  · exact s.raise_untouched n

/-- A write of one link leaves every other block and every other link as they are. -/
theorem State.setLink_otherLinks (s : State) (l : Link) (x : LinkState) : OtherLinksSame l s (s.setLink l x) :=
  fun k h => s.link_setLink_other l k x h

theorem State.raiseLink_untouched (s : State) (l : Link) : Untouched [.notice .link, .attention] s (s.raiseLink l) := by
  intro b hb
  cases b with
  | notice m =>
    have h : m ≠ .link := by rintro rfl; exact hb (by simp)
    intro k
    by_cases e : k = l
    · subst e
      simp only [State.raiseLink, State.link_setLink_same]
      exact Notice.flag_disjoint h _
    · simp only [State.raiseLink]
      rw [State.link_setLink_other _ _ _ _ e]
  | links =>
    intro k
    by_cases e : k = l
    · subst e; simp [State.raiseLink]
    · simp only [State.raiseLink]
      rw [State.link_setLink_other _ _ _ _ e]
  | attention => exact (hb (by simp)).elim
  | _ => cases l <;> rfl

/-- What raising a notice adds: its flag is pending on every link. -/
theorem Pending.of_raise (s : State) (n : Notice) : Pending n (s.raise n) := by
  intro l
  rw [s.link_raise]
  show (((s.link l).notices ||| n.flag) &&& n.flag) = n.flag
  ext i hi
  simp only [BitVec.getElem_and, BitVec.getElem_or]
  cases (s.link l).notices[i] <;> cases n.flag[i] <;> rfl

/-- A notice pending stays pending when another is raised. -/
theorem Pending.raise {s : State} {m : Notice} (h : Pending m s) (n : Notice) : Pending m (s.raise n) := by
  intro l
  have hl := h l
  rw [s.link_raise]
  show (((s.link l).notices ||| n.flag) &&& m.flag) = m.flag
  ext i hi
  have hi' : ((s.link l).notices[i] && m.flag[i]) = m.flag[i] := by
    rw [← BitVec.getElem_and, hl]
  simp only [BitVec.getElem_and, BitVec.getElem_or]
  revert hi'
  cases (s.link l).notices[i] <;> cases n.flag[i] <;> cases m.flag[i] <;> simp

theorem Pending.raiseIf {s : State} {m : Notice} (h : Pending m s) (c : Bool) (n : Notice) : Pending m (s.raiseIf c n) := by
  cases c
  · exact h
  · exact h.raise n

/-! ## Single updates -/

theorem State.elapse_untouched (s : State) (d : Nat) : Untouched [.time] s (s.elapse d) := by
  intro b hb
  cases b <;> first | rfl | (intro l; cases l <;> rfl) | exact (hb (by simp)).elim

theorem State.reach_untouched (s : State) (d : Nat) : Untouched [.time] s (s.reach d) := by
  intro b hb
  cases b <;> first | rfl | (intro l; cases l <;> rfl) | exact (hb (by simp)).elim

theorem State.deriveLevel_untouched (s : State) : Untouched [.lamp] s (s.deriveLevel) := by
  intro b hb
  cases b <;> first | rfl | (intro l; cases l <;> rfl) | exact (hb (by simp)).elim

theorem State.driveBallast_untouched (s : State) : Untouched [.pins] s (s.driveBallast) := by
  intro b hb
  cases b <;> first | rfl | (intro l; cases l <;> rfl) | exact (hb (by simp)).elim

theorem State.countWarm_untouched (s : State) : Untouched [.account] s (s.countWarm) := by
  intro b hb
  cases b <;> first | rfl | (intro l; cases l <;> rfl) | exact (hb (by simp)).elim

theorem State.countFailed_untouched (s : State) : Untouched [.account] s (s.countFailed) := by
  intro b hb
  cases b <;> first | rfl | (intro l; cases l <;> rfl) | exact (hb (by simp)).elim

theorem State.startWrite_untouched (s : State) : Untouched [.store] s (s.startWrite) := by
  intro b hb
  cases b <;> first | (simp [Block.same]; done) | (intro l; cases l <;> simp [State.link]) | exact (hb (by simp)).elim

theorem State.queueKind_untouched (s : State) (k : Kind) : Untouched [.store] s (s.queueKind k) := by
  intro b hb
  cases b <;> first | (simp [Block.same]; done) | (intro l; cases l <;> simp [State.link]) | exact (hb (by simp)).elim

theorem State.setPlate_untouched (s : State) (n : Nat) (p : Plate) : Untouched [.scanner] s (s.setPlate n p) := by
  intro b hb
  cases b <;> first | rfl | (intro l; cases l <;> rfl) | exact (hb (by simp)).elim

theorem State.startPoll_untouched (s : State) (n : Nat) : Untouched [.scanner, .pins] s (s.startPoll n) := by
  intro b hb
  cases b <;> first | rfl | (intro l; cases l <;> rfl) | exact (hb (by simp)).elim

theorem State.hear_untouched (s : State) (l : Link) : Untouched [.silence] s (s.hear l) := by
  cases l
  · intro b hb
    cases b <;> first | rfl | (intro l; cases l <;> rfl) | exact (hb (by simp)).elim
  · exact .refl _ _
  · exact .refl _ _

theorem State.account_update_untouched (s : State) (x : Account) : Untouched [.account] s { s with account := x } := by
  intro b hb
  cases b <;> first | rfl | (intro l; cases l <;> rfl) | exact (hb (by simp)).elim

theorem State.lamp_update_untouched (s : State) (x : Lamp) : Untouched [.lamp] s { s with lamp := x } := by
  intro b hb
  cases b <;> first | rfl | (intro l; cases l <;> rfl) | exact (hb (by simp)).elim

theorem State.switch_update_untouched (s : State) (x : Switch) : Untouched [.switch] s { s with switch := x } := by
  intro b hb
  cases b <;> first | rfl | (intro l; cases l <;> rfl) | exact (hb (by simp)).elim

theorem State.geometry_update_untouched (s : State) (x : Geometry) : Untouched [.geometry] s { s with geometry := x } := by
  intro b hb
  cases b <;> first | rfl | (intro l; cases l <;> rfl) | exact (hb (by simp)).elim

theorem State.policy_update_untouched (s : State) (x : Policy) : Untouched [.policy] s { s with policy := x } := by
  intro b hb
  cases b <;> first | rfl | (intro l; cases l <;> rfl) | exact (hb (by simp)).elim

theorem State.session_update_untouched (s : State) (x : Session) : Untouched [.session] s { s with session := x } := by
  intro b hb
  cases b <;> first | rfl | (intro l; cases l <;> rfl) | exact (hb (by simp)).elim

theorem State.scanner_update_untouched (s : State) (x : Scanner) : Untouched [.scanner] s { s with scanner := x } := by
  intro b hb
  cases b <;> first | rfl | (intro l; cases l <;> rfl) | exact (hb (by simp)).elim

theorem State.table_update_untouched (s : State) (x : List Entry) : Untouched [.table] s { s with table := x } := by
  intro b hb
  cases b <;> first | rfl | (intro l; cases l <;> rfl) | exact (hb (by simp)).elim

theorem State.clock_update_untouched (s : State) (x : Clock) : Untouched [.clock] s { s with clock := x } := by
  intro b hb
  cases b <;> first | rfl | (intro l; cases l <;> rfl) | exact (hb (by simp)).elim

theorem State.finder_update_untouched (s : State) (x : Finder) : Untouched [.finder] s { s with finder := x } := by
  intro b hb
  cases b <;> first | rfl | (intro l; cases l <;> rfl) | exact (hb (by simp)).elim

theorem State.settings_update_untouched (s : State) (x : Settings) : Untouched [.settings] s { s with settings := x } := by
  intro b hb
  cases b <;> first | rfl | (intro l; cases l <;> rfl) | exact (hb (by simp)).elim

theorem State.store_update_untouched (s : State) (x : Store) : Untouched [.store] s { s with store := x } := by
  intro b hb
  cases b <;> first | rfl | (intro l; cases l <;> rfl) | exact (hb (by simp)).elim

theorem State.pins_update_untouched (s : State) (x : Pins) : Untouched [.pins] s { s with pins := x } := by
  intro b hb
  cases b <;> first | rfl | (intro l; cases l <;> rfl) | exact (hb (by simp)).elim

/-! ## Operations of the blocks -/

theorem State.settleMute_untouched (s : State) : Untouched muteBlocks s s.settleMute := by
  simp only [State.settleMute]
  split
  · exact .refl _ _
  · exact (s.pins_update_untouched _).andThen (State.raise_untouched _ _) rfl rfl

theorem State.deriveStatus_untouched (s : State) : Untouched [.account, .notice .account, .attention] s s.deriveStatus := by
  unfold State.deriveStatus
  split
  · exact .refl _ _
  · exact (s.account_update_untouched _).andThen (State.raise_untouched _ _) rfl rfl

theorem State.putGeometry_untouched (s : State) (g : Geometry) : 
    Untouched [.geometry, .notice .geometry, .attention] s (s.putGeometry g) :=
  (s.geometry_update_untouched _).andThen (State.raiseIf_untouched _ _ _) rfl rfl

theorem State.installPreset_untouched (s : State) (n : Nat) : 
    Untouched [.geometry, .notice .geometry, .attention] s (s.installPreset n) :=
  s.putGeometry_untouched _

theorem State.recompute_untouched (s : State) (q : Bool) : 
    Untouched [.finder, .notice .schedule, .attention] s (s.recompute q) :=
  (s.finder_update_untouched _).andThen (State.raiseIf_untouched _ _ _) rfl rfl

theorem State.chargeStrike_untouched (s : State) : Untouched [.account, .notice .account, .attention] s s.chargeStrike :=
  (s.account_update_untouched _).andThen (State.deriveStatus_untouched _) rfl rfl

theorem State.consumeGrace_untouched (s : State) : Untouched [.account, .notice .account, .attention] s s.consumeGrace := by
  unfold State.consumeGrace
  split
  · exact (s.account_update_untouched _).andThen (State.raise_untouched _ _) rfl rfl
  · exact .refl _ _

theorem State.countIgnition_untouched (s : State) : Untouched [.account, .notice .account, .attention] s s.countIgnition :=
  (s.account_update_untouched _).andThen (State.consumeGrace_untouched _) rfl rfl

theorem State.endBurn_untouched (s : State) (outage : Bool) : Untouched [.account, .store] s (s.endBurn outage) :=
  (s.account_update_untouched _).andThen (State.queueKind_untouched _ _) rfl rfl

theorem State.checkpointIfDue_untouched (s : State) : Untouched [.account, .store] s s.checkpointIfDue := by
  unfold State.checkpointIfDue
  split
  · exact (s.account_update_untouched _).andThen (State.queueKind_untouched _ _) rfl rfl
  · exact .refl _ _

theorem State.settleLamp_untouched (s : State) (old : Lamp) : Untouched ballastBlocks s (s.settleLamp old) :=
  ((s.deriveLevel_untouched.andThen (State.driveBallast_untouched _) (C := [.lamp, .pins]) rfl rfl).andThen
      (State.raiseIf_untouched _ _ _) (C := ballastBlocks) rfl rfl).andThen
    (State.settleMute_untouched _) rfl rfl

theorem State.startAttempt_untouched (s : State) (first : Bool) :
    Untouched strikeBlocks s (s.startAttempt first) :=
  ((s.lamp_update_untouched _).andThen (State.chargeStrike_untouched _) (C := strikeBlocks) rfl
    rfl).andThen (State.settleLamp_untouched _ _) rfl rfl

theorem State.holdStrike_untouched (s : State) (cause : Blocked) :
    Untouched (.notice .account :: ballastBlocks) s (s.holdStrike cause) :=
  ((s.lamp_update_untouched _).andThen (State.settleLamp_untouched _ _) (C := (.notice .account :: ballastBlocks)) rfl
    rfl).andThen (State.raiseIf_untouched _ _ _) rfl rfl

theorem State.strikeOrHold_untouched (s : State) : Untouched strikeBlocks s s.strikeOrHold := by
  unfold State.strikeOrHold
  split
  · exact s.startAttempt_untouched _
  · exact (s.holdStrike_untouched _).mono rfl

theorem State.recheckStrike_untouched (s : State) : Untouched strikeBlocks s s.recheckStrike := by
  unfold State.recheckStrike
  split
  · exact .refl _ _
  · split
    · exact s.startAttempt_untouched _
    · split
      · exact .refl _ _
      · exact (s.holdStrike_untouched _).mono rfl
  · exact .refl _ _

theorem State.handAccount_untouched (s : State) (old : Account) :
    Untouched strikeBlocks s (s.handAccount old) := by
  unfold State.handAccount
  split
  · exact .refl _ _
  · exact (s.settleLamp_untouched _).andThen (State.recheckStrike_untouched _) rfl rfl

theorem State.extinguish_untouched (s : State) (outage : Bool) :
    Untouched burnBlocks s (s.extinguish outage) :=
  ((s.lamp_update_untouched _).andThen (State.endBurn_untouched _ _) (C := burnBlocks)
    rfl rfl).andThen (State.settleLamp_untouched _ _) rfl rfl

theorem State.setDemand_untouched (s : State) (on : Bool) :
    Untouched burnBlocks s (s.setDemand on) := by
  simp only [State.setDemand]
  split
  · exact .refl _ _
  · have h := s.lamp_update_untouched { s.lamp with demand := on }
    split
    · exact h.andThen (State.strikeOrHold_untouched _) rfl rfl
    · exact (s.lamp_update_untouched _).andThen (State.settleLamp_untouched _ _) rfl rfl
    · exact (s.lamp_update_untouched _).andThen (State.settleLamp_untouched _ _) rfl rfl
    · exact (s.lamp_update_untouched _).andThen (State.settleLamp_untouched _ _) rfl rfl
    · exact h.mono rfl
    · exact h.mono rfl
    · exact h.andThen (State.extinguish_untouched _ _) rfl rfl

theorem State.setRequested_untouched (s : State) (level : LampLevel) :
    Untouched ballastBlocks s (s.setRequested level) := by
  unfold State.setRequested
  split
  · exact .refl _ _
  · exact (s.lamp_update_untouched _).andThen (State.settleLamp_untouched _ _) rfl rfl

theorem State.setTemp_untouched (s : State) (t : TempState) :
    Untouched burnBlocks s (s.setTemp t) := by
  simp only [State.setTemp]
  split
  · exact .refl _ _
  · have h := (s.lamp_update_untouched { s.lamp with temp := t }).andThen (State.settleLamp_untouched _ s.lamp)
      (C := burnBlocks) rfl rfl
    split
    · exact h.andThen (State.extinguish_untouched _ _) rfl rfl
    · exact h.andThen (State.recheckStrike_untouched _) rfl rfl

theorem State.deriveEffective_untouched (s : State) (q : Bool) :
    Untouched policyBlocks s (s.deriveEffective q) := by
  unfold State.deriveEffective
  split
  · exact .refl _ _
  · exact ((s.policy_update_untouched _).andThen (State.raiseIf_untouched _ _ _)
      (C := policyBlocks) rfl rfl).andThen
      (State.recheckStrike_untouched _) rfl rfl

theorem State.setBase_untouched (s : State) (level : Level) (q : Bool) :
    Untouched policyBlocks s (s.setBase level q) :=
  (s.policy_update_untouched _).andThen (State.deriveEffective_untouched _ _) rfl rfl

theorem State.setOverride_untouched (s : State) (o : Option Override) :
    Untouched policyBlocks s (s.setOverride o) :=
  (s.policy_update_untouched _).andThen (State.deriveEffective_untouched _ _) rfl rfl

theorem State.setBridgeMute_untouched (s : State) (on : Bool) :
    Untouched (.switch :: muteBlocks) s (s.setBridgeMute on) :=
  (s.switch_update_untouched _).andThen (State.settleMute_untouched _) rfl rfl

theorem State.handOver_untouched (s : State) (q : Bool) :
    Untouched handOverBlocks s (s.handOver q) := by
  unfold State.handOver
  exact (((s.setBase_untouched _ _).andThen (State.setRequested_untouched _ _)
    (C := handOverBlocks) rfl rfl).andThen
    (State.setDemand_untouched _ _) (C := handOverBlocks) rfl
    rfl).andThen (State.setBridgeMute_untouched _ _) rfl rfl

/-! ## The switch sequencer -/

theorem State.routingAction_untouched (s : State) (t : Nat) :
    Untouched routeBlocks s (s.routingAction t) := by
  simp only [State.routingAction]
  refine ((Untouched.andThen (t := State.mk _ _ _ _ _ _ _ _ _ _ _ _ _ _ _ _ _ _ _ _ _ _ _ _) ?_
    (State.installPreset_untouched _ _) (A := [.switch, .pins]) (C := routeBlocks) rfl
    rfl)).andThen (State.settleMute_untouched _) rfl rfl
  intro b hb
  cases b <;> first | rfl | (intro l; cases l <;> rfl) | exact (hb (by simp)).elim

theorem State.enterSeeking_untouched (s : State) (r : Option Nat) :
    Untouched (.switch :: muteBlocks) s (s.enterSeeking r) :=
  (s.switch_update_untouched _).andThen (State.settleMute_untouched _) rfl rfl

theorem State.enterSettled_untouched (s : State) (x : SwitchState) :
    Untouched (.switch :: muteBlocks) s (s.enterSettled x) :=
  ((s.switch_update_untouched _).andThen (State.raise_untouched _ _) (C := (.switch :: muteBlocks)) rfl
    rfl).andThen (State.settleMute_untouched _) rfl rfl

theorem State.enterMuting_untouched (s : State) : Untouched routeBlocks s s.enterMuting := by
  have h := (s.switch_update_untouched { s.switch with
        state := .muting
        ring := []
        streak := 0
        missMark := false
        timerEnd := s.now + s.settings.muteLead * millisecond }).andThen (State.settleMute_untouched _)
      (C := routeBlocks) rfl rfl
  simp only [State.enterMuting]
  split
  · exact h.trans (State.routingAction_untouched _ _)
  · exact h

theorem State.requestSwitch_untouched (s : State) (t : Nat) (c : Requester) :
    Untouched routeBlocks s (s.requestSwitch t c).1 := by
  have taken := fun x => (s.switch_update_untouched x).mono (B := routeBlocks) rfl
  simp only [State.requestSwitch, State.requestSettled, State.requestInTransit]
  repeat' split
  all_goals first
    | exact .refl _ _
    | exact taken _
    | exact (taken _).trans (State.routingAction_untouched _ _)
    | exact (taken _).trans (State.enterMuting_untouched _)
    | exact (taken _).trans ((State.enterSeeking_untouched _ _).mono rfl)

theorem State.becomeStable_untouched (s : State) : Untouched (.switch :: muteBlocks) s s.becomeStable :=
  (s.switch_update_untouched _).andThen (State.settleMute_untouched _) rfl rfl

theorem State.loseSync_untouched (s : State) (r : Option Nat) : Untouched (.switch :: muteBlocks) s (s.loseSync r) :=
  (s.enterSeeking_untouched r).andThen (State.raise_untouched _ _) rfl rfl

/-! ## The session controller -/

theorem State.setOwed_untouched (s : State) (o : Option Nat) : Untouched [.session] s (s.setOwed o) := by
  unfold State.setOwed
  split
  · exact s.session_update_untouched _
  · exact .refl _ _

theorem State.issueSource_untouched (s : State) (plate : Nat) :
    Untouched (.session :: routeBlocks) s (s.issueSource plate) :=
  (s.requestSwitch_untouched plate .schedule).andThen (State.setOwed_untouched _ _) rfl rfl

theorem State.serveSource_untouched (s : State) (started : Bool) :
    Untouched (.session :: routeBlocks) s (s.serveSource started) := by
  simp only [State.serveSource]
  repeat' split
  all_goals first
    | exact .refl _ _
    | exact State.issueSource_untouched _ _
    | exact (State.setOwed_untouched _ _).mono rfl

/-- The blocks a runner event can touch. -/
theorem State.runner_untouched (s : State) (ev : RunnerEvent) :
    Untouched runnerBlocks s (s.runner ev) := by
  have h1 := (s.session_update_untouched (runRecord s ev).1).andThen (State.handOver_untouched _ ev.quiet)
    (C := runnerBlocks) rfl rfl
  have h2 := h1.andThen (State.serveSource_untouched _ (runRecord s ev).2)
    (C := runnerBlocks) rfl rfl
  exact h2.andThen (State.raiseIf_untouched _ _ _) rfl rfl

end Sys2Proof.Machine
end

