-- ==== Sys2Proof/Laws/Notices.lean ====
section
/-! SUPPORT. Pending notices: every shared operation keeps those that are pending, and which operations raise one. -/

namespace Sys2Proof.Machine

open Sys2Proof.Config

/-- Every notice pending in one state is pending in the other. -/
def KeepsNotices (s t : State) : Prop := ∀ n, Pending n s → Pending n t

theorem KeepsNotices.refl (s : State) : KeepsNotices s s := fun _ h => h

theorem KeepsNotices.trans {s t u : State} (h : KeepsNotices s t) (k : KeepsNotices t u) : KeepsNotices s u :=
  fun n p => k n (h n p)

/-- An update of other fields than the links. -/
theorem KeepsNotices.ofLinks {s t : State} (h : ∀ l, (t.link l).notices = (s.link l).notices) : KeepsNotices s t :=
  fun n p l => by rw [h l]; exact p l

theorem State.raise_keeps (s : State) (n : Notice) : KeepsNotices s (s.raise n) := fun _ h => h.raise n

theorem State.raiseIf_keeps (s : State) (c : Bool) (n : Notice) : KeepsNotices s (s.raiseIf c n) := fun _ h => h.raiseIf c n

theorem Pending.of_raiseIf {s : State} {c : Bool} (h : c = true) (n : Notice) : Pending n (s.raiseIf c n) := by
  subst h
  exact Pending.of_raise s n

theorem State.settleMute_keeps (s : State) : KeepsNotices s s.settleMute := by
  simp only [State.settleMute]
  split
  · exact .refl _
  · exact KeepsNotices.trans (t := { s with pins := _ }) (.ofLinks fun l => by cases l <;> rfl) (State.raise_keeps _ _)

/-- R66: a change of MUTE raises PICTURE. -/
theorem State.settleMute_raises (s : State) (h : s.pins.mute ≠ muteWanted s.switch s.lamp.state) : Pending .picture s.settleMute := by
  simp only [State.settleMute, if_neg h]
  exact Pending.of_raise _ _

theorem State.startWrite_keeps (s : State) : KeepsNotices s s.startWrite := .ofLinks fun l => by cases l <;> simp [State.link]

theorem State.queueKind_keeps (s : State) (k : Kind) : KeepsNotices s (s.queueKind k) :=
  .ofLinks fun l => by cases l <;> simp [State.link]

theorem State.deriveStatus_keeps (s : State) : KeepsNotices s s.deriveStatus := by
  unfold State.deriveStatus
  split
  · exact .refl _
  · exact KeepsNotices.trans (t := { s with account := _ }) (.ofLinks fun l => by cases l <;> rfl) (State.raise_keeps _ _)

theorem State.putGeometry_keeps (s : State) (g : Geometry) : KeepsNotices s (s.putGeometry g) :=
  KeepsNotices.trans (t := { s with geometry := _ }) (.ofLinks fun l => by cases l <;> rfl) (State.raiseIf_keeps _ _ _)

theorem State.recompute_keeps (s : State) (q : Bool) : KeepsNotices s (s.recompute q) :=
  KeepsNotices.trans (t := { s with finder := _ }) (.ofLinks fun l => by cases l <;> rfl) (State.raiseIf_keeps _ _ _)

theorem State.chargeStrike_keeps (s : State) : KeepsNotices s s.chargeStrike :=
  KeepsNotices.trans (t := { s with account := _ }) (.ofLinks fun l => by cases l <;> rfl) (State.deriveStatus_keeps _)

theorem State.consumeGrace_keeps (s : State) : KeepsNotices s s.consumeGrace := by
  unfold State.consumeGrace
  split
  · exact KeepsNotices.trans (t := { s with account := _ }) (.ofLinks fun l => by cases l <;> rfl) (State.raise_keeps _ _)
  · exact .refl _

theorem State.countIgnition_keeps (s : State) : KeepsNotices s s.countIgnition :=
  KeepsNotices.trans (t := { s with account := _ }) (.ofLinks fun l => by cases l <;> rfl) (State.consumeGrace_keeps _)

theorem State.endBurn_keeps (s : State) (outage : Bool) : KeepsNotices s (s.endBurn outage) :=
  KeepsNotices.trans (t := { s with account := _ }) (.ofLinks fun l => by cases l <;> rfl) (State.queueKind_keeps _ _)

theorem State.checkpointIfDue_keeps (s : State) : KeepsNotices s s.checkpointIfDue := by
  unfold State.checkpointIfDue
  split
  · exact KeepsNotices.trans (t := { s with account := _ }) (.ofLinks fun l => by cases l <;> rfl) (State.queueKind_keeps _ _)
  · exact .refl _

theorem State.settleLamp_keeps (s : State) (old : Lamp) : KeepsNotices s (s.settleLamp old) :=
  (KeepsNotices.trans (t := s.deriveLevel.driveBallast) (.ofLinks fun l => by cases l <;> rfl)
    (State.raiseIf_keeps _ _ _)).trans (State.settleMute_keeps _)

/-- R40: a change that the notice rule names raises LAMP. -/
theorem State.settleLamp_raises (s : State) (old : Lamp) (h : lampNoticed old s.deriveLevel.lamp = true) :
    Pending .lamp (s.settleLamp old) :=
  State.settleMute_keeps _ _ (Pending.of_raiseIf h _)

theorem State.startAttempt_keeps (s : State) (first : Bool) : KeepsNotices s (s.startAttempt first) :=
  (KeepsNotices.trans (t := { s with lamp := _ }) (.ofLinks fun l => by cases l <;> rfl) (State.chargeStrike_keeps _)).trans
    (State.settleLamp_keeps _ _)

theorem State.holdStrike_keeps (s : State) (cause : Blocked) : KeepsNotices s (s.holdStrike cause) :=
  (KeepsNotices.trans (t := { s with lamp := _ }) (.ofLinks fun l => by cases l <;> rfl) (State.settleLamp_keeps _ _)).trans
    (State.raiseIf_keeps _ _ _)

/-- R33: a strike held for the account raises ACCOUNT. -/
theorem State.holdStrike_raises (s : State) : Pending .account (s.holdStrike .account) := Pending.of_raiseIf rfl _

theorem State.strikeOrHold_keeps (s : State) : KeepsNotices s s.strikeOrHold := by
  unfold State.strikeOrHold
  split
  · exact s.startAttempt_keeps _
  · exact s.holdStrike_keeps _

theorem State.recheckStrike_keeps (s : State) : KeepsNotices s s.recheckStrike := by
  unfold State.recheckStrike
  split
  · exact .refl _
  · split
    · exact s.startAttempt_keeps _
    · split
      · exact .refl _
      · exact s.holdStrike_keeps _
  · exact .refl _

theorem State.handAccount_keeps (s : State) (old : Account) : KeepsNotices s (s.handAccount old) := by
  unfold State.handAccount
  split
  · exact .refl _
  · exact (s.settleLamp_keeps _).trans (State.recheckStrike_keeps _)

theorem State.extinguish_keeps (s : State) (outage : Bool) : KeepsNotices s (s.extinguish outage) :=
  (KeepsNotices.trans (t := { s with lamp := _ }) (.ofLinks fun l => by cases l <;> rfl) (State.endBurn_keeps _ _)).trans
    (State.settleLamp_keeps _ _)

theorem State.setDemand_keeps (s : State) (on : Bool) : KeepsNotices s (s.setDemand on) := by
  have h : ∀ x : Lamp, KeepsNotices s { s with lamp := x } := fun x => .ofLinks fun l => by cases l <;> rfl
  simp only [State.setDemand]
  split
  · exact .refl _
  · split
    · exact (h _).trans (State.strikeOrHold_keeps _)
    · exact (h _).trans (State.settleLamp_keeps _ _)
    · exact (h _).trans (State.settleLamp_keeps _ _)
    · exact (h _).trans (State.settleLamp_keeps _ _)
    · exact h _
    · exact h _
    · exact (h _).trans (State.extinguish_keeps _ _)

theorem State.setRequested_keeps (s : State) (level : LampLevel) : KeepsNotices s (s.setRequested level) := by
  unfold State.setRequested
  split
  · exact .refl _
  · exact KeepsNotices.trans (t := { s with lamp := _ }) (.ofLinks fun l => by cases l <;> rfl) (State.settleLamp_keeps _ _)

theorem State.setTemp_keeps (s : State) (t : TempState) : KeepsNotices s (s.setTemp t) := by
  have h : ∀ x : Lamp, KeepsNotices s { s with lamp := x } := fun x => .ofLinks fun l => by cases l <;> rfl
  simp only [State.setTemp]
  split
  · exact .refl _
  · split
    · exact ((h _).trans (State.settleLamp_keeps _ _)).trans (State.extinguish_keeps _ _)
    · exact ((h _).trans (State.settleLamp_keeps _ _)).trans (State.recheckStrike_keeps _)

theorem State.deriveEffective_keeps (s : State) (q : Bool) : KeepsNotices s (s.deriveEffective q) := by
  unfold State.deriveEffective
  split
  · exact .refl _
  · exact (KeepsNotices.trans (t := { s with policy := _ }) (.ofLinks fun l => by cases l <;> rfl)
      (State.raiseIf_keeps _ _ _)).trans (State.recheckStrike_keeps _)

/-- R110: a change of the effective level raises LOCKOUT. -/
theorem State.deriveEffective_raises (s : State) (h : s.policy.derived ≠ s.policy.effective) :
    Pending .lockout (s.deriveEffective false) := by
  simp only [State.deriveEffective, if_neg h]
  exact State.recheckStrike_keeps _ _ (Pending.of_raiseIf rfl _)

theorem State.setBase_keeps (s : State) (level : Level) (q : Bool) : KeepsNotices s (s.setBase level q) :=
  KeepsNotices.trans (t := { s with policy := _ }) (.ofLinks fun l => by cases l <;> rfl) (State.deriveEffective_keeps _ _)

theorem State.setOverride_keeps (s : State) (o : Option Override) : KeepsNotices s (s.setOverride o) :=
  KeepsNotices.trans (t := { s with policy := _ }) (.ofLinks fun l => by cases l <;> rfl) (State.deriveEffective_keeps _ _)

theorem State.setBridgeMute_keeps (s : State) (on : Bool) : KeepsNotices s (s.setBridgeMute on) :=
  KeepsNotices.trans (t := { s with switch := _ }) (.ofLinks fun l => by cases l <;> rfl) (State.settleMute_keeps _)

theorem State.handOver_keeps (s : State) (q : Bool) : KeepsNotices s (s.handOver q) :=
  (((s.setBase_keeps _ _).trans (State.setRequested_keeps _ _)).trans (State.setDemand_keeps _ _)).trans
    (State.setBridgeMute_keeps _ _)

/-! ## The switch sequencer -/

theorem State.routingAction_keeps (s : State) (t : Nat) : KeepsNotices s (s.routingAction t) := by
  simp only [State.routingAction]
  exact (KeepsNotices.trans (t := { s with switch := _, pins := _ }) (.ofLinks fun l => by cases l <;> rfl)
    (State.putGeometry_keeps _ _)).trans (State.settleMute_keeps _)

theorem State.enterSeeking_keeps (s : State) (r : Option Nat) : KeepsNotices s (s.enterSeeking r) :=
  KeepsNotices.trans (t := { s with switch := _ }) (.ofLinks fun l => by cases l <;> rfl) (State.settleMute_keeps _)

theorem State.enterSettled_keeps (s : State) (x : SwitchState) : KeepsNotices s (s.enterSettled x) :=
  (KeepsNotices.trans (t := { s with switch := _ }) (.ofLinks fun l => by cases l <;> rfl) (State.raise_keeps _ _)).trans
    (State.settleMute_keeps _)

/-- R66: an entry to a settled state raises PICTURE. -/
theorem State.enterSettled_raises (s : State) (x : SwitchState) : Pending .picture (s.enterSettled x) :=
  State.settleMute_keeps _ _ (Pending.of_raise _ _)

theorem State.enterMuting_keeps (s : State) : KeepsNotices s s.enterMuting := by
  have h : ∀ x : Switch, KeepsNotices s { s with switch := x } := fun x => .ofLinks fun l => by cases l <;> rfl
  simp only [State.enterMuting]
  split
  · exact ((h _).trans (State.settleMute_keeps _)).trans (State.routingAction_keeps _ _)
  · exact (h _).trans (State.settleMute_keeps _)

theorem State.requestSettled_keeps (s : State) (t : Nat) (c : Requester) : KeepsNotices s (s.requestSettled t c).1 := by
  have h : ∀ x : Switch, KeepsNotices s { s with switch := x } := fun x => .ofLinks fun l => by cases l <;> rfl
  unfold State.requestSettled
  dsimp only
  split
  · split
    · exact (h _).trans (State.enterSeeking_keeps _ _)
    · exact KeepsNotices.refl s
  · split
    · exact (h _).trans (State.enterMuting_keeps _)
    · exact (h _).trans (State.routingAction_keeps _ _)

theorem State.requestInTransit_keeps (s : State) (t : Nat) (c : Requester) : KeepsNotices s (s.requestInTransit t c).1 := by
  have h : ∀ x : Switch, KeepsNotices s { s with switch := x } := fun x => .ofLinks fun l => by cases l <;> rfl
  unfold State.requestInTransit
  dsimp only
  split
  · exact KeepsNotices.refl s
  · split
    · exact KeepsNotices.refl s
    · split
      · exact h _
      · exact (h _).trans (State.routingAction_keeps _ _)

theorem State.requestSwitch_keeps (s : State) (t : Nat) (c : Requester) : KeepsNotices s (s.requestSwitch t c).1 := by
  unfold State.requestSwitch
  split
  · exact KeepsNotices.refl s
  · split
    · exact KeepsNotices.refl s
    · split
      · exact s.requestSettled_keeps t c
      · exact s.requestInTransit_keeps t c

theorem State.loseSync_keeps (s : State) (r : Option Nat) : KeepsNotices s (s.loseSync r) :=
  (s.enterSeeking_keeps r).trans (State.raise_keeps _ _)

/-- R66: a sync loss raises PICTURE. -/
theorem State.loseSync_raises (s : State) (r : Option Nat) : Pending .picture (s.loseSync r) := Pending.of_raise _ _

/-! ## The session controller -/

theorem State.setOwed_keeps (s : State) (o : Option Nat) : KeepsNotices s (s.setOwed o) := by
  unfold State.setOwed
  split
  · exact .ofLinks fun l => by cases l <;> rfl
  · exact .refl _

theorem State.issueSource_keeps (s : State) (plate : Nat) : KeepsNotices s (s.issueSource plate) :=
  (s.requestSwitch_keeps plate .schedule).trans (State.setOwed_keeps _ _)

theorem State.serveSource_keeps (s : State) (started : Bool) : KeepsNotices s (s.serveSource started) := by
  simp only [State.serveSource]
  repeat' split
  all_goals first
    | exact .refl _
    | exact State.issueSource_keeps _ _
    | exact State.setOwed_keeps _ _

/-- R143: a record that differs in a field the notice rule names raises SESSION. -/
theorem State.noticeSession_raises (s : State) (old : Session) (h : s.session.noticed ≠ old.noticed) :
    Pending .session (s.noticeSession old false) := Pending.of_raiseIf (by simpa using h) _

theorem State.noticeSession_keeps (s : State) (old : Session) (q : Bool) : KeepsNotices s (s.noticeSession old q) :=
  State.raiseIf_keeps _ _ _

theorem State.runner_keeps (s : State) (ev : RunnerEvent) : KeepsNotices s (s.runner ev) :=
  ((KeepsNotices.trans (t := { s with session := _ }) (.ofLinks fun l => by cases l <;> rfl) (State.handOver_keeps _ _)).trans
    (State.serveSource_keeps _ _)).trans (State.noticeSession_keeps _ _ _)

end Sys2Proof.Machine
end

