-- ==== Sys2Proof/Laws/Lamp.lean ====
section
/-! SUPPORT. What the operations of the lamp controller and of the policy unit leave in the fields they write. -/

namespace Sys2Proof.Machine

open Sys2Proof.Config

/-- R65: after MUTE is settled it is driven by its four causes. -/
@[simp] theorem State.settleMute_pins (s : State) :
    s.settleMute.pins = { s.pins with mute := muteWanted s.switch s.lamp.state } := by
  simp only [State.settleMute]
  split
  · rename_i h; rw [← h]
  · rfl

theorem State.settleMute_eq (s : State) (h : s.pins.mute = muteWanted s.switch s.lamp.state) : s.settleMute = s := by
  simp only [State.settleMute, if_pos h]

/-! ## `settleLamp` -/

/-- R37: the level is derived again; nothing else of the lamp controller changes. -/
@[simp] theorem State.settleLamp_lamp (s : State) (old : Lamp) :
    (s.settleLamp old).lamp = { s.lamp with effective := effectiveLevel s.lamp.requested s.lamp.temp s.account.status } := by
  simp [State.settleLamp, State.deriveLevel]

/-- R20, R38, R39, R65: the ballast outputs and MUTE. -/
@[simp] theorem State.settleLamp_pins (s : State) (old : Lamp) :
    (s.settleLamp old).pins =
      { s.pins with
        lampEn := lampEnDriven s.lamp.state
        ignite := igniteDriven s.lamp.state
        level := levelDriven s.lamp.state s.lamp.temp (effectiveLevel s.lamp.requested s.lamp.temp s.account.status)
        fan := fanDriven s.lamp.state s.lamp.temp
        mute := muteWanted s.switch s.lamp.state } := by
  simp [State.settleLamp, State.deriveLevel, State.driveBallast]

@[simp] theorem State.settleLamp_account (s : State) (old : Lamp) : (s.settleLamp old).account = s.account := by
  simp [State.settleLamp]

@[simp] theorem State.settleLamp_now (s : State) (old : Lamp) : (s.settleLamp old).now = s.now := by simp [State.settleLamp]

@[simp] theorem State.settleLamp_settings (s : State) (old : Lamp) : (s.settleLamp old).settings = s.settings := by
  simp [State.settleLamp]

@[simp] theorem State.settleLamp_store (s : State) (old : Lamp) : (s.settleLamp old).store = s.store := by
  simp [State.settleLamp]

@[simp] theorem State.settleLamp_switch (s : State) (old : Lamp) : (s.settleLamp old).switch = s.switch := by
  simp [State.settleLamp]

@[simp] theorem State.settleLamp_policy (s : State) (old : Lamp) : (s.settleLamp old).policy = s.policy := by
  simp [State.settleLamp]

@[simp] theorem State.settleLamp_startUpDone (s : State) (old : Lamp) : (s.settleLamp old).startUpDone = s.startUpDone := by
  simp [State.settleLamp]

/-! ## Status and charges -/

@[simp] theorem State.deriveStatus_account (s : State) :
    s.deriveStatus.account = { s.account with status := s.statusNow } := by
  simp only [State.deriveStatus]
  split
  · rename_i h; rw [h]
  · rfl

/-- R2: a derivation that differs raises ACCOUNT. -/
theorem State.deriveStatus_raises (s : State) (h : s.statusNow ≠ s.account.status) : Pending .account s.deriveStatus := by
  simp only [State.deriveStatus, if_neg h]
  exact Pending.of_raise _ _

/-- R5: the account once an attempt is charged. -/
@[simp] theorem State.chargeStrike_account (s : State) :
    s.chargeStrike.account =
      (let hot := attemptHot s.account.warmCount s.settings.warmWindow
       let wear := satAdd wearCap s.account.record.wear (strikeCharge s.settings.strikeCost hot)
       { s.account with
          record := { s.account.record with wear := wear }
          attempt := some hot
          currentBurn := 0
          status := statusOf (hoursOf wear) s.settings.lifeLimit s.settings.warningMargin }) := by
  simp [State.chargeStrike, State.statusNow, Account.charge]

@[simp] theorem State.chargeStrike_lamp (s : State) : s.chargeStrike.lamp = s.lamp := by simp [State.chargeStrike]
@[simp] theorem State.chargeStrike_pins (s : State) : s.chargeStrike.pins = s.pins := by simp [State.chargeStrike]
@[simp] theorem State.chargeStrike_switch (s : State) : s.chargeStrike.switch = s.switch := by simp [State.chargeStrike]
@[simp] theorem State.chargeStrike_now (s : State) : s.chargeStrike.now = s.now := by simp [State.chargeStrike]

/-! ## Attempts and held strikes -/

/-- R24: the lamp once an attempt has started. -/
theorem State.startAttempt_lamp (s : State) (first : Bool) :
    (s.startAttempt first).lamp =
      { s.lamp with
        state := .striking .attempt
        attempts := if first then 1 else s.lamp.attempts + 1
        timeToLight := 0
        timerStart := s.now
        timerLength := s.settings.strikeWindow * second
        igniteAt := s.now
        litHold := if s.pins.lit then some s.now else none
        effective := (s.startAttempt first).lamp.effective } := by
  simp [State.startAttempt]

/-- R5: the account once an attempt has started. -/
theorem State.startAttempt_account (s : State) (first : Bool) :
    (s.startAttempt first).account =
      (let hot := attemptHot s.account.warmCount s.settings.warmWindow
       let wear := satAdd wearCap s.account.record.wear (strikeCharge s.settings.strikeCost hot)
       { s.account with
          record := { s.account.record with wear := wear }
          attempt := some hot
          currentBurn := 0
          status := statusOf (hoursOf wear) s.settings.lifeLimit s.settings.warningMargin }) := by
  simp [State.startAttempt]

/-- R24: LAMP_EN and IGNITE are high, FAN is on. -/
theorem State.startAttempt_pins (s : State) (first : Bool) :
    (s.startAttempt first).pins.lampEn = true ∧ (s.startAttempt first).pins.ignite = true
      ∧ (s.startAttempt first).pins.fan = true := by
  simp [State.startAttempt, lampEnDriven, igniteDriven, fanDriven]

/-- R33: the lamp once a strike is held. -/
theorem State.holdStrike_lamp (s : State) (cause : Blocked) :
    (s.holdStrike cause).lamp =
      { s.lamp with
        state := .off cause
        litHold := none
        effective := effectiveLevel s.lamp.requested s.lamp.temp s.account.status } := by
  simp [State.holdStrike]

theorem State.holdStrike_account (s : State) (cause : Blocked) : (s.holdStrike cause).account = s.account := by
  simp [State.holdStrike]

theorem State.holdStrike_pins (s : State) (cause : Blocked) :
    (s.holdStrike cause).pins.lampEn = false ∧ (s.holdStrike cause).pins.ignite = false := by
  simp [State.holdStrike, lampEnDriven, igniteDriven]

/-- R30, R31, R36: the lamp once a burn or a strike has ended. -/
theorem State.extinguish_lamp (s : State) (outage : Bool) :
    (s.extinguish outage).lamp =
      { s.lamp with
        state := .cooling s.lamp.demand
        timerStart := s.now
        timerLength := s.settings.cooldown * second
        litHold := none
        effective := effectiveLevel s.lamp.requested s.lamp.temp s.account.status } := by
  simp [State.extinguish, State.endBurn, Account.endBurn]

/-- R8: the account once a burn has ended. -/
theorem State.extinguish_account (s : State) (outage : Bool) :
    (s.extinguish outage).account = s.account.endBurn outage := by
  simp [State.extinguish, State.endBurn]

theorem State.extinguish_pins (s : State) (outage : Bool) :
    (s.extinguish outage).pins.lampEn = false ∧ (s.extinguish outage).pins.ignite = false
      ∧ (s.extinguish outage).pins.fan = true ∧ (s.extinguish outage).pins.mute = true := by
  simp [State.extinguish, State.endBurn, lampEnDriven, igniteDriven, fanDriven, muteWanted, LampState.shining]

/-- R8, R15: the end of a burn queues the account. -/
theorem State.extinguish_store (s : State) (outage : Bool) :
    (s.extinguish outage).store = ({ s with account := s.account.endBurn outage }.queueKind .account).store := by
  simp only [State.extinguish, State.endBurn, State.settleLamp_store]
  simp only [State.queueKind, State.startWrite, State.recordOf]
  repeat' split
  all_goals rfl

/-! ## Demand and requested level are kept by every operation but their own -/

/-- The two fields the session controller hands over to the lamp controller are the same. -/
def SameOrders (s t : State) : Prop := t.lamp.demand = s.lamp.demand ∧ t.lamp.requested = s.lamp.requested

theorem SameOrders.trans {s t u : State} (h : SameOrders s t) (k : SameOrders t u) : SameOrders s u :=
  ⟨k.1.trans h.1, k.2.trans h.2⟩

theorem State.startAttempt_orders (s : State) (first : Bool) : SameOrders s (s.startAttempt first) := by
  constructor <;> rw [State.startAttempt_lamp]

theorem State.holdStrike_orders (s : State) (cause : Blocked) : SameOrders s (s.holdStrike cause) := by
  constructor <;> rw [State.holdStrike_lamp]

theorem State.strikeOrHold_orders (s : State) : SameOrders s s.strikeOrHold := by
  unfold State.strikeOrHold
  split
  · exact s.startAttempt_orders _
  · exact s.holdStrike_orders _

theorem State.recheckStrike_orders (s : State) : SameOrders s s.recheckStrike := by
  unfold State.recheckStrike
  repeat' split
  all_goals first
    | exact ⟨rfl, rfl⟩
    | exact s.startAttempt_orders _
    | exact s.holdStrike_orders _

theorem State.extinguish_orders (s : State) (outage : Bool) : SameOrders s (s.extinguish outage) := by
  constructor <;> rw [State.extinguish_lamp]

/-- R22: demand is taken as handed over, the requested level is kept. -/
theorem State.setDemand_orders (s : State) (on : Bool) :
    (s.setDemand on).lamp.demand = on ∧ (s.setDemand on).lamp.requested = s.lamp.requested := by
  simp only [State.setDemand]
  split
  · rename_i h
    exact ⟨h, rfl⟩
  · split
    · exact State.strikeOrHold_orders { s with lamp := { s.lamp with demand := true } }
    · simp
    · simp
    · simp
    · exact ⟨rfl, rfl⟩
    · exact ⟨rfl, rfl⟩
    · exact State.extinguish_orders { s with lamp := { s.lamp with demand := false } } false

/-- R37: the requested level is taken as handed over, demand is kept. -/
theorem State.setRequested_orders (s : State) (level : LampLevel) :
    (s.setRequested level).lamp.demand = s.lamp.demand ∧ (s.setRequested level).lamp.requested = level := by
  unfold State.setRequested
  split
  · rename_i h
    exact ⟨rfl, h⟩
  · simp

/-! ## The policy unit (R110) -/

theorem State.recheckStrike_policy (s : State) : s.recheckStrike.policy = s.policy :=
  s.recheckStrike_untouched .policy (by decide)

@[simp] theorem State.deriveEffective_policy (s : State) (q : Bool) :
    (s.deriveEffective q).policy = { s.policy with effective := s.policy.derived } := by
  unfold State.deriveEffective
  split
  · rename_i h; rw [h]
  · rw [State.recheckStrike_policy]
    simp

/-- R106: the base level is taken as handed over, and the effective level follows. -/
theorem State.setBase_policy (s : State) (level : Level) (q : Bool) :
    (s.setBase level q).policy =
      { s.policy with base := level, effective := ({ s.policy with base := level } : Policy).derived } := by
  simp [State.setBase]

/-- R107, R108: the override record is taken, and the effective level follows. -/
theorem State.setOverride_policy (s : State) (o : Option Override) :
    (s.setOverride o).policy =
      { s.policy with override := o, effective := ({ s.policy with override := o } : Policy).derived } := by
  simp [State.setOverride]

/-! ## Handing over (R143) -/

/-- R143: after the handing over, the neighbours hold the values of the session record. -/
theorem State.handOver_handed (s : State) (q : Bool) :
    (s.handOver q).policy.base = s.baseLevel ∧ (s.handOver q).lamp.demand = s.session.demand
      ∧ (s.handOver q).lamp.requested = s.session.requested ∧ (s.handOver q).switch.bridgeMute = s.session.use.bridgeMute
      ∧ (s.handOver q).session = s.session := by
  have base := State.setBase_policy s s.baseLevel q
  have level := State.setRequested_orders (s.setBase s.baseLevel q) s.session.requested
  have demand := State.setDemand_orders ((s.setBase s.baseLevel q).setRequested s.session.requested) s.session.demand
  refine ⟨?_, ?_, ?_, ?_, ?_⟩
  · have h := ((State.setRequested_untouched (s.setBase s.baseLevel q) s.session.requested) .policy (by decide)).trans base
    have k := (State.setDemand_untouched _ s.session.demand .policy (by decide)).trans h
    have m := (State.setBridgeMute_untouched _ s.session.use.bridgeMute .policy (by decide)).trans k
    exact congrArg Policy.base m
  · have m := State.setBridgeMute_untouched (((s.setBase s.baseLevel q).setRequested s.session.requested).setDemand
      s.session.demand) s.session.use.bridgeMute .lamp (by decide)
    exact (congrArg Lamp.demand m).trans demand.1
  · have m := State.setBridgeMute_untouched (((s.setBase s.baseLevel q).setRequested s.session.requested).setDemand
      s.session.demand) s.session.use.bridgeMute .lamp (by decide)
    exact (congrArg Lamp.requested m).trans (demand.2.trans level.2)
  · simp [State.handOver, State.setBridgeMute]
  · exact s.handOver_untouched q .session (by decide)

end Sys2Proof.Machine
end

