-- ==== Sys2Proof/Laws/Requests.lean ====
section
/-! SUPPORT. The taking of a request: an admitted one is its owner's answer, sent; and what counting an error does. -/

namespace Sys2Proof.Machine

open Sys2Proof.Config

theorem Command.code_below_0x80 (c : Command) : c.code.msb = false := by cases c <;> rfl

theorem responseCode_of_command (c : Command) : responseCode c.code = c.code + 0x80 := by
  simp [responseCode, c.code_below_0x80]

theorem commandOfCode_code (c : Command) : commandOfCode c.code = some c := by cases c <;> rfl

theorem commandOfCode_eq_none {code : Byte} : commandOfCode code = none ↔ ∀ c : Command, c.code ≠ code := by
  constructor
  · rintro h c rfl
    rw [commandOfCode_code] at h
    cases h
  · intro h
    simpa [commandOfCode] using fun c _ => h c

theorem settingOfCode_code (i : SettingId) : settingOfCode i.code = some i := by
  cases i <;> first | rfl | (rename_i l; cases l <;> rfl)

theorem settingOfCode_eq_none {id : Byte} : settingOfCode id = none ↔ ∀ i : SettingId, i.code ≠ id := by
  constructor
  · rintro h i rfl
    rw [settingOfCode_code] at h
    cases h
  · intro h
    simpa [settingOfCode] using fun i _ => h i

/-! ## The arrival of a frame -/

theorem State.byteArrives_enabled {s : State} (on : s.receiversOn = true) (l : Link) (b : Byte) :
    s.byteArrives l b = s.receive l b := by simp [State.byteArrives, on]

/-- R162: the bytes that complete a frame whose SYNC and LEN are collected, in a buffer with room for them. -/
theorem State.bytesArrive_completes (l : Link) (len : Byte) (x : LinkState) (more : List Byte) :
    ∀ (s : State) (rest : List Byte), s.receiversOn = true → (sync :: len :: more).length + rest.length = len.toNat + 3 →
      rest ≠ [] → (x.frames.map List.length).sum + (x.inHand.getD []).length + len.toNat + 3 ≤ bufferSize →
      (s.setLink l { x with collecting := some (sync :: len :: more), lastByteAt := s.now }).bytesArrive l rest
        = s.setLink l
            { x with
              collecting := none, lastByteAt := s.now, frames := x.frames ++ [(sync :: len :: more) ++ rest] } := by
  intro s rest
  induction rest generalizing more with
  | nil => intro _ _ h; exact absurd rfl h
  | cons b tail ih =>
    intro on total _ room
    have step : (s.setLink l { x with collecting := some (sync :: len :: more), lastByteAt := s.now }).byteArrives l b
        = s.setLink l
            (if tail = [] then
              { x with
                collecting := none, lastByteAt := s.now, frames := x.frames ++ [(sync :: len :: more) ++ [b]] }
             else { x with collecting := some (sync :: len :: (more ++ [b])), lastByteAt := s.now }) := by
      rw [State.byteArrives_enabled (by simpa using on)]
      have fits : ¬bufferSize ≤ LinkState.held
          { x with collecting := some (sync :: len :: more), lastByteAt := s.now } := by
        simp only [LinkState.held, Option.getD_some, List.length_cons] at total ⊢
        omega
      simp only [State.receive, State.link_setLink_same, fits, if_false, State.storeByte, State.setLink_setLink,
        State.setLink_now]
      have long : ¬(((sync :: len :: more) ++ [b]).length = 2 ∧ lenBad b = true) := by simp
      rw [if_neg long]
      cases tail with
      | nil =>
        have done : frameComplete ((sync :: len :: more) ++ [b]) = true := by
          simp only [List.length_cons, List.length_nil] at total
          simp [frameComplete, nth]
          omega
        simpa using fun h => absurd done (by simpa using h)
      | cons c tail =>
        have not : frameComplete ((sync :: len :: more) ++ [b]) = false := by
          simp only [List.length_cons] at total
          simp [frameComplete, nth]
          omega
        simpa using fun h => absurd not (by simpa using h)
    rw [State.bytesArrive, List.foldl_cons, step, ← State.bytesArrive]
    cases tail with
    | nil => simp [State.bytesArrive]
    | cons c tail =>
      have h := ih (more ++ [b]) on (by simp only [List.length_cons, List.length_append, List.length_nil] at total ⊢; omega)
        (by simp) room
      simpa using h

/-- R162: the frame of a request that arrives at a receiver in HUNT, in a buffer with room for it, is complete behind the
frames before it. -/
theorem State.bytesArrive_requestFrame {s : State} {l : Link} (c : Command) {payload : List Byte}
    (on : s.receiversOn = true) (hunt : (s.link l).collecting = none) (sendable : payload.length ≤ 59)
    (room : (s.link l).held + (requestFrame c payload).length ≤ bufferSize) :
    s.bytesArrive l (requestFrame c payload)
      = s.setLink l
          { s.link l with lastByteAt := s.now, frames := (s.link l).frames ++ [requestFrame c payload] } := by
  have len : (byte (payload.length + 1)).toNat = payload.length + 1 := by simp [byte]; omega
  have total : (requestFrame c payload).length = payload.length + 4 := by simp [requestFrame]
  simp only [LinkState.held, hunt, total, Option.getD_none, List.length_nil] at room
  have first : s.byteArrives l sync
      = s.setLink l { s.link l with collecting := some [sync], lastByteAt := s.now } := by
    rw [State.byteArrives_enabled on]
    have fits : ¬bufferSize ≤ (s.link l).held := by
      simp only [LinkState.held, hunt, Option.getD_none, List.length_nil]; omega
    simp [State.receive, hunt, fits]
  have second : (s.setLink l { s.link l with collecting := some [sync], lastByteAt := s.now }).byteArrives l
        (byte (payload.length + 1))
      = s.setLink l
          { s.link l with collecting := some [sync, byte (payload.length + 1)], lastByteAt := s.now } := by
    rw [State.byteArrives_enabled (by simpa using on)]
    have fits : ¬bufferSize ≤ LinkState.held { s.link l with collecting := some [sync], lastByteAt := s.now } := by
      show ¬bufferSize ≤ ((s.link l).frames.map List.length).sum + ((s.link l).inHand.getD []).length + 1
      omega
    have good : lenBad (byte (payload.length + 1)) = false := by
      have nonzero : byte (payload.length + 1) ≠ 0#8 := by
        intro h; rw [h] at len; simp at len
      simp only [lenBad, Bool.or_eq_false_iff, beq_eq_false_iff_ne, decide_eq_false_iff_not, len]
      exact ⟨nonzero, by omega⟩
    have more : frameComplete [sync, byte (payload.length + 1)] = false := by
      simp [frameComplete, nth, len]
    simp [State.receive, fits, State.storeByte, good, more]
  have rest := State.bytesArrive_completes l (byte (payload.length + 1)) (s.link l) [] s
    (c.code :: payload ++ [crc8 (byte (payload.length + 1) :: c.code :: payload)]) on
    (by simp [len]; omega) (by simp) (by rw [len]; omega)
  have split : requestFrame c payload = sync :: byte (payload.length + 1) ::
      (c.code :: payload ++ [crc8 (byte (payload.length + 1) :: c.code :: payload)]) := by simp [requestFrame]
  rw [State.bytesArrive, split, List.foldl_cons, first, List.foldl_cons, second, ← State.bytesArrive, rest]
  simp [hunt]

/-! ## The taking of a request -/

/-- R165: the frame of a request passes its CRC. -/
theorem frameValid_requestFrame (c : Command) (payload : List Byte) : frameValid (requestFrame c payload) = true := by
  have tail : (requestFrame c payload).tail.dropLast = byte (payload.length + 1) :: c.code :: payload :=
    List.dropLast_concat
  have last : (requestFrame c payload).getLast? = some (crc8 (byte (payload.length + 1) :: c.code :: payload)) :=
    List.getLast?_concat (l := sync :: byte (payload.length + 1) :: c.code :: payload)
  simp [frameValid, tail, last]

/-- R166, R167: a READY link whose oldest frame is a request's carries the request out with that frame in hand. -/
theorem State.takeFrame_requestFrame (s : State) (l : Link) (c : Command) (payload : List Byte) (rest : List (List Byte)) :
    s.takeFrame l (requestFrame c payload) rest
      = (s.setLink l { s.link l with frames := rest, inHand := some (requestFrame c payload) }).carryOut c l
          (lengthChecked (ownerOf c l payload)) := by
  have code : nth (requestFrame c payload) 2 0#8 = c.code := rfl
  have fields : ((requestFrame c payload).drop 3).dropLast = payload := List.dropLast_concat
  simp [State.takeFrame, frameValid_requestFrame, State.decodeFrame, code, fields, commandOfCode_code]

/-- A request whose frame finds room takes the turns of the frames before it and its own. -/
theorem State.takeRequest_arrives {s : State} {l : Link} (c : Command) {payload : List Byte}
    (on : s.receiversOn = true) (hunt : (s.link l).collecting = none) (sendable : payload.length ≤ 59)
    (room : (s.link l).held + (requestFrame c payload).length ≤ bufferSize) :
    s.takeRequest c l payload
      = State.takeTurns l ((s.link l).frames.length + 1)
          (s.setLink l
            { s.link l with lastByteAt := s.now, frames := (s.link l).frames ++ [requestFrame c payload] }) := by
  simp [State.takeRequest, State.bytesArrive_requestFrame c on hunt sendable room]

/-- R176: a HELD link takes no frame. -/
theorem State.takeTurns_held {l : Link} (n : Nat) {s : State} (held : (s.link l).answering = .held) :
    State.takeTurns l n s = s := by
  induction n with
  | zero => rfl
  | succ n ih => simpa [State.takeTurns, State.takeTurn, State.takeNext, held] using ih

/-- What a listening link does with a request row: the request is carried out with its frame in hand. -/
theorem State.takeRequest_listening {c : Command} {l : Link} {s : State} (h : Listening l s) {payload : List Byte}
    (sendable : payload.length ≤ 59) :
    s.takeRequest c l payload
      = (s.setLink l { s.link l with lastByteAt := s.now, inHand := some (requestFrame c payload) }).carryOut c l
          (lengthChecked (ownerOf c l payload)) := by
  obtain ⟨on, ready, hunt, none, free⟩ := h
  have room : (s.link l).held + (requestFrame c payload).length ≤ bufferSize := by
    simp [LinkState.held, none, free, hunt, requestFrame, bufferSize]; omega
  simp [State.takeRequest_arrives c on hunt sendable room, none, State.takeTurns, State.takeTurn, ready, State.takeNext,
    State.takeFrame_requestFrame]

/-- The request of an admitted row is carried out by its owner on the state that has heard the frame. -/
theorem State.takeRequest_admitted {c : Command} {l : Link} {s : State} (h : Admitted c l s) {payload : List Byte}
    (sendable : payload.length ≤ 59) {own : State → Answer} (fields : ownerOf c l payload = some own) :
    s.takeRequest c l payload
      = State.respond l c.code (own
          ((s.setLink l { s.link l with lastByteAt := s.now, inHand := some (requestFrame c payload) }).hear l)) := by
  obtain ⟨listening, accepted, permitted⟩ := h
  rw [State.takeRequest_listening listening sendable, fields]
  simp [State.carryOut, judged, judge, accepted, permitted, lengthChecked]

/-- An enquiry that every link accepts at every level is admitted on a listening link. -/
theorem admitted_of_enquiry {c : Command} {l : Link} {s : State} (listening : Listening l s)
    (accepted : c.acceptedOn l = true) (every : c.judgement = .everyLevel) : Admitted c l s :=
  ⟨listening, accepted, by simp [every, Judgement.permits]⟩

@[simp] theorem State.link_hear (s : State) (l k : Link) : (s.hear l).link k = s.link k := by cases l <;> rfl

/-- R173: what counting an error on a link leaves there. -/
theorem State.countError_counted (s : State) (l : Link) (c : ErrorCounter) :
    Counted c (s.link l) ((s.countError l c).link l) := by
  unfold State.countError Counted
  split
  · cases c <;> simp [State.raiseLink, LinkState.note, LinkState.setCount, LinkState.quiet]
  · simp

theorem State.countError_otherLinks (s : State) (l : Link) (c : ErrorCounter) : OtherLinksSame l s (s.countError l c) := by
  intro k h
  unfold State.countError
  split
  · rw [State.raiseLink, State.link_setLink_other _ _ _ _ h, State.link_setLink_other _ _ _ _ h]
  · rfl

/-- A write of one link and the counting of an error there touch that link and its LINK notice alone. -/
theorem State.setLink_untouched_of {s : State} {l : Link} {x : LinkState} (notices : x.notices = (s.link l).notices) :
    Untouched [.links, .attention] s (s.setLink l x) := by
  intro b hb
  cases b with
  | notice n =>
    intro k
    by_cases e : k = l
    · subst e; rw [State.link_setLink_same, notices]
    · rw [State.link_setLink_other _ _ _ _ e]
  | links => exact (hb (by simp)).elim
  | attention => exact (hb (by simp)).elim
  | _ => cases l <;> rfl

theorem State.countError_untouched (s : State) (l : Link) (c : ErrorCounter) :
    Untouched [.links, .notice .link, .attention] s (s.countError l c) := by
  unfold State.countError
  split
  · exact (State.setLink_untouched_of (by cases c <;> rfl)).andThen (State.raiseLink_untouched _ _) rfl rfl
  · exact .refl _ _

end Sys2Proof.Machine
end

