-- ==== Sys2Proof/Laws/Runner.lean ====
section
/-! SUPPORT. What a session request, a runner event and the two parts of a second event leave. -/

namespace Sys2Proof.Machine

open Sys2Proof.Config

/-- R143: what a new session record leaves with the neighbours. -/
theorem State.putSession_spec (s : State) (r : Session) :
    (s.putSession r).session = r ∧ (s.putSession r).policy.base = { s with session := r }.baseLevel
      ∧ (s.putSession r).lamp.demand = r.demand ∧ (s.putSession r).lamp.requested = r.requested
      ∧ (s.putSession r).switch.bridgeMute = r.use.bridgeMute
      ∧ (r.noticed ≠ s.session.noticed → Pending .session (s.putSession r))
      ∧ Untouched (.session :: .notice .session :: handOverBlocks) s (s.putSession r) := by
  have h := State.handOver_handed { s with session := r } false
  refine ⟨?_, ?_, ?_, ?_, ?_, ?_, ?_⟩
  · simp [State.putSession, State.noticeSession, h]
  · simp [State.putSession, State.noticeSession, h]
  · simp [State.putSession, State.noticeSession, h]
  · simp [State.putSession, State.noticeSession, h]
  · simp [State.putSession, State.noticeSession, h]
  · intro differs
    apply State.noticeSession_raises
    rw [h.2.2.2.2]
    exact differs
  · exact ((s.session_update_untouched r).andThen (State.handOver_untouched _ _)
      (C := .session :: .notice .session :: handOverBlocks) rfl rfl).andThen (State.raiseIf_untouched _ _ _) rfl rfl

/-! ## Routing keeps bridge mute -/

@[simp] theorem State.enterSeeking_bridgeMute (s : State) (r : Option Nat) :
    (s.enterSeeking r).switch.bridgeMute = s.switch.bridgeMute := by simp [State.enterSeeking]

@[simp] theorem State.routingAction_bridgeMute (s : State) (t : Nat) :
    (s.routingAction t).switch.bridgeMute = s.switch.bridgeMute := by
  simp [State.routingAction, State.installPreset]

@[simp] theorem State.enterMuting_bridgeMute (s : State) : s.enterMuting.switch.bridgeMute = s.switch.bridgeMute := by
  simp only [State.enterMuting]
  split <;> simp

theorem State.requestSwitch_bridgeMute (s : State) (t : Nat) (c : Requester) :
    (s.requestSwitch t c).1.switch.bridgeMute = s.switch.bridgeMute := by
  simp only [State.requestSwitch, State.requestSettled, State.requestInTransit]
  repeat' split
  all_goals first | rfl | simp

/-! ## Serving the source (R146) -/

/-- The session record but for what is owed. -/
def Session.owing (r : Session) (owed : Option Nat) : Session :=
  match r.use with
  | .booked b => { r with use := .booked { b with owed := owed } }
  | _ => r

@[simp] theorem Session.owing_noticed (r : Session) (owed : Option Nat) : (r.owing owed).noticed = r.noticed := by
  unfold Session.owing
  split
  · rename_i b h
    simp [Session.noticed, h]
  · rfl

theorem State.setOwed_session (s : State) (owed : Option Nat) : (s.setOwed owed).session = s.session.owing owed := by
  unfold State.setOwed Session.owing
  split <;> simp_all

theorem State.setOwed_switch (s : State) (owed : Option Nat) : (s.setOwed owed).switch = s.switch := by
  unfold State.setOwed
  split <;> rfl

/-- R146: serving the source changes the session record in what is owed alone, and keeps what was handed over. -/
theorem State.serveSource_spec (s : State) (started : Bool) :
    ((s.serveSource started).session = s.session ∨ ∃ owed, (s.serveSource started).session = s.session.owing owed)
      ∧ (s.serveSource started).policy = s.policy ∧ (s.serveSource started).lamp = s.lamp
      ∧ (s.serveSource started).switch.bridgeMute = s.switch.bridgeMute := by
  have h := s.serveSource_untouched started
  refine ⟨?_, h .policy (by decide), h .lamp (by decide), ?_⟩
  · have keep : ∀ p, (s.requestSwitch p .schedule).1.session = s.session := fun p =>
      s.requestSwitch_untouched p .schedule .session (by decide)
    simp only [State.serveSource, State.issueSource]
    repeat' split
    all_goals first
      | exact .inl rfl
      | exact .inr ⟨_, by rw [State.setOwed_session, keep]⟩
      | exact .inr ⟨_, State.setOwed_session _ _⟩
  · simp only [State.serveSource, State.issueSource]
    repeat' split
    all_goals first
      | rfl
      | rw [State.setOwed_switch, State.requestSwitch_bridgeMute]
      | rw [State.setOwed_switch]

/-- R142, R143: what a runner event leaves. -/
theorem State.runner_spec (s : State) (ev : RunnerEvent) :
    let r := (runRecord s ev).1
    ((s.runner ev).session = r ∨ ∃ owed, (s.runner ev).session = r.owing owed)
      ∧ (s.runner ev).policy.base = { s with session := r }.baseLevel ∧ (s.runner ev).lamp.demand = r.demand
      ∧ (s.runner ev).lamp.requested = r.requested ∧ (s.runner ev).switch.bridgeMute = r.use.bridgeMute
      ∧ (ev.quiet = false → r.noticed ≠ s.session.noticed → Pending .session (s.runner ev)) := by
  intro r
  have h := State.handOver_handed { s with session := r } ev.quiet
  have k := State.serveSource_spec ({ s with session := r }.handOver ev.quiet) (runRecord s ev).2
  refine ⟨?_, ?_, ?_, ?_, ?_, ?_⟩
  · rcases k.1 with e | ⟨owed, e⟩
    · exact .inl (by simpa [State.runner, State.noticeSession, h, r] using e)
    · exact .inr ⟨owed, by simpa [State.runner, State.noticeSession, h, r] using e⟩
  · simp [State.runner, State.noticeSession, k.2.1, h, r]
  · simp [State.runner, State.noticeSession, k.2.2.1, h, r]
  · simp [State.runner, State.noticeSession, k.2.2.1, h, r]
  · simp [State.runner, State.noticeSession, k.2.2.2, h, r]
  · intro loud differs
    simp only [State.runner, loud] at k h ⊢
    apply State.noticeSession_raises
    rcases k.1 with e | ⟨owed, e⟩
    · rw [e, h.2.2.2.2]
      exact differs
    · rw [e, h.2.2.2.2, Session.owing_noticed]
      exact differs

/-! ## The account's part of a second event -/

theorem State.chargeSecond_untouched (s : State) : Untouched burnBlocks s s.chargeSecond := by
  unfold State.chargeSecond
  split
  · exact (((s.account_update_untouched _).andThen (State.deriveStatus_untouched _) (C := burnBlocks) rfl rfl).andThen
      (State.handAccount_untouched _ _) (C := burnBlocks) rfl rfl).andThen (State.checkpointIfDue_untouched _) rfl rfl
  · exact .refl _ _

theorem State.accountSecond_untouched (s : State) : Untouched burnBlocks s s.accountSecond :=
  s.chargeSecond_untouched.andThen (State.countWarm_untouched _) rfl rfl

theorem State.chargeSecond_keeps (s : State) : KeepsNotices s s.chargeSecond := by
  unfold State.chargeSecond
  split
  · exact ((KeepsNotices.trans (t := { s with account := _ }) (.ofLinks fun l => by cases l <;> rfl)
      (State.deriveStatus_keeps _)).trans (State.handAccount_keeps _ _)).trans (State.checkpointIfDue_keeps _)
  · exact .refl _

theorem State.accountSecond_keeps (s : State) : KeepsNotices s s.accountSecond :=
  s.chargeSecond_keeps.trans (.ofLinks fun l => by cases l <;> rfl)

/-- A lamp in no held strike is not started by a fresh look at the gate. -/
theorem State.recheckStrike_idle (s : State) (h : ∀ b, s.lamp.state = .off b → b = .none) : s.recheckStrike = s := by
  unfold State.recheckStrike
  split
  · rfl
  · rename_i b hb hs
    exact (hb (h b hs)).elim
  · rfl

/-- R3: a charged second keeps the lamp state and the orders of the session controller. -/
theorem State.chargeSecond_lamp (s : State) :
    s.chargeSecond.lamp = { s.lamp with effective := s.chargeSecond.lamp.effective } := by
  unfold State.chargeSecond
  split
  · rename_i h
    simp only [State.checkpointIfDue]
    have key : ∀ t : State, t.lamp = s.lamp → ∀ old,
        (t.handAccount old).lamp = { s.lamp with effective := (t.handAccount old).lamp.effective } := by
      intro t e old
      unfold State.handAccount
      split
      · rw [e]
      · rw [State.recheckStrike_idle]
        · simp [e]
        · intro b hb
          simp [e] at hb
          simp [hb, LampState.shining] at h
    have one := key (State.deriveStatus { s with account := s.account.chargeSecond (secondWeight s.lamp.state s.pins.level) })
      (by simp) s.account
    split
    · simpa using one
    · exact one
  · rfl

end Sys2Proof.Machine
end

