-- ==== Sys2Proof/Tests/Slice0.lean ====
section
/-! SUPPORT. Small tests against the spec's worked examples, the WellFormed smoke test, and a witness for the hypotheses of
each statement. -/

namespace Sys2Proof.Tests

open Sys2Proof.Machine Sys2Proof.Config

/-! ## States -/

/-- A link whose answering side is READY. -/
def ready (rate : Nat) : LinkState := { rate := rate, answering := .ready }

/-- Start-up has completed; the clock stands on Monday 2024-01-01. -/
def up : State :=
  { State.reset with
    startUpDone := true, receiversOn := true, engine := ready 57600, lectern := ready 19200, campus := ready 19200
    clock := { date := ⟨2024, 1, 1⟩, hour := 10, unset := false, backupLost := false } }

/-- The same room at another effective level, by a standing override. -/
def upAt (level : Level) : State := { up with policy := { override := some ⟨level, none⟩, effective := level } }

/-- The same room at SERVICE with another use, demand on. -/
def using' (use : RoomUse) : State := { upAt .service with session := { use := use, demand := true } }

/-- The same room at SERVICE with the lamp in another state. -/
def lampIn (state : LampState) : State := { upAt .service with lamp := { state := state, temp := .normal, effective := .normal } }

/-- The same room at SERVICE with plate 3 PRESENT and the sequencer in another state on plate 2. -/
def switchIn (state : SwitchState) : State :=
  { upAt .service with
    switch := { state := state, routed := 2, target := 2, edge := some .rising, reference := some 0, ring := [16667], streak := 1 }
    scanner := { scannerAfterReset with
      plates := (scannerAfterReset.plates.set 2 { state := .present }).set 1 { state := .present } } }

/-- A weekly booking on Mondays, 09:00 to 11:00. -/
def monday : Entry := ⟨7, .weekly 1 none none ⟨3, .present, .normal⟩, 540, 660, []⟩

/-- A booking of the first of January 2024, 12:00 to 13:00. -/
def later : Entry := ⟨9, .dated ⟨2024, 1, 1⟩ ⟨0, .openRoom, .eco⟩, 720, 780, []⟩

/-- The room in the middle of its Monday booking, with plate 3 shown by a burning lamp. -/
def lesson : State :=
  { up with
    table := [monday], finder := found [monday] up.clock
    session := {
      use := .booked ⟨7, ⟨2024, 1, 1⟩, true, 8766 * 1440 + 540, 8766 * 1440 + 660, [], none⟩, demand := true, requested := .normal }
    policy := { base := .present, effective := .present }
    lamp := { state := .lit, demand := true, requested := .normal, temp := .normal, effective := .normal }
    switch := { state := .showing, routed := 3, target := 3, edge := some .rising, reference := some 0, ring := [16667], streak := 4 }
    scanner := { scannerAfterReset with plates := scannerAfterReset.plates.set 2 { state := .present, missStreak := 2 } }
    pins := { lampEn := true, level := .normal, fan := true, srcSel := 3, mute := false, lit := true }
    engine := { rate := 57600, answering := .ready }
    lectern := { rate := 19200, answering := .ready, attention := true }
    campus := { rate := 19200, answering := .ready, attention := true }
    pending := [.secondEvent true true] }

/-- The last second of a minute of the first of January 2024. -/
def lastSecond (s : State) (hour minute : Nat) : State :=
  { s with clock := { s.clock with hour := hour, minute := minute, second := 59 } }

/-! ## Well-formedness: the one check there is, at its boundary -/

def rawMonday (label : List Byte) : RawEntry :=
  ⟨7, 0, 1, ⟨0, 0, 0⟩, ⟨0, 0, 0⟩, ⟨0, 0, 0⟩, 540, 660, 3, 2, 1, label⟩

theorem test_label_of_36_is_well_formed : (Instr.entryPut .campus (rawMonday (List.replicate 36 65))).wellFormed = true := by decide
theorem test_label_of_37_is_refused : (Instr.entryPut .campus (rawMonday (List.replicate 37 65))).wellFormed = false := by decide

/-! ## Worked examples of the spec -/

/-- R165: the CRC-8 (polynomial 0x2F, initial 0xFF) of the usual check string; the AUTOSAR check value 0xDF without its final
exclusive-or. -/
theorem test_crc8_check : crc8 [0x31, 0x32, 0x33, 0x34, 0x35, 0x36, 0x37, 0x38, 0x39] = 0x20 := by decide +kernel
/-- R177: the CRC-16 (polynomial 0x1021, initial 0xFFFF) of the same string. -/
theorem test_crc16_check : crc16 [0x31, 0x32, 0x33, 0x34, 0x35, 0x36, 0x37, 0x38, 0x39] = 0x29B1 := by decide +kernel
/-- R122: the two worked dates are Mondays. -/
theorem test_mondays : (⟨2024, 1, 1⟩ : Date).weekday = 0 ∧ (⟨2027, 3, 15⟩ : Date).weekday = 0
    ∧ (⟨2000, 1, 1⟩ : Date).weekday = 5 := by decide
/-- R124: 2026-02-29 is refused, 2028-02-29 is taken. -/
theorem test_leap_days : (⟨2026, 2, 29⟩ : Date).valid = false ∧ (⟨2028, 2, 29⟩ : Date).valid = true := by decide
/-- R92: the table of tilt derivations, and the one at gain 20. -/
theorem test_tilt_table :
    let v := fun (ring : List Int) (gain : Nat) => vAutoOf (tiltAverage ring 4) gain
    v [123] 16 = 12 ∧ v [123, 131] 16 = 13 ∧ v [123, 131, 118, 126] 16 = 13 ∧ v [-57, -62] 16 = -6 ∧ v [-125] 16 = -13
      ∧ v [-57, -62] 20 = -8 := by decide
/-- R96: the largest corners, v upward and h to the right. -/
theorem test_largest_corners : (cornersOf 40 30 4096 2400).tl = ⟨640, 0⟩ ∧ (cornersOf 40 30 4096 2400).tr = ⟨-640, 281⟩
    ∧ (cornersOf 40 30 4096 2400).br = ⟨0, -281⟩ ∧ (cornersOf 40 30 4096 2400).bl = ⟨0, 0⟩ := by decide
/-- R37: the table of effective levels. -/
theorem test_effective_levels : effectiveLevel .boost .normal .good = .boost ∧ effectiveLevel .boost .normal .warn = .normal
    ∧ effectiveLevel .boost .warm .expired = .eco ∧ effectiveLevel .eco .normal .good = .eco
    ∧ effectiveLevel .normal .unknown .good = .eco := by decide
/-- R2: with M at or above L the account is WARN from hour 0; at L it is EXPIRED. -/
theorem test_statuses : statusOf 0 100 2000 = .warn ∧ statusOf 2799 3000 200 = .good ∧ statusOf 2800 3000 200 = .warn
    ∧ statusOf 3000 3000 200 = .expired := by decide
/-- R129: intervals that meet end to start do not conflict; those that intersect on a shared weekday do. -/
theorem test_meeting_is_no_conflict :
    (⟨1, .weekly 1 none none ⟨0, .present, .normal⟩, 540, 630, []⟩ : Entry).conflicts ⟨2, .weekly 1 none none ⟨0, .present, .normal⟩, 630, 720, []⟩ = false
    ∧ (⟨1, .weekly 1 none none ⟨0, .present, .normal⟩, 540, 631, []⟩ : Entry).conflicts ⟨2, .weekly 3 none none ⟨0, .present, .normal⟩, 630, 720, []⟩ = true := by
  decide
/-- R133: the Monday booking is current at 10:00 on a Monday. -/
theorem test_monday_is_current : (found [monday] up.clock).current = some ⟨7, ⟨2024, 1, 1⟩, 540, 660⟩ := by decide
/-- R149: with strike cost 15 and bridge max 60, a tie at g = 24 bridges and g = 25 does not; g = 3 is not feasible otherwise. -/
theorem test_bridging :
    bridges {} { next := some ⟨1, ⟨2024, 1, 1⟩, 0, 10⟩, lead := 24 } .lit = true
    ∧ bridges {} { next := some ⟨1, ⟨2024, 1, 1⟩, 0, 10⟩, lead := 25 } .lit = false
    ∧ bridges { strikeCost := 0 } { next := some ⟨1, ⟨2024, 1, 1⟩, 0, 10⟩, lead := 3 } .lit = true
    ∧ bridges { strikeCost := 0 } { next := some ⟨1, ⟨2024, 1, 1⟩, 0, 10⟩, lead := 4 } .lit = false := by decide
/-- R25: a rise 1,730 ms after IGNITE gives a time-to-light of 86. -/
theorem test_time_to_light :
    (match exec .litConfirmed { lampIn (.striking .attempt) with
        lamp := { state := .striking .attempt, timerLength := 4000000, litHold := some 1730000 } } with
      | .next t => t.lamp.timeToLight
      | _ => 0) = 86 := by decide
/-- R78: with tolerance 3 and an average of 16,683 us, 195 us away is in step and 196 us is not. -/
theorem test_in_step : inStep (16683 + 195) 16683 3 = true ∧ inStep (16683 - 196) 16683 3 = false := by decide

/-- A command's next state. -/
def after (c : Instr) (s : State) : State :=
  match exec c s with
  | .next t => t
  | _ => s

/-- R184, R176: start-up from reset releases the links, finds all four records bad and leaves RESTARTED pending. -/
theorem test_start_up_from_reset :
    let t := after .startUpComplete State.reset
    t.engine.answering = .ready ∧ t.store.foundBad = ⟨true, true, true, true⟩ ∧ t.campus.notices.getLsbD 0 = true
      ∧ t.account.record.unverified = true ∧ t.lamp.state = .cooling false := by decide +kernel
/-- R64, R69: from DARK a PRESENT plate is routed at once, with origin CAMPUS, and answered ACCEPTED. -/
theorem test_select_from_dark :
    let t := after (.sourceSelect .campus 3) (switchIn .dark)
    t.switch.state = .masking ∧ t.pins.srcSel = 3 ∧ t.switch.origin = some (.by .campus) ∧ t.switch.timerEnd = 120000
      ∧ t.campus.response.take 4 = [0xC3, 2, 0xA0, 0x01] := by decide +kernel
/-- R5: a cold attempt at strike cost 15 is charged 14,400 units, a hot one 28,800. -/
theorem test_strike_charge :
    (after .retryWaitExpiry { lampIn (.striking .retryWait) with account := { warmCount := 600 } }).account.record.wear = 14400
      ∧ (after .retryWaitExpiry { lampIn (.striking .retryWait) with account := { warmCount := 599 } }).account.record.wear = 28800 := by
  decide +kernel
/-- R123: the last second of 2099 is followed by 2000-01-01 with CLOCK_UNSET set. -/
theorem test_end_of_range :
    let t := after (.secondEvent true true) { up with clock := ⟨⟨2099, 12, 31⟩, 23, 59, 59, false, 0, false⟩ }
    t.clock.date = ⟨2000, 1, 1⟩ ∧ t.clock.unset = true ∧ t.clock.hour = 0 := by decide +kernel

/-! ## Witnesses for the hypotheses of the statements, in their order -/

theorem witness_front_command : lesson.pending = .secondEvent true true :: [] ∧ up.pending = [] := by decide

theorem witness_lesson_steps : ∃ t, step lesson = .next t := ⟨_, rfl⟩
theorem witness_lesson_lines : lesson.linesFollow := by intro l; cases l <;> decide
theorem witness_lesson_picture : lesson.pictureFollows := by unfold State.pictureFollows; decide
theorem witness_lesson_lamp : lesson.lampFollows := by unfold State.lampFollows; decide
theorem witness_lesson_queue : lesson.queueDistinct := by unfold State.queueDistinct; decide
theorem witness_lesson_buffers : lesson.buffersFit := by intro l; cases l <;> decide
theorem witness_lesson_table : lesson.tableGood := by unfold State.tableGood; decide
theorem witness_lesson_geometry : lesson.geometryFollows := by
  unfold State.geometryFollows Preset.inRange; decide
theorem witness_lesson_handed_over : lesson.handedOver := by unfold State.handedOver; decide
theorem witness_lesson_plates : lesson.platesHeard := by unfold State.platesHeard; decide
theorem witness_lesson_account : lesson.accountFollows :=
  ⟨rfl, by unfold AccountRecord.inRange; decide, by decide, by decide, by decide, by decide, fun _ _ h => (by cases h),
    fun _ _ _ h => by cases h⟩
theorem witness_lesson_timetable : lesson.timetableFollows :=
  ⟨fun _ => rfl, fun b h _ => by cases h; decide, fun h => by cases h⟩
/-- A walk-up of the greatest length, on the last minute its end may have. -/
def longWalkup : State :=
  { up with session := { use := .walkup (8766 * 1440 + 600) (8766 * 1440 + 840) false, demand := true } }
theorem witness_walkup_bounded : longWalkup.endsBounded := by
  refine ⟨by unfold State.tableGood; decide, by unfold Clock.valid; decide, by decide, by decide, fun _ => by decide +kernel,
    fun h => (by cases h), fun e h => ?_⟩
  rcases h with ⟨a, w, h⟩ | ⟨a, h⟩ <;> cases h
  exact ⟨by decide, fun x hx => by cases hx⟩
theorem witness_walkup_steps : ∃ t, step longWalkup = .next t := ⟨_, rfl⟩

theorem listening_up (l : Link) : Listening l up := by cases l <;> exact ⟨rfl, rfl, rfl, rfl, rfl⟩

theorem witness_frame_taken :
    let i := Instr.entryPut .campus (rawMonday (List.replicate 36 65))
    let s := up.setLink .campus { up.campus with frames := [requestFrame .entryPut (payloadOf i)] }
    requestOf i = some (.campus, .entryPut) ∧ i.wellFormed = true ∧ (s.link .campus).answering = .ready
      ∧ s.receiversOn = true ∧ (s.link .campus).inHand = none
      ∧ (s.link .campus).frames = requestFrame .entryPut (payloadOf i) :: [] := by decide +kernel

theorem witness_unusable_frames :
    ([0xC3, 1, 1, 0].getLast? ≠ some (crc8 ([0xC3, 1, 1, 0] : List Byte).tail.dropLast)) ∧ (up.link .campus).frames = []
      ∧ (State.reset.link .campus).answering ≠ .ready ∧ (0x7F : Byte).toNat < 128
      ∧ (∀ c : Command, c.code ≠ 0x7F) ∧ payloadFits .roomRead [0] = false ∧ Permitted .roomRead .campus up := by
  refine ⟨by decide +kernel, by decide, by decide, by decide, fun c => by cases c <;> decide, by decide, ⟨rfl, rfl⟩⟩

theorem witness_refused_requests :
    Listening .lectern up ∧ Command.tiltReport.acceptedOn .lectern = false
      ∧ Command.lampLevel.acceptedOn .lectern = true
      ∧ Command.lampLevel.judgement.permits (requesterOf .lectern) up.policy.effective = false
      ∧ requestOf (.tiltReport .lectern 0) = some (.lectern, .tiltReport)
      ∧ requestOf (.lampLevel .lectern 0) = some (.lectern, .lampLevel) :=
  ⟨listening_up _, rfl, rfl, rfl, rfl, rfl⟩

/-- The campus link is sending the answer to the frame in hand. -/
def sending (rateDue : Bool) : State :=
  { up with
    campus := { rate := 19200, answering := .sending, sendEnd := 5, rateDue := rateDue, inHand := some (requestFrame .roomRead []) } }

/-- The campus link is READY with a frame waiting. -/
def waitingOne (f : List Byte) : State := { up with campus := { ready 19200 with frames := [f] } }

theorem witness_waiting_requests :
    (State.reset.link .campus).answering = .held ∧ { State.reset with receiversOn := true }.receiversOn = true
      ∧ ((sending true).link .campus).held + (requestFrame .roomRead []).length ≤ 64
      ∧ ((sending true).link .campus).answering = .sending ∧ ((sending true).link .campus).rateDue = true
      ∧ ((sending false).link .campus).rateDue = false ∧ ((sending false).link .campus).frames = []
      ∧ (sending true).restartArmed = false ∧ { sending true with restartArmed := true }.restartArmed = true
      ∧ ((waitingOne []).link .campus).frames = [[]]
      ∧ requestOf (.roomRead .campus) = some (.campus, .roomRead) := by decide

/-- A request right behind an answer under way is taken after it; one that a due rate empties out is lost; one on a HELD link
waits (R161, R166, R176). -/
theorem test_requests_wait :
    ((after (.noticeRead .campus) (sending false)).link .campus).answering = .sending
      ∧ ((after (.noticeRead .campus) (sending true)).link .campus).answering = .ready
      ∧ (after (.lampRead .campus) { State.reset with receiversOn := true }).campus.frames = [requestFrame .lampRead []] := by
  decide +kernel
/-- A request waits for the frame before it: RESTART, taken first, is followed by the reset (R166, R175). -/
theorem test_restart_ahead :
    let t := after (.clockRead .campus) { waitingOne (requestFrame .restart []) with policy := { effective := .service } }
    t.restartArmed = true ∧ t.campus.response.length = 5 ∧ t.campus.frames = [requestFrame .clockRead []] := by decide +kernel

/-- The campus link is collecting bytes, with 63 in its buffer or with it full. -/
def collecting (y : List Byte) (waiting : Nat) : State :=
  { up with campus := { rate := 19200, answering := .ready, collecting := some y, frames := [List.replicate waiting 0] } }

theorem witness_receiver :
    up.receiversOn = true ∧ (up.link .campus).collecting = none ∧ (up.link .campus).held < 64 ∧ (0 : Byte) ≠ 0xC3
      ∧ ((collecting [0xC3] 62).link .campus).held = 63 ∧ ((collecting [0xC3] 63).link .campus).held = 64
      ∧ 60 < (61 : Byte).toNat ∧ ((60 : Byte) ≠ 0 ∧ (60 : Byte).toNat ≤ 60)
      ∧ [0xC3, 1, 2].length + 1 = (nth [0xC3, (1 : Byte), 2] 1 0).toNat + 3
      ∧ [0xC3, 2, 2].length + 1 ≠ (nth [0xC3, (2 : Byte), 2] 1 0).toNat + 3
      ∧ State.reset.receiversOn = false := by decide
/-- Each value of the free value of log entry 14 is met by one of its two clauses. -/
theorem witness_receivers_free_value : receiversEnabledBy 0 = false ∨ receiversEnabledBy 0 = true := by
  cases receiversEnabledBy 0 <;> decide

theorem witness_link_timers :
    ((collecting [0xC3] 0).link .campus).collecting = some [0xC3] ∧ (up.link .campus).collecting = none
      ∧ (up.link .campus).answering ≠ .sending ∧ ((sending false).link .campus).answering = .sending ∧ (sending false).restartArmed = false
      ∧ { sending false with restartArmed := true }.restartArmed = true
      ∧ { up with silence := { since := some 3 } }.silence.since = some 3 ∧ up.silence.since = none
      ∧ up.lamp.temp = .unknown ∧ (lampIn .lit).lamp.temp ≠ .unknown := by decide

/-- A SETTINGS write in flight. -/
def writing : State :=
  { up with store := { write := some ⟨.settings, (Record.settings (Settings.values {})).sealed, false, 40000⟩, queue := [.account] } }

theorem witness_reset_commands : (.resetPin .bad : Instr) = .resetPin .bad ∧ up.store.write = none
    ∧ writing.store.write = some ⟨.settings, (Record.settings (Settings.values {})).sealed, false, 40000⟩ := ⟨rfl, rfl, rfl⟩

theorem sealed_good (r : Record) : r.sealed.good = some r := by simp [Record.sealed, StoreSlot.good]

/-- The room before a reset, with good slots of every kind. -/
def stored (e : List Entry) : State :=
  { up with store := { slots := ⟨(Record.account {}).sealed, (Record.settings (Settings.values {})).sealed, (Record.schedule (e.map Entry.raw)).sealed,
      (Record.presets (blankPresets.map Preset.stored)).sealed⟩ } }

/-- Any reset leaves a state in which start-up is still to come. -/
theorem witness_starting_up_at_reset (s : State) (cause : Cause) (cut : SlotLeft) : StartingUp (s.afterReset cause cut) :=
  ⟨rfl, fun l => by cases l <;> rfl, s, cause, cut, rfl⟩
/-- The same room some seconds after its reset, the campus link holding a frame and the first byte of another. -/
theorem witness_starting_up_later :
    let r := (stored [monday]).afterReset .resetPin .bad
    StartingUp { r with
      now := 3000000, receiversOn := true, clock := { r.clock with second := 3 }, account := { r.account with warmCount := 3 }
      campus := { r.campus with frames := [requestFrame .roomRead []], collecting := some [0xC3] } } :=
  ⟨rfl, fun l => by cases l <;> rfl, stored [monday], .resetPin, .bad, rfl⟩
theorem witness_start_up_good :
    let s := (stored [monday]).afterReset .resetPin .bad
    s.store.slots.settings.good = some (.settings (Settings.values {})) ∧ s.store.slots.account.good = some (.account {})
      ∧ s.store.slots.schedule.good = some (.schedule [monday.raw]) ∧ entriesOfRaw [monday.raw] = some [monday]
      ∧ tableTaken [monday] = true ∧ s.store.slots.presets.good = some (.presets (blankPresets.map Preset.stored))
      ∧ (blankPresets.map Preset.stored).length = 13 ∧ (∀ x ∈ blankPresets, x.inRange) ∧ s.clock.backupLost = false := by
  refine ⟨sealed_good _, sealed_good _, sealed_good _, by decide, by decide, sealed_good _, by decide, ?_, by decide⟩
  unfold Preset.inRange; decide
/-- R89: a mode code other than MANUAL or AUTO is taken as MANUAL, and the figures are clamped. -/
theorem test_stored_preset : (⟨7, 99, -99, 3⟩ : StoredPreset).taken = ⟨.manual, 40, -30, 3⟩ ∧
    (⟨1, 0, 0, 11⟩ : StoredPreset).taken = ⟨.auto, 0, 0, 10⟩ := by decide
theorem witness_start_up_bad :
    let s := State.reset.afterReset .powerOn .bad
    s.store.slots.settings.good = none ∧ s.store.slots.account.good = none ∧ s.store.slots.schedule.good = none
      ∧ s.store.slots.presets.good = none ∧ s.clock.backupLost = true ∧ tableTaken [monday, monday] = false
      ∧ up.startUpDone = true := by decide
theorem witness_start_up_sense : ({ up with supply := { senseLow := true } }.afterReset .resetPin .bad).supply.senseLow = true := by
  decide

/-- Right after a reset at 10:00 on the Monday, start-up finds the booking current; at 11:58 it pre-warms the one at 12:00. -/
theorem witness_start_up_sessions :
    let s := (stored [monday, later]).afterReset .resetPin .bad
    let s' := (lastSecond (stored [monday, later]) 11 58).afterReset .resetPin .bad
    (found [monday, later] s.clock).current = some ⟨7, ⟨2024, 1, 1⟩, 540, 660⟩
      ∧ entryOf [monday, later] 7 = some monday ∧ monday.terms = some ⟨3, .present, .normal⟩
      ∧ (found [monday, later] s'.clock).current = none
      ∧ (found [monday, later] s'.clock).next = some ⟨9, ⟨2024, 1, 1⟩, 720, 780⟩
      ∧ (found [monday, later] s'.clock).lead ≤ ({} : Settings).lead ∧ entryOf [monday, later] 9 = some later := by decide
theorem witness_supply_and_store :
    up.startUpDone = true ∧ up.supply.warning = false ∧ writing.store.write.isSome = true ∧ up.store.write = none
      ∧ State.reset.startUpDone = false ∧ { up with supply := { warning := true } }.supply.warning = true
      ∧ writing.store.queue = .account :: [] ∧ up.store.queue = [] ∧ Kind.settings ∉ writing.store.queue := by decide
theorem witness_failed_verify : (Record.settings (Settings.values {})).sealed ≠ .bad := by simp [Record.sealed]

theorem witness_room_read :
    lesson.session.use = .booked ⟨7, ⟨2024, 1, 1⟩, true, 8766 * 1440 + 540, 8766 * 1440 + 660, [], none⟩
      ∧ Listening .campus lesson ∧ longWalkup.session.use.start = some (8766 * 1440 + 600)
      ∧ longWalkup.session.use.stop = some (8766 * 1440 + 840) := by unfold Listening; decide
theorem witness_source_and_geometry_reads :
    up.switch.origin = none ∧ up.switch.ring = [] ∧ lesson.switch.state = .showing ∧ up.switch.state = .dark
      ∧ up.geometry.presets[12]? = some ⟨.manual, 0, 0, 0⟩ ∧ (12 : Byte).toNat ≤ 12 ∧ 12 < (13 : Byte).toNat := by decide
theorem witness_plate_reads :
    lesson.scanner.plates[2]? = some { state := .present, missStreak := 2 }
      ∧ lesson.scanner.badReplies[11]? = some 0 ∧ lesson.scanner.misses[11]? = some 0 := by decide
theorem witness_occurrence_read :
    lesson.finder.current = some ⟨7, ⟨2024, 1, 1⟩, 540, 660⟩ ∧ entryOf lesson.table 7 = some monday ∧ up.finder.current = none := by
  decide
theorem witness_entry_read : entryOf lesson.table (7 : Byte).toNat = some monday ∧ monday.valid = true
    ∧ ∀ e ∈ lesson.table, e.id ≠ (8 : Byte).toNat := by decide
theorem witness_setting_identifiers : SettingId.code (.mask .campus) = 0x35 ∧ ∀ i : SettingId, i.code ≠ 0x36 := by
  refine ⟨rfl, fun i => ?_⟩
  cases i with
  | rate l => cases l <;> decide
  | mask l => cases l <;> decide
  | _ => decide

/-- At SERVICE the campus link is admitted for everything but the engine's own two commands. -/
theorem witness_admitted (c : Command) (h : c ≠ .tiltReport) (h' : c ≠ .engineReport) : Admitted c .campus (upAt .service) := by
  unfold Admitted Listening Permitted; revert h h'; cases c <;> decide
theorem witness_admitted_engine : Admitted .tiltReport .engine up ∧ Admitted .engineReport .engine up := by
  unfold Admitted Listening Permitted; decide

theorem witness_session_start :
    (upAt .service).session.use = .none
      ∧ { upAt .service with settings := { walkupLength := 4 } }.settings.walkupLength < 5
      ∧ { upAt .exam with account := { record := { grace := 0 }, status := .expired } }.account.status = .expired := by decide
/-- LAMP_EXPIRED is answered at a level other than SERVICE, as here at CLOSED. -/
theorem witness_session_denied :
    let s := { up with account := { record := { grace := 0 }, status := .expired } }
    Admitted .sessionStart .campus s ∧ s.session.use = .none ∧ s.finder.next = none ∧ s.account.status = .expired
      ∧ s.policy.effective ≠ .service ∧ s.account.record.grace = 0 := by
  unfold Admitted Listening Permitted; decide

/-- What demand finds as it is turned on: a HOT lamp, a cool one without permission and with it, and COOLING. -/
theorem witness_switched_on :
    let cool := { lampIn (.off .none) with policy := { effective := .openRoom } }
    let spent := { cool with account := { record := { grace := 0 }, status := .expired } }
    cool.lamp.demand = false ∧ cool.lamp.temp ≠ .hot ∧ Permission cool.account .openRoom ∧ ¬Permission spent.account .openRoom
      ∧ { cool.lamp with temp := .hot }.temp = .hot ∧ (lampIn (.cooling false)).lamp.state = .cooling false := by
  unfold Permission; decide
/-- A booking in each of its phases. -/
def booking (running : Bool) : Booking := ⟨7, ⟨2024, 1, 1⟩, running, 8766 * 1440 + 540, 8766 * 1440 + 660, [], none⟩

theorem witness_session_kinds :
    (using' (.booked (booking true))).session.demand = true
      ∧ { upAt .service with session := { use := .booked (booking true) } }.session.demand = false
      ∧ (using' (.walkup 0 9 false)).session.use = .walkup 0 9 false ∧ (using' (.bridge 0 9)).session.use = .bridge 0 9
      ∧ (2 : Byte).toNat ≤ 2 ∧ 2 < (3 : Byte).toNat ∧ (2 : Byte) = byte LampLevel.boost.code
      ∧ (using' (.bridge 0 9)).session.requested ≠ .boost ∧ (using' (.bridge 0 9)).session.requested = .normal := by decide
theorem witness_session_admitted (use : RoomUse) : Admitted .sessionEnd .campus (using' use)
    ∧ Admitted .sessionStart .campus (using' use) ∧ Admitted .sessionExtend .campus (using' use)
    ∧ Admitted .lampLevel .campus (using' use) :=
  have h : Listening .campus (using' use) := ⟨rfl, rfl, rfl, rfl, rfl⟩
  ⟨⟨h, rfl, rfl⟩, ⟨h, rfl, rfl⟩, ⟨h, rfl, rfl⟩, ⟨h, rfl, rfl⟩⟩

/-- What demand finds as it is turned off: a HOT lamp in each of its states, whose held strike no level lets go, and a held
strike of a lamp no longer HOT, which a change of level lets go. -/
theorem witness_switched_off (x : LampState) :
    let s := { using' (.walkup 0 9 false) with lamp := { state := x, demand := true, temp := .hot } }
    let held := { up with
      policy := { base := .openRoom, effective := .openRoom }
      lamp := { state := .off .thermal, demand := true, temp := .warm } }
    Admitted .sessionEnd .campus s ∧ s.lamp.demand = true ∧ s.lamp.state = x ∧ s.lamp.temp = .hot
      ∧ held.settings.idleLevel ≠ held.policy.effective ∧ held.lamp.temp ≠ .hot ∧ Permission held.account held.settings.idleLevel :=
  ⟨⟨⟨rfl, rfl, rfl, rfl, rfl⟩, rfl, rfl⟩, rfl, rfl, rfl, by decide, by decide, Or.inl (by decide)⟩

theorem witness_lamp_admitted (x : LampState) : Admitted .lampReplaced .campus (lampIn x)
    ∧ Admitted .accountSet .campus (lampIn x) ∧ Admitted .engineReport .engine (lampIn x) :=
  have h : ∀ l, Listening l (lampIn x) := fun l => by cases l <;> exact ⟨rfl, rfl, rfl, rfl, rfl⟩
  ⟨⟨h _, rfl, rfl⟩, ⟨h _, rfl, rfl⟩, ⟨h _, rfl, rfl⟩⟩
theorem witness_service_operations :
    (∀ b p, (lampIn .failed).lamp.state ≠ .off b ∧ (lampIn .failed).lamp.state ≠ .cooling p)
      ∧ (lampIn (.off .none)).lamp.state = .off .none ∧ (lampIn (.cooling true)).lamp.state = .cooling true := by
  refine ⟨fun b p => ⟨?_, ?_⟩, rfl, rfl⟩ <;> intro h <;> cases h
/-- A strike held for the account, with the account EXPIRED and without grace, and one held for the heat. -/
def heldFor (b : Blocked) (temp : TempState) : State :=
  { lampIn (.off b) with
    account := { record := { wear := 172800000, grace := 0 }, status := .expired }
    lamp := { state := .off b, demand := true, temp := temp } }
theorem witness_held_strikes :
    (heldFor .account .normal).lamp.state = .off .account ∧ (heldFor .account .normal).lamp.temp ≠ .hot
      ∧ (heldFor .account .hot).lamp.temp = .hot
      ∧ (heldFor .thermal .hot).lamp.state = .off .thermal
      ∧ statusOf (0 / 57600) 3000 200 ≠ (heldFor .account .normal).account.status
      ∧ statusOf (172800000 / 57600) 3000 200 = (heldFor .account .normal).account.status := by decide
/-- R12, R33: LAMP_REPLACED lets a strike held for the account go. -/
theorem test_replaced_lamp_strikes :
    (after (.lampReplaced .campus) (heldFor .account .normal)).lamp.state = .striking .attempt
      ∧ (after (.lampReplaced .campus) (heldFor .account .hot)).lamp.state = .off .thermal := by decide +kernel
theorem witness_engine_report :
    2 < (3 : Byte).toNat ∧ (2 : Byte) = byte TempState.hot.code ∧ (1 : Byte) = byte TempState.warm.code
      ∧ (lampIn .lit).lamp.temp = .normal ∧ (lampIn .lit).lamp.state.burning = true
      ∧ (lampIn .failed).lamp.state.burning = false ∧ (lampIn (.off .thermal)).lamp.state = .off .thermal
      ∧ (lampIn (.off .thermal)).strikePermitted = true
      ∧ { up with account := { record := { grace := 0 }, status := .expired } }.strikePermitted = false := by decide

theorem witness_switch_admitted (x : SwitchState) : Admitted .sourceSelect .campus (switchIn x)
    ∧ Admitted .pictureMute .campus (switchIn x) :=
  have h : Listening .campus (switchIn x) := ⟨rfl, rfl, rfl, rfl, rfl⟩
  ⟨⟨h, rfl, rfl⟩, ⟨h, rfl, rfl⟩⟩
theorem witness_source_select :
    12 < (13 : Byte).toNat ∧ ((switchIn .dark).plate 12).state ≠ .present ∧ ((switchIn .dark).plate 3).state = .present
      ∧ ((switchIn .dark).plate 2).state = .present ∧ (switchIn .dark).switch.routed = (2 : Byte).toNat
      ∧ (switchIn .dark).switch.state = .dark ∧ (switchIn .noSignal).switch.state = .noSignal
      ∧ (switchIn .showing).pins.mute = true ∧ lesson.pins.mute = false ∧ 0 < lesson.settings.muteLead
      ∧ lesson.switch.routed ≠ (0 : Byte).toNat ∧ (switchIn .muting).switch.state.settled = false
      ∧ (switchIn .masking).switch.target ≠ (3 : Byte).toNat := by decide
theorem witness_select_with_mute_lead : Admitted .sourceSelect .campus lesson :=
  ⟨⟨rfl, rfl, rfl, rfl, rfl⟩, rfl, rfl⟩
theorem witness_picture_mute : 1 < (2 : Byte).toNat ∧ (1 : Byte) = (if true then 1 else 0) := by decide

theorem witness_geometry :
    1 < (2 : Byte).toNat ∧ (1 : Byte) = byte GeometryMode.auto.code ∧ (upAt .service).geometry.active.mode = .manual
      ∧ { (upAt .service).geometry with active := { mode := .auto } }.active.mode = .auto
      ∧ (upAt .service).switch.routed < (upAt .service).geometry.presets.length := by decide
theorem witness_tilt : { up with geometry := { presets := blankPresets, tiltTimer := some 5 } }.geometry.tiltTimer = some 5
    ∧ up.geometry.tiltTimer = none ∧ up.geometry.active.mode = .manual := by decide

theorem witness_override :
    4 < (5 : Byte).toNat ∧ (4 : Byte) = byte Level.service.code ∧ (1440 : BitVec 16).toNat = 1440
      ∧ 1440 < (1441 : BitVec 16).toNat ∧ up.policy.override = none ∧ up.policy.effective = up.policy.base
      ∧ (upAt .service).policy.effective ≠ (upAt .service).policy.base := by decide

theorem witness_clock_set :
    ¬((29 : Byte).toNat ≤ monthLength 2026 2) ∧ (29 : Byte).toNat ≤ monthLength 2028 2 ∧ (2028 : BitVec 16).toNat ≤ 2099
      ∧ (23 : Byte).toNat ≤ 23 ∧ (59 : Byte).toNat ≤ 59 := by decide

theorem witness_entry_put :
    (entryOfRaw (rawMonday [])).any (fun e => e.valid && e.id == 7) = true ∧ entryOfRaw { rawMonday [] with kind := 9 } = none
      ∧ [monday].Pairwise (fun a b => a.id < b.id)
      ∧ (monday ∈ [monday] ∧ monday.id ≠ 8 ∧ { monday with id := 8 }.conflicts monday = true)
      ∧ 32 ≤ (List.replicate 32 later).length ∧ ([] : List Entry).length < 32 := by decide
/-- A table of 32 entries of one day, end to start. -/
def fullTable : List Entry :=
  (List.range 32).map fun n =>
    ⟨n + 1, .dated ⟨2024, 2, 1⟩ ⟨0, .present, .eco⟩, 5 * n, 5 * n + 5, []⟩
theorem witness_full_table :
    fullTable.Pairwise (fun a b => a.id < b.id) ∧ fullTable.length = 32 ∧ (∀ x ∈ fullTable, x.id ≠ 40)
      ∧ (∀ x ∈ fullTable, { monday with id := 40 }.conflicts x = false) := by decide +kernel
theorem witness_entry_delete : (∃ e ∈ lesson.table, e.id = (7 : Byte).toNat) ∧ lesson.table ≠ [] ∧ up.table = [] := by
  decide

theorem witness_setting_write :
    SettingId.code .missLimit = 0x11 ∧ SettingId.code .idleLevel = 0x2C ∧ SettingId.code (.rate .engine) = 0x30
      ∧ SettingId.code .lead ∉ [SettingId.code .missLimit] ∧ (lampIn .lit).lamp.state = .lit
      ∧ ((upAt .service).link .engine).answering = .ready ∧ (upAt .service).session.use = .none := by decide

theorem witness_settings_of_owners :
    up.geometry.tiltStale = false ∧ { up.geometry with tiltStale := true }.tiltStale = true
      ∧ (using' (.bridge 0 9)).session.use = .bridge 0 9
      ∧ (using' (.booked (booking false))).session.use = .booked (booking false)
      ∧ entryOf [monday] (booking true).id = some monday ∧ monday.terms = some ⟨3, .present, .normal⟩
      ∧ ((sending false).link .campus).answering = .sending := by decide
/-- R161: the campus rate waits for its answer, the engine's is applied at once. -/
theorem test_rates_are_applied :
    let t := after (.settingWrite .campus 0x30 9600) (upAt .service)
    let t' := after (.settingWrite .campus 0x32 9600) (upAt .service)
    t.engine.rate = 9600 ∧ t'.campus.rate = 19200 ∧ t'.campus.rateDue = true ∧ t'.settings.rateOf .campus = 9600 := by
  decide +kernel
theorem witness_second_event :
    { up with clock := { up.clock with second := 58 } }.clock.second < 59 ∧ (lampIn .lit).lamp.state = .lit
      ∧ { up with account := { checkpoint := 359 } }.account.checkpoint = 359 := by decide

theorem witness_minute_event :
    59 ≤ (lastSecond up 10 58).clock.second ∧ (lastSecond up 23 59).clock.hour ≤ 23 ∧ (lastSecond up 10 58).clock.minute < 59
      ∧ (lastSecond up 22 59).clock.hour < 23 ∧ (lastSecond up 23 59).clock.date.valid = true
      ∧ up.startUpDone = true ∧ State.reset.startUpDone = false := by decide
/-- 10:58:59 with a lamp that burns, so that both orders of charge and minute event charge it. -/
theorem witness_minute_charge :
    let s := lastSecond lesson 10 58
    s.lamp.state = .lit ∧ (s.advanceClock.takeMinute (s.clock.tickKind == .wrap) true).lamp.state = .lit
      ∧ (lastSecond up 10 58).lamp.state ≠ .warming ∧ (lastSecond up 10 58).lamp.state ≠ .lit := by decide
/-- 08:59:59 on the Monday: the booking is current in the next second and the room has no session. -/
theorem witness_booked_start :
    let s := { lastSecond up 8 59 with table := [monday] }
    (found s.table s.clock.tick).current = some ⟨7, ⟨2024, 1, 1⟩, 540, 660⟩ ∧ entryOf s.table 7 = some monday
      ∧ monday.terms = some ⟨3, .present, .normal⟩ ∧ s.session.use = .none := by decide
/-- The same start from the PREWARM of that booking, its demand turned off, and from the PREWARM of another. -/
theorem witness_start_from_prewarm :
    let s := { lastSecond up 8 59 with table := [monday], session := { use := .booked (booking false), demand := false } }
    s.session.use = .booked (booking false) ∧ (booking false).running = false
      ∧ ((booking false).id = 7 ∧ (booking false).date = ⟨2024, 1, 1⟩)
      ∧ ¬(({ booking false with id := 8 }).id = 7 ∧ (booking false).date = ⟨2024, 1, 1⟩) := by decide
theorem test_start_from_prewarm :
    let s := { lastSecond up 8 59 with table := [monday], session := { use := .booked (booking false), demand := false } }
    (after (.secondEvent true true) s).session.use = .booked { booking true with owed := some 0 }
      ∧ (after (.secondEvent true true) s).session.demand = false := by decide +kernel
/-- The running lesson at SERVICE, its entry replaced by one that still covers the minute. -/
theorem witness_entry_replaced :
    let s := { lesson with policy := { base := .present, override := some ⟨.service, none⟩, effective := .service } }
    let raw := { rawMonday [] with stop := 670 }
    let e : Entry := { monday with stop := 670 }
    (Instr.entryPut .campus raw).wellFormed = true ∧ Admitted .entryPut .campus s ∧ entryOfRaw raw = some e ∧ e.valid = true
      ∧ (∃ x ∈ s.table, x.id = e.id) ∧ (∀ x ∈ s.table, x.id ≠ e.id → e.conflicts x = false)
      ∧ s.session.use = .booked (booking true) ∧ (booking true).id = e.id
      ∧ (found (insertEntry e s.table) s.clock).current = some ⟨7, ⟨2024, 1, 1⟩, 540, 670⟩
      ∧ entryOf (insertEntry e s.table) 7 = some e ∧ e.terms = some ⟨3, .present, .normal⟩ := by
  unfold Admitted Listening Permitted; decide
/-- 10:59:59 on the Monday with its booking running and another at 12:00; a tie of g = 24 needs a start at 11:24. -/
theorem witness_session_ends :
    let s := lastSecond { lesson with table := [monday, { later with start := 684 }] } 10 59
    let f := found s.table s.clock.tick
    f.current = none ∧ f.lead = 24 ∧ f.next.isSome = true ∧ s.session.use = .booked (booking true)
      ∧ s.settings.lead < f.lead ∧ (∀ c, s.lamp.state = .off c → c = .none) := by
  refine ⟨by decide, by decide, by decide, by decide, by decide, fun c h => by cases h⟩
theorem witness_session_ends_dark :
    let s := lastSecond { lesson with table := [monday, later] } 10 59
    let f := found s.table s.clock.tick
    f.current = none ∧ f.lead = 60 ∧ bridges s.settings f s.lamp.state = false ∧ s.settings.lead < f.lead := by decide
theorem witness_prewarm :
    let s := { lastSecond up 11 57 with table := [later] }
    let f := found s.table s.clock.tick
    f.current = none ∧ f.next = some ⟨9, ⟨2024, 1, 1⟩, 720, 780⟩ ∧ f.lead ≤ s.settings.lead ∧ entryOf s.table 9 = some later
      ∧ s.session.use = .none := by decide
theorem witness_walkup_goes_on :
    let s := lastSecond longWalkup 13 54
    s.clock.tick.minuteCount < 8766 * 1440 + 840 ∧ s.clock.tickKind = .minute ∧ (found s.table s.clock.tick).current = none := by
  decide

/-- A BRIDGE whose end has come and a PREWARM of an occurrence that is not next, with nothing due and with 12:00 due. -/
theorem witness_bridge_and_prewarm_end :
    let s := lastSecond (using' (.bridge (8766 * 1440 + 660) (8766 * 1440 + 718))) 11 57
    let s' := lastSecond { using' (.booked (booking false)) with table := [later] } 11 57
    (found s.table s.clock.tick).current = none ∧ (found s.table s.clock.tick).next = none
      ∧ 8766 * 1440 + 718 ≤ s.clock.tick.minuteCount ∧ (booking false).running = false
      ∧ (found s'.table s'.clock.tick).current = none
      ∧ (found s'.table s'.clock.tick).next = some ⟨9, ⟨2024, 1, 1⟩, 720, 780⟩ ∧ (booking false).id ≠ 9
      ∧ (found s'.table s'.clock.tick).lead ≤ s'.settings.lead ∧ entryOf s'.table 9 = some later := by decide
/-- The lesson owes plate 3, which is not PRESENT yet or is, while plate 2 or none is shown. -/
def owing (present : Bool) : State :=
  { lesson with
    session := { lesson.session with use := .booked { booking true with owed := some 2 } }
    switch := { state := .showing, routed := 2, target := 2, edge := some .rising, reference := some 0, ring := [16667], streak := 4 }
    scanner := { scannerAfterReset with plates := scannerAfterReset.plates.set 2 { state := if present then .present else .lost } } }
theorem witness_owed_source (present : Bool) :
    let s := lastSecond (owing present) 10 0
    (found s.table s.clock.tick).current = some ⟨7, ⟨2024, 1, 1⟩, 540, 660⟩ ∧ s.startUpDone = true
      ∧ s.session.use = .booked { booking true with owed := some 2 } ∧ entryOf s.table 7 = some monday
      ∧ monday.terms = some ⟨3, .present, .normal⟩ ∧ s.switch.target = s.switch.routed ∧ s.switch.target ≠ 0
      ∧ ((s.plate 3).state = .present ↔ present = true) := by revert present; decide
/-- R146: the owed plate is selected once it is PRESENT. -/
theorem test_owed_source :
    (after (.secondEvent true true) (lastSecond (owing true) 10 0)).switch.target = 3
      ∧ (after (.secondEvent true true) (lastSecond (owing false) 10 0)).switch.target = 2 := by decide +kernel
/-- R156: a walk-up and a bridge whose ends a cleared table moves, and a bridge whose end has come. -/
theorem witness_ends_clamped :
    let now := up.clock.minuteCount
    (found [] up.clock).current = none ∧ now < min (now + 300) (now + 240) ∧ now < min (now + 100) (now + 60)
      ∧ min now (now + 60) ≤ now ∧ (found [] up.clock).next = none := by decide
/-- R156, R147 to R149: a walk-up whose end was 11:50 at 11:50, a start at 12:00 being bridged to by a burning lamp, and the
lengths at which a bridge is called for or not. -/
theorem witness_walkup_end_has_come :
    let f := found [later] { up.clock with hour := 11, minute := 50 }
    f.current = none ∧ f.next = some ⟨9, ⟨2024, 1, 1⟩, 720, 780⟩ ∧ f.lead = 10 ∧ BridgeCalledFor {} f .lit
      ∧ ¬BridgeCalledFor {} f (.off .none) ∧ BridgeCalledFor { bridgeMax := 24 } { f with lead := 24 } .warming
      ∧ ¬BridgeCalledFor {} { f with lead := 25 } .lit
      ∧ { up with session := { use := .walkup 0 (8766 * 1440 + 710) true } }.session.use = .walkup 0 (8766 * 1440 + 710) true
      ∧ min (8766 * 1440 + 710) (8766 * 1440 + 720) ≤ { up.clock with hour := 11, minute := 50 }.minuteCount := by
  unfold BridgeCalledFor; decide
/-- R178: a table change finds the store idle with nothing waiting, or a write under way. -/
theorem witness_schedule_queued : up.startUpDone = true ∧ up.store.write = none ∧ up.store.queue = []
    ∧ writing.store.write ≠ none ∧ Kind.schedule ∉ writing.store.queue := by decide
/-- The lamp with LIT being timed for its 100 ms. -/
def held (x : LampState) : State :=
  { lampIn x with lamp := { state := x, timerLength := 4000000, litHold := some 3900000 } }

theorem witness_lit_events :
    (held (.striking .attempt)).lamp.state = .striking .attempt ∧ (held (.striking .attempt)).lamp.litHold = some 3900000
      ∧ 3900000 + 100000 ≤ (held (.striking .attempt)).lamp.timerStart + (held (.striking .attempt)).lamp.timerLength
      ∧ (held .lit).lamp.state = .lit ∧ (held .lit).lamp.litHold = some 3900000 ∧ (lampIn .lit).lamp.litHold = none := by decide
theorem witness_grace_ignition :
    let s := { held (.striking .attempt) with account := { status := .expired }, policy := {} }
    s.account.status = .expired ∧ s.policy.effective ≠ .service ∧ 0 < s.account.record.grace := by decide
theorem witness_lamp_timers :
    (lampIn (.striking .attempt)).lamp.attempts < (lampIn (.striking .attempt)).settings.attempts
      ∧ { lampIn (.striking .attempt) with settings := { attempts := 1 } }.settings.attempts ≤ 1
      ∧ (lampIn (.striking .retryWait)).lamp.temp ≠ .hot ∧ (lampIn (.striking .retryWait)).strikePermitted = true
      ∧ { up with account := { record := { grace := 0 }, status := .expired } }.strikePermitted = false
      ∧ (lampIn .warming).lamp.state = .warming ∧ (lampIn (.cooling true)).lamp.state = .cooling true
      ∧ (lampIn (.cooling true)).startUpDone = true := by decide

/-- The scanner in a slot phase. -/
def slotOf (slot : Slot) : State := { switchIn .dark with scanner := { (switchIn .dark).scanner with slot := slot } }

theorem witness_poll_cycle :
    (slotOf (.polling 1 [] 240)).scanner.slot = .polling 1 [] 240 ∧ (slotOf (.window 3 [] 5)).scanner.slot = .window 3 [] 5
      ∧ (slotOf (.window 3 [] 5)).scanner.plates[2]? = some { state := .present }
      ∧ (slotOf (.cycleGap 9)).scanner.slot = .cycleGap 9 ∧ up.scanner.slot = .stopped := by decide
theorem witness_replies :
    (slotOf (.window 3 [3, 4, 1, 0] 5)).scanner.slot = .window 3 [3, 4, 1, 0] 5 ∧ [(3 : Byte), 4, 1].length ≠ 4
      ∧ crc8 [3, 4, 1, 0] ≠ crc8 [3, 4, 1, 0] + 1 ∧ (5 : Byte).toNat ≠ 3 ∧ (3 : Byte).toNat = 3
      ∧ (slotOf (.window 3 [3, 4, 1, 0] 5)).scanner.plates[3 - 1]? = some { state := .present } := by decide +kernel
/-- R54: a bad reply keeps what the plate last reported; at the miss limit the plate is LOST with PLATES raised. -/
theorem test_bad_reply :
    let p : Plate := { state := .present, missStreak := 2, connects := 9, buttons := 7, signal := some true }
    let s := slotOf (.window 3 [3, 4, 1, 0] 5)
    let t := after (.busByteReceived (crc8 [3, 4, 1, 0] + 1)) { s with scanner := { s.scanner with plates := s.scanner.plates.set 2 p } }
    t.scanner.plates[2]? = some { p with state := .lost, missStreak := 3 } ∧ t.campus.notices &&& Notice.plates.flag ≠ 0 := by
  decide +kernel
/-- Plate 3, PRESENT with both counts at 0, reports a connect (signal active) or a press, at OPEN. -/
theorem witness_plate_events :
    let s := { slotOf (.window 3 [byte 3, 4, 1, 0] 5) with policy := { effective := .openRoom } }
    s.switch.state = .dark ∧ s.switch.routed ≠ 3 ∧ (4 : Byte).getLsbD 2 = true ∧ s.settings.follow = true
      ∧ (0 : Nat) ≠ (1 : Byte).toNat ∧ s.policy.effective = .openRoom := by decide

/-- The same plate with a switch of another origin, or of a FOLLOW request, in transit; and in the settled states. -/
theorem witness_plate_events_by_state :
    let w := fun x => (switchIn x).switch
    (w .muting).state.settled = false ∧ (w .muting).origin ≠ some (.by .follow)
      ∧ { w .seeking with origin := some (.by .follow) }.origin = some (.by .follow) ∧ (w .showing).routed ≠ 3
      ∧ (w .noSignal).routed = 2 ∧ (switchIn .showing).pins.mute = true ∧ lesson.pins.mute = false
      ∧ 0 < lesson.settings.muteLead ∧ (w .confirming).target ≠ 3 := by decide
/-- R70: a FOLLOW request is dropped while a switch of another origin is in transit, and taken while its own is. -/
theorem test_follow_in_transit :
    let s := { slotOf (.window 3 [byte 3, 4, 1, 0] 5) with policy := { effective := .openRoom } }
    let moving := fun o => { s with switch := { (switchIn .seeking).switch with origin := o } }
    (after (.busByteReceived (crc8 [byte 3, 4, 1, 0])) (moving (some (.by .plate)))).switch.routed = 2
      ∧ (after (.busByteReceived (crc8 [byte 3, 4, 1, 0])) (moving (some (.by .follow)))).switch.routed = 3 := by decide +kernel
theorem witness_vsync :
    (switchIn .seeking).switch.edge = some .rising ∧ (switchIn .seeking).switch.reference = some 0
      ∧ (switchIn .seeking).switch.ring ≠ [] ∧ ringAverage [16667] 4 = 16667
      ∧ (16667 - 16667) * 256 ≤ 16667 * (switchIn .seeking).settings.tolerance
      ∧ (switchIn .seeking).switch.streak + 1 < (switchIn .seeking).settings.stableCount
      ∧ { switchIn .seeking with settings := { stableCount := 2 } }.settings.stableCount ≤ (switchIn .seeking).switch.streak + 1
      ∧ lesson.switch.state = .showing ∧ lesson.switch.edge = some .rising ∧ lesson.switch.missMark = false
      ∧ { lesson.switch with missMark := true }.missMark = true ∧ (switchIn .masking).switch.state = .masking := by decide
theorem witness_switch_timers :
    (switchIn .muting).switch.state = .muting ∧ (switchIn .masking).switch.routed ≠ 0
      ∧ { (switchIn .masking).switch with routed := 0 }.routed = 0 ∧ (switchIn .confirming).switch.state = .confirming
      ∧ (switchIn .seeking).switch.state = .seeking := by decide
theorem witness_revert :
    let s := { switchIn .seeking with
      settings := { fallback := .revert }, switch := { (switchIn .seeking).switch with previous := 3 } }
    s.settings.fallback = .revert ∧ s.switch.origin ≠ some .revert ∧ s.switch.previous ≠ 0
      ∧ (s.plate s.switch.previous).state = .present ∧ s.switch.previous ≠ s.switch.routed := by decide

theorem witness_dates : (⟨2099, 12, 31⟩ : Date).valid = true ∧ (⟨2099, 12, 30⟩ : Date) ≠ ⟨2099, 12, 31⟩
    ∧ (⟨2099, 12, 31⟩ : Date).number = 36524 := by decide
theorem witness_policy_rows : requesterOf .lectern = .lectern ∧ Command.sourceSelect.acceptedOn .lectern = true
    ∧ judge .lampReplaced .campus .closed = some .refusedLockout := by decide

end Sys2Proof.Tests
end

section
/-! Frames of the operations that the laws leave open: the line of a link, the room bus and the sequencer's events. -/

namespace Sys2Proof.Machine

open Sys2Proof.Config

/-! ## The line of a link -/

/-- What the receiving and the answering side of a link can touch, the owner of a request aside (R161 to R166, R174). -/
def lineBlocks : List Block := [.links, .notice .link, .attention, .silence, .time, .choices, .receivers]

theorem State.storeByte_untouched (s : State) (l : Link) (bytes : List Byte) (b : Byte) :
    Untouched [.links, .notice .link, .attention] s (s.storeByte l bytes b) := by
  simp only [State.storeByte]
  split
  · exact (State.setLink_untouched_of (by rfl)).andThen (State.countError_untouched _ _ _) (by rfl) (by rfl)
  · split
    · exact (State.setLink_untouched_of (by rfl)).mono (by rfl)
    · exact (State.setLink_untouched_of (by rfl)).mono (by rfl)

theorem State.receive_untouched (s : State) (l : Link) (b : Byte) :
    Untouched [.links, .notice .link, .attention] s (s.receive l b) := by
  simp only [State.receive]
  split
  · split
    · exact .refl _ _
    · split
      · exact s.countError_untouched _ _
      · exact (State.setLink_untouched_of (by rfl)).mono (by rfl)
  · split
    · exact (State.setLink_untouched_of (by rfl)).andThen (State.countError_untouched _ _ _) (by rfl) (by rfl)
    · exact s.storeByte_untouched _ _ _

theorem State.receivers_update_untouched (s : State) (n : Nat) (on : Bool) :
    Untouched [.choices, .receivers] s { s with choices := n, receiversOn := on } := by
  intro b hb
  cases b with
  | choices | receivers => exact (hb (by simp)).elim
  | links | notice _ | attention => intro l; cases l <;> rfl
  | _ => rfl

theorem State.byteArrives_untouched (s : State) (l : Link) (b : Byte) : Untouched lineBlocks s (s.byteArrives l b) := by
  simp only [State.byteArrives]
  split
  · exact (s.receive_untouched l b).mono rfl
  · split
    · exact (s.receivers_update_untouched _ true).andThen (State.receive_untouched _ l b) rfl rfl
    · exact (s.receivers_update_untouched _ s.receiversOn).mono rfl

theorem State.bytesArrive_untouched (s : State) (l : Link) (bytes : List Byte) :
    Untouched lineBlocks s (s.bytesArrive l bytes) := by
  induction bytes generalizing s with
  | nil => exact .refl _ _
  | cons b rest ih => exact (s.byteArrives_untouched l b).trans (ih _)

theorem LinkState.applyRate_notices (x : LinkState) (rate : Nat) : (x.applyRate rate).notices = x.notices := by
  unfold LinkState.applyRate
  split <;> rfl

theorem State.finishResponse_untouched (s : State) (l : Link) : Untouched lineBlocks s (s.finishResponse l) :=
  (s.reach_untouched _).andThen (State.setLink_untouched_of (LinkState.applyRate_notices _ _)) rfl rfl

theorem State.respond_untouched (l : Link) (code : Byte) (a : Answer) :
    Untouched [.links, .attention] a.state (State.respond l code a) := State.setLink_untouched_of rfl

theorem State.gapExpires_untouched (s : State) (l : Link) : Untouched lineBlocks s (s.gapExpires l) := by
  unfold State.gapExpires
  split
  · exact .refl _ _
  · exact ((s.reach_untouched _).andThen (State.setLink_untouched_of (by rfl)) (C := lineBlocks) (by rfl) (by rfl)).andThen
      (State.countError_untouched _ _ _) (by rfl) (by rfl)

/-! ## What every request keeps -/

/-- R187: what carries out the requests that a link takes, one for each payload a command carries. -/
inductive Owned (l : Link) : (State → Answer) → Prop
  | roomRead : Owned l ownRoomRead
  | noticeRead : Owned l (ownNoticeRead l)
  | countersRead : Owned l ownCountersRead
  | countersClear : Owned l ownCountersClear
  | restart : Owned l ownRestart
  | sessionStart : Owned l ownSessionStart
  | sessionEnd : Owned l ownSessionEnd
  | sessionExtend : Owned l ownSessionExtend
  | lampLevel (level : Byte) : Owned l (ownLampLevel level)
  | lampRead : Owned l ownLampRead
  | lampReplaced : Owned l ownLampReplaced
  | accountSet (hours : BitVec 16) : Owned l (ownAccountSet hours)
  | sourceSelect (plate : Byte) : Owned l (ownSourceSelect l plate)
  | pictureMute (onOff : Byte) : Owned l (ownPictureMute onOff)
  | sourceRead : Owned l ownSourceRead
  | plateRead : Owned l ownPlateRead
  | geometrySet (mode v h trim : Byte) : Owned l (ownGeometrySet mode v h trim)
  | geometryTrim (dv dh : Byte) : Owned l (ownGeometryTrim dv dh)
  | presetStore : Owned l ownPresetStore
  | geometryRead (plate : Option Byte) : Owned l (ownGeometryRead plate)
  | tiltReport (tilt : BitVec 16) : Owned l (ownTiltReport tilt)
  | engineReport (temperature : Byte) : Owned l (ownEngineReport temperature)
  | overrideSet (level : Byte) (minutes : Option (BitVec 16)) : Owned l (ownOverrideSet level minutes)
  | overrideClear : Owned l ownOverrideClear
  | lockoutRead : Owned l (ownLockoutRead l)
  | clockSet (date : RawDate) (hour minute : Byte) : Owned l (ownClockSet date hour minute)
  | clockRead : Owned l ownClockRead
  | entryPut (entry : RawEntry) : Owned l (ownEntryPut entry)
  | entryDelete (id : Byte) : Owned l (ownEntryDelete id)
  | entryRead (id : Byte) : Owned l (ownEntryRead id)
  | entryList : Owned l ownEntryList
  | scheduleClear : Owned l ownScheduleClear
  | occurrenceRead : Owned l ownOccurrenceRead
  | settingWrite (id : Byte) (value : BitVec 32) : Owned l (ownSettingWrite id value)
  | settingRead (id : Byte) : Owned l (ownSettingRead id)

/-- Every owner that a command and a payload name is one of these. -/
theorem owned_of_ownerOf {c : Command} {l : Link} {payload : List Byte} {own : State → Answer}
    (h : ownerOf c l payload = some own) : Owned l own := by
  cases c
  case entryPut =>
    have put : (rawEntryOf payload).map ownEntryPut = some own := h
    obtain ⟨raw, _, rfl⟩ := Option.map_eq_some_iff.mp put
    exact .entryPut raw
  case settingWrite =>
    rcases payload with _ | ⟨_, _ | ⟨_, _ | ⟨_, _ | ⟨_, _ | ⟨_, _ | ⟨_, _⟩⟩⟩⟩⟩⟩ <;> cases h
    exact .settingWrite _ _
  case clockSet =>
    rcases payload with _ | ⟨_, _ | ⟨_, _ | ⟨_, _ | ⟨_, _ | ⟨_, _ | ⟨_, _ | ⟨_, _⟩⟩⟩⟩⟩⟩⟩ <;> cases h
    exact .clockSet _ _ _
  case geometrySet =>
    rcases payload with _ | ⟨_, _ | ⟨_, _ | ⟨_, _ | ⟨_, _ | ⟨_, _⟩⟩⟩⟩⟩ <;> cases h
    exact .geometrySet _ _ _ _
  case overrideSet =>
    rcases payload with _ | ⟨_, _ | ⟨_, _ | ⟨_, _ | ⟨_, _⟩⟩⟩⟩ <;> cases h
    · exact .overrideSet _ none
    · exact .overrideSet _ (some _)
  case accountSet =>
    rcases payload with _ | ⟨_, _ | ⟨_, _ | ⟨_, _⟩⟩⟩ <;> cases h
    exact .accountSet _
  case geometryTrim =>
    rcases payload with _ | ⟨_, _ | ⟨_, _ | ⟨_, _⟩⟩⟩ <;> cases h
    exact .geometryTrim _ _
  case tiltReport =>
    rcases payload with _ | ⟨_, _ | ⟨_, _ | ⟨_, _⟩⟩⟩ <;> cases h
    exact .tiltReport _
  case geometryRead =>
    rcases payload with _ | ⟨_, _ | ⟨_, _⟩⟩ <;> cases h
    · exact .geometryRead none
    · exact .geometryRead (some _)
  case lampLevel | sourceSelect | pictureMute | engineReport | entryDelete | entryRead | settingRead =>
    rcases payload with _ | ⟨_, _ | ⟨_, _⟩⟩ <;> cases h
    constructor
  all_goals
    cases payload <;> cases h
    constructor

/-- A property that neither the line of a link nor the owner of a request breaks. -/
structure KeptByRequests (Inv : State → Prop) : Prop where
  line : ∀ {s t : State}, Untouched lineBlocks s t → Inv s → Inv t
  owner : ∀ {l : Link} {own : State → Answer} (s : State), Owned l own → Inv s → Inv (own s).state

namespace KeptByRequests

variable {Inv : State → Prop} (kept : KeptByRequests Inv)
include kept

theorem respond {a : Answer} (l : Link) (code : Byte) (h : Inv a.state) : Inv (State.respond l code a) :=
  kept.line ((State.respond_untouched l code a).mono rfl) h

theorem hear {s : State} (l : Link) (h : Inv s) : Inv (s.hear l) := kept.line ((s.hear_untouched l).mono rfl) h

theorem carryOut {s : State} (c : Command) (l : Link) (payload : List Byte) (h : Inv s) :
    Inv (s.carryOut c l (lengthChecked (ownerOf c l payload))) := by
  apply kept.respond
  unfold judged
  split
  · exact kept.hear l h
  · cases e : ownerOf c l payload with
    | none => exact kept.hear l h
    | some own => exact kept.owner _ (owned_of_ownerOf e) (kept.hear l h)

theorem decodeFrame {s : State} (l : Link) (code : Byte) (payload : List Byte) (h : Inv s) :
    Inv (s.decodeFrame l code payload) := by
  unfold State.decodeFrame
  split
  · exact kept.respond _ _ (kept.hear l h)
  · exact kept.carryOut _ _ _ h

theorem takeFrame {s : State} (l : Link) (f : List Byte) (rest : List (List Byte)) (h : Inv s) :
    Inv (s.takeFrame l f rest) := by
  simp only [State.takeFrame]
  split
  · refine kept.decodeFrame _ _ _ (kept.line (s := s) ?_ h)
    exact (State.setLink_untouched_of (by rfl)).mono (by rfl)
  · refine kept.line (s := s) ?_ h
    exact (State.setLink_untouched_of (by rfl)).andThen (State.countError_untouched _ _ _) (by rfl) (by rfl)

theorem takeNext {s : State} (l : Link) (h : Inv s) : Inv (s.takeNext l) := by
  unfold State.takeNext
  split
  · exact kept.takeFrame _ _ _ h
  · exact h

theorem takeTurn {s : State} (l : Link) (h : Inv s) : Inv (s.takeTurn l) := by
  unfold State.takeTurn
  split
  · split
    · exact h
    · exact kept.takeNext l (kept.line (s.finishResponse_untouched l) h)
  · exact kept.takeNext l h

theorem takeTurns (l : Link) (n : Nat) {s : State} (h : Inv s) : Inv (State.takeTurns l n s) := by
  induction n generalizing s with
  | zero => exact h
  | succ n ih => exact ih (kept.takeTurn l h)

/-- A request row keeps the property, whatever waits before it and however the line stands. -/
theorem takeRequest {s : State} (c : Command) (l : Link) (payload : List Byte) (h : Inv s) :
    Inv (s.takeRequest c l payload) := by
  have arrived := kept.line (s.bytesArrive_untouched l (requestFrame c payload)) h
  simp only [State.takeRequest]
  split
  · exact kept.takeTurns _ _ arrived
  · exact arrived

end KeptByRequests

/-- Every request row is the taking of the request it names. -/
theorem exec_request {i : Instr} {l : Link} {c : Command} (h : requestOf i = some (l, c)) (s : State) :
    exec i s = .next (s.takeRequest c l (payloadOf i)) := by
  cases i <;> cases h <;> rfl

/-- A property that no command breaks, and that reads neither the queue of commands nor the time, is kept by every step. -/
theorem keptByEveryStep_of_exec {Inv : State → Prop} (frame : ∀ {s t : State}, Untouched [.queue, .time] s t → Inv s → Inv t)
    (kept : ∀ (c : Instr) {s t : State}, Inv s → exec c s = .next t → Inv t) : KeptByEveryStep Inv := by
  intro s t h taken
  unfold step at taken
  split at taken
  · refine kept _ (frame (s := s) ?_ h) taken
    intro b hb
    cases b with
    | queue => exact (hb (by simp)).elim
    | links | notice _ | attention => intro l; cases l <;> rfl
    | _ => rfl
  · cases taken
    exact frame ((s.elapse_untouched 1).mono rfl) h

/-! ## The room bus -/

/-- What the room bus can touch, its timers aside: the plates, the requests they make and BUS_DE (R43 to R56). -/
def busBlocks : List Block := .scanner :: .notice .plates :: routeBlocks

theorem State.endSlot_untouched (s : State) (n : Nat) : Untouched [.scanner, .pins] s (s.endSlot n) := by
  unfold State.endSlot
  split
  · exact s.startPoll_untouched _
  · exact (s.scanner_update_untouched _).mono rfl

theorem State.startCycle_untouched (s : State) : Untouched busBlocks s s.startCycle :=
  ((s.scanner_update_untouched _).andThen (State.raiseIf_untouched _ _ _) (C := busBlocks) rfl rfl).andThen
    (State.startPoll_untouched _ _) rfl rfl

theorem State.slotFails_untouched (s : State) (n : Nat) (bad : Bool) : Untouched busBlocks s (s.slotFails n bad) :=
  (((s.scanner_update_untouched _).andThen (State.setPlate_untouched _ _ _) (C := busBlocks) rfl rfl).andThen
    (State.raiseIf_untouched _ _ _) (C := busBlocks) rfl rfl).andThen (State.endSlot_untouched _ _) rfl rfl

theorem State.plateRequest_untouched (s : State) (n : Nat) (c : Requester) :
    Untouched routeBlocks s (s.plateRequest n c) := by
  unfold State.plateRequest
  split
  · exact s.requestSwitch_untouched _ _
  · exact .refl _ _

theorem State.goodReply_untouched (s : State) (n : Nat) (r : Reply) : Untouched busBlocks s (s.goodReply n r) := by
  have heard := (s.setPlate_untouched n r.record).andThen
    (State.raiseIf_untouched _ (platesNoticed (s.plate n) r.record) .plates) (C := busBlocks) rfl rfl
  simp only [State.goodReply]
  split
  · exact (heard.andThen (State.plateRequest_untouched _ _ _) (C := busBlocks) rfl rfl).andThen
      (State.endSlot_untouched _ _) rfl rfl
  · exact heard.andThen (State.endSlot_untouched _ _) rfl rfl

theorem State.judgeReply_untouched (s : State) (n till : Nat) (bytes : List Byte) :
    Untouched busBlocks s (s.judgeReply n till bytes) := by
  unfold State.judgeReply
  split
  · split
    · exact s.slotFails_untouched _ _
    · split
      · exact s.goodReply_untouched _ _
      · exact (s.scanner_update_untouched _).mono rfl
  · exact (s.scanner_update_untouched _).mono rfl

theorem State.busByte_untouched (s : State) (b : Byte) : Untouched busBlocks s (s.busByte b) := by
  unfold State.busByte
  split
  · exact s.judgeReply_untouched _ _ _
  · exact .refl _ _

theorem State.pollEnds_untouched (s : State) : Untouched (.time :: busBlocks) s s.pollEnds := by
  unfold State.pollEnds
  split
  · rename_i n _ till _
    have window := (s.reach_untouched till).andThen (State.scanner_update_untouched _
      { s.scanner with slot := .window n [] ((s.reach till).now + replyWindow) }) (C := .time :: busBlocks) rfl rfl
    exact window.andThen (State.pins_update_untouched _ _) rfl rfl
  · exact .refl _ _

theorem State.windowEnds_untouched (s : State) : Untouched (.time :: busBlocks) s s.windowEnds := by
  unfold State.windowEnds
  split
  · exact (s.reach_untouched _).andThen (State.slotFails_untouched _ _ _) rfl rfl
  · exact .refl _ _

theorem State.cycleGapEnds_untouched (s : State) : Untouched (.time :: busBlocks) s s.cycleGapEnds := by
  unfold State.cycleGapEnds
  split
  · exact (s.reach_untouched _).andThen (State.startCycle_untouched _) rfl rfl
  · exact .refl _ _

/-! ## The sequencer's events -/

theorem State.restartWatch_untouched (s : State) (edge : Nat) : Untouched [.switch] s (s.restartWatch edge) :=
  s.switch_update_untouched _

theorem State.judgeSeeking_untouched (s : State) (i : Nat) : Untouched (.switch :: muteBlocks) s (s.judgeSeeking i) := by
  have keep := fun x => (s.switch_update_untouched x).mono (B := .switch :: muteBlocks) rfl
  simp only [State.judgeSeeking]
  split
  · exact keep _
  · split
    · exact keep _
    · split
      · split
        · exact (keep _).trans (State.becomeStable_untouched _)
        · exact keep _
      · exact keep _

theorem State.judgeShowing_untouched (s : State) (i : Nat) : Untouched (.switch :: muteBlocks) s (s.judgeShowing i) := by
  unfold State.judgeShowing
  split
  · exact (s.switch_update_untouched _).andThen (State.restartWatch_untouched _ _) rfl rfl
  · split
    · exact s.loseSync_untouched _
    · exact (s.switch_update_untouched _).andThen (State.restartWatch_untouched _ _) rfl rfl

theorem State.takeEdge_untouched (s : State) : Untouched (.switch :: muteBlocks) s s.takeEdge := by
  have timed := (s.switch_update_untouched { s.switch with reference := some s.now }).mono
    (B := .switch :: muteBlocks) rfl
  simp only [State.takeEdge]
  split
  · split
    · exact timed.andThen (State.restartWatch_untouched _ _) rfl rfl
    · exact timed
  · split
    · exact timed.trans (State.judgeShowing_untouched _ _)
    · exact timed.trans (State.judgeSeeking_untouched _ _)

theorem State.vsync_untouched (s : State) (e : SyncEdge) : Untouched (.switch :: muteBlocks) s (s.vsync e) := by
  unfold State.vsync
  split
  · exact s.takeEdge_untouched
  · exact .refl _ _

theorem State.muteLeadEnds_untouched (s : State) : Untouched (.time :: routeBlocks) s s.muteLeadEnds := by
  unfold State.muteLeadEnds
  split
  · exact (s.reach_untouched _).andThen (State.routingAction_untouched _ _) rfl rfl
  · exact .refl _ _

theorem State.maskEnds_untouched (s : State) : Untouched (.time :: routeBlocks) s s.maskEnds := by
  unfold State.maskEnds
  split
  · dsimp only
    split
    · exact (s.reach_untouched _).andThen (State.enterSettled_untouched _ _) rfl rfl
    · exact (s.reach_untouched _).andThen (State.enterSeeking_untouched _ _) rfl rfl
  · exact .refl _ _

theorem State.seekEnds_untouched (s : State) : Untouched (.time :: routeBlocks) s s.seekEnds := by
  unfold State.seekEnds
  split
  · dsimp only
    split
    · exact ((s.reach_untouched _).andThen (State.switch_update_untouched _ _) (C := .time :: routeBlocks) rfl rfl).andThen
        (State.routingAction_untouched _ _) rfl rfl
    · exact (s.reach_untouched _).andThen (State.enterSettled_untouched _ _) rfl rfl
  · exact .refl _ _

theorem State.confirmEnds_untouched (s : State) : Untouched (.time :: routeBlocks) s s.confirmEnds := by
  unfold State.confirmEnds
  split
  · exact ((s.reach_untouched _).andThen (State.switch_update_untouched _ _) (C := .time :: routeBlocks) rfl rfl).andThen
      (State.enterSettled_untouched _ _) rfl rfl
  · exact .refl _ _

theorem State.watchEnds_untouched (s : State) : Untouched (.time :: routeBlocks) s s.watchEnds := by
  unfold State.watchEnds
  split
  · exact (s.reach_untouched _).andThen (State.loseSync_untouched _ _) rfl rfl
  · exact .refl _ _

theorem State.tiltGoesSilent_untouched (s : State) :
    Untouched [.time, .geometry, .notice .geometry, .attention] s s.tiltGoesSilent := by
  unfold State.tiltGoesSilent
  split
  · exact .refl _ _
  · exact ((s.reach_untouched _).andThen (State.geometry_update_untouched _ _) (C := [.time, .geometry]) rfl rfl).andThen
      (State.raise_untouched _ _) rfl rfl

theorem State.litChanges_untouched (s : State) (high : Bool) : Untouched [.pins, .lamp] s (s.litChanges high) := by
  have pin := (s.pins_update_untouched { s.pins with lit := high }).mono (B := [.pins, .lamp]) rfl
  simp only [State.litChanges]
  split
  · exact .refl _ _
  · split
    · exact pin.andThen (State.lamp_update_untouched _ _) rfl rfl
    · exact pin.andThen (State.lamp_update_untouched _ _) rfl rfl
    · exact pin.andThen (State.lamp_update_untouched _ _) rfl rfl
    · exact pin

theorem State.missLimitWritten_untouched (s : State) :
    Untouched [.scanner, .notice .plates, .attention] s s.missLimitWritten :=
  (s.scanner_update_untouched _).andThen (State.raiseIf_untouched _ _ _) rfl rfl

theorem State.advanceClock_untouched (s : State) :
    Untouched [.time, .clock, .notice .clock, .attention] s s.advanceClock :=
  ((s.reach_untouched _).andThen (State.clock_update_untouched _ _) (C := [.time, .clock]) rfl rfl).andThen
    (State.raiseIf_untouched _ _ _) rfl rfl

end Sys2Proof.Machine
end

section
/-! Laws 3 and 4: the wear status stays derived, and every figure of R1 stays in its range. -/

namespace Sys2Proof.Machine

open Sys2Proof.Config

/-! ## The invariant, block by block -/

/-- R1, R15: the figures of the account in RAM lie in their ranges. -/
def Account.inRange (a : Account) : Prop :=
  a.record.inRange ∧ a.warmCount ≤ 1800 ∧ a.currentBurn ≤ 4294967295 ∧ a.checkpoint < 360

/-- R1: an account record in its slot or in a write in flight lies in its ranges. -/
def Store.accountInRange (x : Store) : Prop :=
  (∀ r crc, x.slots.account = .whole (.account r) crc → r.inRange)
    ∧ ∀ w r crc, x.write = some w → w.slot = .whole (.account r) crc → r.inRange

/-- The invariant without the status, which stays true while an operation has yet to derive it. -/
def State.figuresInRange (s : State) : Prop :=
  s.account.inRange ∧ s.settings.graceSetting ≤ 9 ∧ s.store.accountInRange

theorem State.accountFollows_iff (s : State) :
    s.accountFollows ↔ s.account.status = s.statusNow ∧ s.figuresInRange := by
  simp only [State.accountFollows, State.figuresInRange, Account.inRange, Store.accountInRange, State.statusNow, hoursOf,
    wearPerHour]
  tauto

theorem State.accountFollows.figures {s : State} (h : s.accountFollows) : s.figuresInRange :=
  ((State.accountFollows_iff s).mp h).2

/-- The blocks the invariant reads. -/
def accountReads : List Block := [.account, .settings, .store]

theorem Untouched.figures {A : List Block} {s t : State} (h : Untouched A s t)
    (apart : accountReads.all (fun b => decide (b ∉ A)) = true) (f : s.figuresInRange) : t.figuresInRange := by
  simp only [accountReads, List.all_cons, List.all_nil, Bool.and_true, Bool.and_eq_true, decide_eq_true_eq] at apart
  obtain ⟨noAccount, noSettings, noStore⟩ := apart
  have account : t.account = s.account := h .account noAccount
  have settings : t.settings = s.settings := h .settings noSettings
  have store : t.store = s.store := h .store noStore
  rw [State.figuresInRange, account, settings, store]
  exact f

/-- An operation that touches none of the blocks the invariant reads keeps it. -/
theorem Untouched.account {A : List Block} {s t : State} (h : Untouched A s t)
    (apart : accountReads.all (fun b => decide (b ∉ A)) = true) (f : s.accountFollows) : t.accountFollows := by
  have noAccount := List.all_eq_true.mp apart .account (by simp [accountReads])
  have noSettings := List.all_eq_true.mp apart .settings (by simp [accountReads])
  have account : t.account = s.account := h .account (by simpa using noAccount)
  have settings : t.settings = s.settings := h .settings (by simpa using noSettings)
  rw [State.accountFollows_iff] at f ⊢
  refine ⟨?_, h.figures apart f.2⟩
  rw [State.statusNow, account, settings]
  exact f.1

/-- The invariant reads no lamp controller, session record or policy. -/
theorem State.accountFollows.lamp {s : State} (h : s.accountFollows) (x : Lamp) : { s with lamp := x }.accountFollows := h
theorem State.accountFollows.session {s : State} (h : s.accountFollows) (x : Session) :
    { s with session := x }.accountFollows := h
theorem State.accountFollows.policy {s : State} (h : s.accountFollows) (x : Policy) :
    { s with policy := x }.accountFollows := h

/-! ## The store -/

theorem Store.accountInRange.slot_set {x : Store} (h : x.accountInRange) {w : Write} (writing : x.write = some w)
    (left : SlotLeft) :
    ∀ r crc, (x.slots.set w.kind (slotAfter left (x.slots.get w.kind) w.slot)).account = .whole (.account r) crc →
      r.inRange := by
  intro r crc e
  cases k : w.kind <;> simp only [k, PerKind.set, PerKind.get] at e
  case account =>
    cases left
    · exact h.1 r crc e
    · exact h.2 w r crc writing e
    · cases e
  all_goals exact h.1 r crc e

theorem State.startWrite_inRange {s : State} (record : s.account.record.inRange) (h : s.store.accountInRange) :
    s.startWrite.store.accountInRange := by
  unfold State.startWrite
  split
  · split
    · exact h
    · rename_i k rest _
      refine ⟨h.1, ?_⟩
      rintro w r crc ⟨rfl⟩ sealed
      cases k <;> cases sealed
      exact record
  · exact h

theorem State.startWrite_figures {s : State} (h : s.figuresInRange) : s.startWrite.figuresInRange := by
  obtain ⟨account, grace, store⟩ := h
  refine ⟨by simpa using account, by simpa using grace, State.startWrite_inRange account.1 store⟩

theorem State.startWrite_accountFollows {s : State} (h : s.accountFollows) : s.startWrite.accountFollows := by
  rw [State.accountFollows_iff] at h ⊢
  exact ⟨by simpa [State.statusNow] using h.1, State.startWrite_figures h.2⟩

theorem State.queueKind_accountFollows {s : State} (h : s.accountFollows) (k : Kind) : (s.queueKind k).accountFollows :=
  State.startWrite_accountFollows (s := { s with store := { s.store with queue := enqueue s.store.queue k } }) h

/-- R185: a reset leaves no slot out of range, whatever a cut write leaves. -/
theorem Store.accountInRange.afterReset {x : Store} (h : x.accountInRange) (cut : SlotLeft) :
    (x.afterReset cut).accountInRange := by
  refine ⟨?_, by rintro w r crc ⟨⟩⟩
  unfold Store.afterReset
  cases writing : x.write with
  | none => exact h.1
  | some w => exact h.slot_set writing cut

theorem State.completeWrite_accountFollows {s : State} (h : s.accountFollows) (readBack : SlotLeft) :
    (s.completeWrite readBack).accountFollows := by
  obtain ⟨status, account, grace, store⟩ := (State.accountFollows_iff s).mp h
  have slots := fun w (writing : s.store.write = some w) => store.slot_set writing readBack
  unfold State.completeWrite
  split
  · exact h
  · rename_i w writing
    dsimp only
    split
    · refine State.startWrite_accountFollows ((State.accountFollows_iff _).mpr ⟨status, account, grace, slots w writing, ?_⟩)
      rintro _ _ _ ⟨⟩
    · split
      · refine State.startWrite_accountFollows ((State.raise_untouched _ _).account rfl
          ((State.accountFollows_iff _).mpr ⟨status, account, grace, slots w writing, ?_⟩))
        rintro _ _ _ ⟨⟩
      · refine (State.accountFollows_iff _).mpr ⟨status, account, grace, slots w writing, ?_⟩
        rintro _ r crc ⟨rfl⟩ e
        exact store.2 w r crc writing e

theorem State.warnSupply_accountFollows {s : State} (h : s.accountFollows) : s.warnSupply.accountFollows := by
  obtain ⟨status, ⟨record, warm, burn, _⟩, grace, store⟩ := (State.accountFollows_iff s).mp h
  apply State.startWrite_accountFollows
  exact (State.accountFollows_iff _).mpr ⟨status, ⟨record, warm, burn, Nat.succ_pos 359⟩, grace, store⟩

/-! ## Charges and counters (R2 to R9, R15) -/

theorem State.deriveStatus_accountFollows {s : State} (h : s.figuresInRange) : s.deriveStatus.accountFollows := by
  rw [State.accountFollows_iff]
  refine ⟨by simp [State.statusNow], ?_⟩
  simpa [State.figuresInRange, Account.inRange] using h

theorem State.chargeStrike_accountFollows {s : State} (h : s.figuresInRange) : s.chargeStrike.accountFollows := by
  obtain ⟨⟨⟨_, record⟩, warm, _, checkpoint⟩, grace, store⟩ := h
  exact State.deriveStatus_accountFollows ⟨⟨⟨min_le_left _ _, record⟩, warm, Nat.zero_le _, checkpoint⟩, grace, store⟩

/-- R15: a checkpoint count that has come to 360 goes back to 0. -/
theorem State.checkpointIfDue_accountFollows {s : State} (status : s.account.status = s.statusNow)
    (record : s.account.record.inRange) (warm : s.account.warmCount ≤ 1800) (burn : s.account.currentBurn ≤ 4294967295)
    (grace : s.settings.graceSetting ≤ 9) (store : s.store.accountInRange) : s.checkpointIfDue.accountFollows := by
  unfold State.checkpointIfDue
  split
  · have begun : { s with account := { s.account with checkpoint := 0 } }.accountFollows :=
      (State.accountFollows_iff _).mpr ⟨status, ⟨record, warm, burn, Nat.succ_pos 359⟩, grace, store⟩
    exact State.queueKind_accountFollows begun .account
  · rename_i early
    exact (State.accountFollows_iff _).mpr ⟨status, ⟨record, warm, burn, by simpa [checkpointEvery] using early⟩, grace, store⟩

theorem AccountRecord.inRange.endBurn {a : Account} (h : a.inRange) (outage : Bool) : (a.endBurn outage).inRange := by
  obtain ⟨⟨wear, burnSeconds, ignitions, hot, failed, outages, grace, _⟩, _, burn, _⟩ := h
  refine ⟨⟨wear, burnSeconds, ignitions, hot, failed, ?_, grace, burn⟩, Nat.zero_le _, burn, Nat.succ_pos 359⟩
  cases outage
  · exact outages
  · exact min_le_left _ _

theorem State.endBurn_accountFollows {s : State} (h : s.accountFollows) (outage : Bool) :
    (s.endBurn outage).accountFollows := by
  obtain ⟨status, account, grace, store⟩ := (State.accountFollows_iff s).mp h
  exact State.queueKind_accountFollows (s := { s with account := s.account.endBurn outage })
    ((State.accountFollows_iff _).mpr ⟨status, AccountRecord.inRange.endBurn account outage, grace, store⟩) .account

theorem State.countFailed_accountFollows {s : State} (h : s.accountFollows) : s.countFailed.accountFollows := by
  obtain ⟨status, ⟨⟨wear, burnSeconds, ignitions, hot, _, rest⟩, count⟩, grace, store⟩ := (State.accountFollows_iff s).mp h
  exact (State.accountFollows_iff _).mpr
    ⟨status, ⟨⟨wear, burnSeconds, ignitions, hot, min_le_left _ _, rest⟩, count⟩, grace, store⟩

theorem State.consumeGrace_accountFollows {s : State} (h : s.accountFollows) : s.consumeGrace.accountFollows := by
  unfold State.consumeGrace
  split
  · obtain ⟨status, ⟨⟨wear, burnSeconds, ignitions, hot, failed, outages, left, last⟩, count⟩, grace, store⟩ :=
      (State.accountFollows_iff s).mp h
    exact (State.raise_untouched _ _).account rfl ((State.accountFollows_iff _).mpr
      ⟨status, ⟨⟨wear, burnSeconds, ignitions, hot, failed, outages, (Nat.sub_le _ _).trans left, last⟩, count⟩, grace, store⟩)
  · exact h

theorem State.countIgnition_accountFollows {s : State} (h : s.accountFollows) : s.countIgnition.accountFollows := by
  obtain ⟨status, ⟨⟨wear, burnSeconds, _, hot, rest⟩, count⟩, grace, store⟩ := (State.accountFollows_iff s).mp h
  apply State.consumeGrace_accountFollows
  refine (State.accountFollows_iff _).mpr
    ⟨status, ⟨⟨wear, burnSeconds, min_le_left _ _, ?_, rest⟩, count⟩, grace, store⟩
  simp only [Account.ignited]
  split
  · exact min_le_left _ _
  · exact hot

theorem State.countWarm_accountFollows {s : State} (h : s.accountFollows) : s.countWarm.accountFollows := by
  obtain ⟨status, ⟨record, _, count⟩, grace, store⟩ := (State.accountFollows_iff s).mp h
  exact (State.accountFollows_iff _).mpr ⟨status, ⟨record, min_le_left _ _, count⟩, grace, store⟩

/-! ## The lamp controller -/

theorem State.settleLamp_accountFollows {s : State} (h : s.accountFollows) (old : Lamp) : (s.settleLamp old).accountFollows :=
  (s.settleLamp_untouched old).account rfl h

theorem State.startAttempt_accountFollows {s : State} (h : s.accountFollows) (first : Bool) :
    (s.startAttempt first).accountFollows :=
  State.settleLamp_accountFollows (State.chargeStrike_accountFollows (h.lamp _).figures) _

theorem State.holdStrike_accountFollows {s : State} (h : s.accountFollows) (cause : Blocked) :
    (s.holdStrike cause).accountFollows := (s.holdStrike_untouched cause).account rfl h

theorem State.strikeOrHold_accountFollows {s : State} (h : s.accountFollows) : s.strikeOrHold.accountFollows := by
  unfold State.strikeOrHold
  split
  · exact State.startAttempt_accountFollows h _
  · exact State.holdStrike_accountFollows h _

theorem State.recheckStrike_accountFollows {s : State} (h : s.accountFollows) : s.recheckStrike.accountFollows := by
  unfold State.recheckStrike
  split
  · exact h
  · split
    · exact State.startAttempt_accountFollows h _
    · split
      · exact h
      · exact State.holdStrike_accountFollows h _
  · exact h

theorem State.handAccount_accountFollows {s : State} (h : s.accountFollows) (old : Account) :
    (s.handAccount old).accountFollows := by
  unfold State.handAccount
  split
  · exact h
  · exact State.recheckStrike_accountFollows (State.settleLamp_accountFollows h _)

theorem State.extinguish_accountFollows {s : State} (h : s.accountFollows) (outage : Bool) :
    (s.extinguish outage).accountFollows :=
  State.settleLamp_accountFollows (State.endBurn_accountFollows (h.lamp _) outage) _

theorem State.setDemand_accountFollows {s : State} (h : s.accountFollows) (on : Bool) : (s.setDemand on).accountFollows := by
  simp only [State.setDemand]
  split
  · exact h
  · split
    · exact State.strikeOrHold_accountFollows (h.lamp _)
    · exact State.settleLamp_accountFollows (h.lamp _) _
    · exact State.settleLamp_accountFollows (h.lamp _) _
    · exact State.settleLamp_accountFollows (h.lamp _) _
    · exact h
    · exact h
    · exact State.extinguish_accountFollows (h.lamp _) false

theorem State.setTemp_accountFollows {s : State} (h : s.accountFollows) (t : TempState) : (s.setTemp t).accountFollows := by
  simp only [State.setTemp]
  split
  · exact h
  · have settled := State.settleLamp_accountFollows (h.lamp { s.lamp with temp := t }) s.lamp
    split
    · exact State.extinguish_accountFollows settled false
    · exact State.recheckStrike_accountFollows settled

theorem State.strikeWindowEnds_accountFollows {s : State} (h : s.accountFollows) : s.strikeWindowEnds.accountFollows := by
  unfold State.strikeWindowEnds
  split
  · have counted := State.countFailed_accountFollows ((s.reach_untouched s.lamp.timerEnd).account rfl h)
    dsimp only
    split
    · exact State.settleLamp_accountFollows (counted.lamp _) _
    · exact State.settleLamp_accountFollows (counted.lamp _) _
  · exact h

theorem State.retryWaitEnds_accountFollows {s : State} (h : s.accountFollows) : s.retryWaitEnds.accountFollows := by
  unfold State.retryWaitEnds
  split
  · have due := (s.reach_untouched s.lamp.timerEnd).account rfl h
    dsimp only
    split
    · exact State.startAttempt_accountFollows due _
    · exact State.holdStrike_accountFollows due _
  · exact h

theorem State.warmUpEnds_accountFollows {s : State} (h : s.accountFollows) : s.warmUpEnds.accountFollows := by
  unfold State.warmUpEnds
  split
  · exact State.settleLamp_accountFollows (((s.reach_untouched s.lamp.timerEnd).account rfl h).lamp _) _
  · exact h

theorem State.cooldownEnds_accountFollows {s : State} (h : s.accountFollows) : s.cooldownEnds.accountFollows := by
  unfold State.cooldownEnds
  split
  · have off := State.settleLamp_accountFollows
      (s := { s.reach s.lamp.timerEnd with lamp := { s.lamp with state := .off .none } }) h s.lamp
    dsimp only
    split
    · exact State.strikeOrHold_accountFollows off
    · exact off
  · exact h

theorem State.litConfirms_accountFollows {s : State} (h : s.accountFollows) : s.litConfirms.accountFollows := by
  unfold State.litConfirms
  split
  · rename_i rise _ _
    split
    · have counted := State.countIgnition_accountFollows ((s.reach_untouched (rise + litHold)).account rfl h)
      exact State.settleLamp_accountFollows (counted.lamp _) _
    · exact h
  · exact h

theorem State.outageFalls_accountFollows {s : State} (h : s.accountFollows) : s.outageFalls.accountFollows := by
  unfold State.outageFalls
  split
  · split
    · exact State.extinguish_accountFollows ((s.reach_untouched _).account rfl h) true
    · exact h
  · exact h

/-- R33: handing the account over with no strike held settles the lamp and leaves the account alone. -/
theorem State.handAccount_untouched_free {s : State} (old : Account) (free : ∀ b, s.lamp.state = .off b → b = .none) :
    Untouched ballastBlocks s (s.handAccount old) := by
  unfold State.handAccount
  split
  · exact .refl _ _
  · rw [State.recheckStrike_idle _ (by simpa using free)]
    exact s.settleLamp_untouched _

/-- R3, R15: a charged second, with the checkpoint that may become due. -/
theorem State.chargeSecond_accountFollows {s : State} (h : s.accountFollows) : s.chargeSecond.accountFollows := by
  unfold State.chargeSecond
  split
  · rename_i shining
    obtain ⟨_, ⟨⟨_, _, record⟩, warm, _, checkpoint⟩, grace, store⟩ := (State.accountFollows_iff s).mp h
    obtain ⟨t, charged⟩ : ∃ t : State, t = State.deriveStatus
        { s with account := s.account.chargeSecond (secondWeight s.lamp.state s.pins.level) } := ⟨_, rfl⟩
    have account : t.account.status = t.statusNow ∧ t.account.record.inRange ∧ t.account.warmCount ≤ 1800
        ∧ t.account.currentBurn ≤ 4294967295 := by
      subst charged
      refine ⟨by simp [State.statusNow], ?_⟩
      simp only [State.deriveStatus_account]
      exact ⟨⟨min_le_left _ _, min_le_left _ _, record⟩, warm, min_le_left _ _⟩
    have kept : t.lamp = s.lamp ∧ t.settings = s.settings ∧ t.store = s.store := by subst charged; simp
    rw [← charged]
    have handed := State.handAccount_untouched_free (s := t) s.account fun b off => by
      rw [kept.1] at off
      simp [off, LampState.shining] at shining
    have sameAccount : (t.handAccount s.account).account = t.account := handed .account (by decide)
    have sameSettings : (t.handAccount s.account).settings = t.settings := handed .settings (by decide)
    have sameStore : (t.handAccount s.account).store = t.store := handed .store (by decide)
    apply State.checkpointIfDue_accountFollows <;> simp only [State.statusNow, sameAccount, sameSettings, sameStore]
    · exact account.1
    · exact account.2.1
    · exact account.2.2.1
    · exact account.2.2.2
    · rw [kept.2.1]; exact grace
    · rw [kept.2.2]; exact store
  · exact h

/-! ## The policy unit and the session controller -/

theorem State.deriveEffective_accountFollows {s : State} (h : s.accountFollows) (q : Bool) :
    (s.deriveEffective q).accountFollows := by
  unfold State.deriveEffective
  split
  · exact h
  · exact State.recheckStrike_accountFollows ((State.raiseIf_untouched _ _ _).account rfl (h.policy _))

theorem State.setOverride_accountFollows {s : State} (h : s.accountFollows) (o : Option Override) :
    (s.setOverride o).accountFollows := State.deriveEffective_accountFollows (h.policy _) _

theorem State.setBase_accountFollows {s : State} (h : s.accountFollows) (level : Level) (q : Bool) :
    (s.setBase level q).accountFollows := State.deriveEffective_accountFollows (h.policy _) _

theorem State.handOver_accountFollows {s : State} (h : s.accountFollows) (q : Bool) : (s.handOver q).accountFollows :=
  (State.setBridgeMute_untouched _ _).account rfl
    (State.setDemand_accountFollows
      ((State.setRequested_untouched _ _).account rfl (State.setBase_accountFollows h _ _)) _)

theorem State.runner_accountFollows {s : State} (h : s.accountFollows) (ev : RunnerEvent) : (s.runner ev).accountFollows :=
  (State.raiseIf_untouched _ _ _).account rfl
    ((State.serveSource_untouched _ _).account rfl (State.handOver_accountFollows (h.session _) _))

theorem State.putSession_accountFollows {s : State} (h : s.accountFollows) (r : Session) :
    (s.putSession r).accountFollows :=
  (State.raiseIf_untouched _ _ _).account rfl (State.handOver_accountFollows (h.session _) _)

theorem State.minuteEvent_accountFollows {s : State} (h : s.accountFollows) (wrapped : Bool) :
    (s.minuteEvent wrapped).accountFollows :=
  State.runner_accountFollows ((s.recompute_untouched false).account rfl h) _

theorem State.takeMinute_accountFollows {s : State} (h : s.accountFollows) (wrapped first : Bool) :
    (s.takeMinute wrapped first).accountFollows := by
  unfold State.takeMinute
  split
  · exact h
  · split
    · exact State.minuteEvent_accountFollows (State.setOverride_accountFollows h _) _
    · exact State.setOverride_accountFollows (State.minuteEvent_accountFollows h _) _

theorem State.accountSecond_accountFollows {s : State} (h : s.accountFollows) : s.accountSecond.accountFollows :=
  State.countWarm_accountFollows (State.chargeSecond_accountFollows h)

theorem State.secondPasses_accountFollows {s : State} (h : s.accountFollows) (a b : Bool) :
    (s.secondPasses a b).accountFollows := by
  have clock := s.advanceClock_untouched.account rfl h
  simp only [State.secondPasses]
  split
  · exact State.accountSecond_accountFollows clock
  · split
    · exact State.takeMinute_accountFollows (State.accountSecond_accountFollows clock) _ _
    · exact State.accountSecond_accountFollows (State.takeMinute_accountFollows clock _ _)

theorem State.changeTable_accountFollows {s : State} (h : s.accountFollows) (table : List Entry) (replaced : Option Nat) :
    (s.changeTable table replaced).accountFollows :=
  State.runner_accountFollows ((State.recompute_untouched _ _).account rfl
    (State.queueKind_accountFollows ((State.raise_untouched { s with table := table } .schedule).account rfl h) _)) _

/-! ## The requests -/

theorem State.serviceAccount_accountFollows {s : State} (h : s.accountFollows) {a : Account} (range : a.inRange) :
    (s.serviceAccount a).accountFollows := by
  obtain ⟨record, warm, burn, _⟩ := range
  obtain ⟨_, grace, store⟩ := h.figures
  exact State.handAccount_accountFollows (State.queueKind_accountFollows ((State.raiseIf_untouched _ _ _).account rfl
    (State.deriveStatus_accountFollows (s := { s with account := { a with checkpoint := 0 } })
      ⟨⟨record, warm, burn, Nat.succ_pos 359⟩, grace, store⟩)) _) _

theorem ownLampReplaced_accountFollows {s : State} (h : s.accountFollows) : (ownLampReplaced s).state.accountFollows := by
  unfold ownLampReplaced
  split
  · obtain ⟨⟨_, _, burn, checkpoint⟩, grace, _⟩ := h.figures
    exact State.serviceAccount_accountFollows h
      ⟨by simpa [AccountRecord.inRange, freshRecord] using grace, le_refl 1800, burn, checkpoint⟩
  · exact h

/-- R4, R13: the greatest number of hours gives a wear below the cap. -/
theorem ownAccountSet_accountFollows {s : State} (h : s.accountFollows) (hours : BitVec 16) :
    (ownAccountSet hours s).state.accountFollows := by
  unfold ownAccountSet
  split
  · obtain ⟨⟨⟨_, record⟩, rest⟩, _, _⟩ := h.figures
    have wear : hours.toNat * wearPerHour ≤ 3774873599 := by
      have := hours.isLt
      simp only [wearPerHour]
      omega
    exact State.serviceAccount_accountFollows h ⟨⟨wear, record⟩, rest⟩
  · exact h

theorem answerSession_accountFollows {s : State} (h : s.accountFollows) (r : Session × Status) :
    (answerSession s r).state.accountFollows := by
  simp only [answerSession]
  split
  · split
    · exact h
    · exact State.putSession_accountFollows h _
  · exact h

/-- R181: no write but their own changes the two limits. -/
theorem Settings.put_limits (v : Settings) {i : SettingId} (n : Nat) (life : i ≠ .lifeLimit) (margin : i ≠ .warningMargin) :
    (v.put i n).lifeLimit = v.lifeLimit ∧ (v.put i n).warningMargin = v.warningMargin := by
  cases i with
  | lifeLimit => exact (life rfl).elim
  | warningMargin => exact (margin rfl).elim
  | rate l | mask l => cases l <;> exact ⟨rfl, rfl⟩
  | _ => exact ⟨rfl, rfl⟩

/-- R9, R181: the grace setting stays at most 9. -/
theorem Settings.put_graceSetting_le {v : Settings} (h : v.graceSetting ≤ 9) (i : SettingId) (n : Nat) :
    (v.put i n).graceSetting ≤ 9 := by
  cases i with
  | graceSetting => simp [Settings.put, clampNat]
  | rate l | mask l => cases l <;> exact h
  | _ => exact h

theorem State.settleLine_accountFollows {s : State} (h : s.accountFollows) (l : Link) : (s.settleLine l).accountFollows := by
  simpa [State.accountFollows] using h

theorem State.rateWritten_accountFollows {s : State} (h : s.accountFollows) (l : Link) : (s.rateWritten l).accountFollows := by
  simpa [State.accountFollows, State.rateWritten] using h

theorem State.settingWritten_accountFollows {s : State} (h : s.accountFollows) (i : SettingId) :
    (s.settingWritten i).accountFollows := by
  cases i with
  | lifeLimit | warningMargin =>
    exact State.handAccount_accountFollows (State.deriveStatus_accountFollows h.figures) _
  | missLimit => exact s.missLimitWritten_untouched.account rfl h
  | panelWidth | panelHeight => exact (s.putGeometry_untouched _).account rfl h
  | tiltGain | tiltAveraging =>
    simp only [State.settingWritten, State.tiltSettingWritten]
    split
    · exact h
    · exact (s.putGeometry_untouched _).account rfl h
  | idleLevel | walkupLevel => exact State.setBase_accountFollows h _ _
  | rate l => exact State.rateWritten_accountFollows h l
  | mask l => exact State.settleLine_accountFollows h l
  | _ => exact h

theorem ownSettingWrite_accountFollows {s : State} (h : s.accountFollows) (id : Byte) (value : BitVec 32) :
    (ownSettingWrite id value s).state.accountFollows := by
  unfold ownSettingWrite
  split
  · exact h
  · rename_i i _
    apply State.queueKind_accountFollows
    obtain ⟨status, account, grace, store⟩ := (State.accountFollows_iff s).mp h
    have figures : { s with settings := s.settings.put i value.toNat }.figuresInRange :=
      ⟨account, Settings.put_graceSetting_le grace i _, store⟩
    by_cases limit : i = .lifeLimit ∨ i = .warningMargin
    · have derived := State.handAccount_accountFollows (State.deriveStatus_accountFollows figures) s.account
      rcases limit with rfl | rfl
      · exact derived
      · exact derived
    · rw [not_or] at limit
      obtain ⟨life, margin⟩ := Settings.put_limits s.settings value.toNat limit.1 limit.2
      refine State.settingWritten_accountFollows ((State.accountFollows_iff _).mpr ⟨?_, figures⟩) i
      simpa [State.statusNow, life, margin] using status


theorem State.putEntry_accountFollows {s : State} (h : s.accountFollows) (e : Entry) :
    (s.putEntry e).state.accountFollows := by
  unfold State.putEntry
  split
  · exact h
  · dsimp only
    split
    · exact h
    · exact State.changeTable_accountFollows h _ _

/-- Every owner of a request keeps the invariant. -/
theorem Owned.accountFollows {l : Link} {own : State → Answer} (owned : Owned l own) {s : State} (h : s.accountFollows) :
    (own s).state.accountFollows := by
  cases owned with
  | roomRead | countersRead | lampRead | sourceRead | plateRead | lockoutRead | clockRead | entryList | occurrenceRead
  | countersClear | restart => exact h
  | noticeRead => simpa [ownNoticeRead, State.accountFollows] using h
  | sessionStart | sessionEnd | sessionExtend | lampLevel => exact answerSession_accountFollows h _
  | lampReplaced => exact ownLampReplaced_accountFollows h
  | accountSet hours => exact ownAccountSet_accountFollows h hours
  | sourceSelect plate => exact (s.requestSwitch_untouched _ _).account rfl h
  | pictureMute onOff =>
    unfold ownPictureMute
    split
    · exact h
    · exact (State.settleMute_untouched _).account rfl ((s.switch_update_untouched _).account rfl h)
  | geometrySet mode v hor trim =>
    unfold ownGeometrySet
    split
    · exact h
    · exact (s.putGeometry_untouched _).account rfl h
  | geometryTrim => exact (s.putGeometry_untouched _).account rfl h
  | presetStore =>
    exact State.queueKind_accountFollows ((s.geometry_update_untouched _).account rfl h) _
  | geometryRead plate =>
    cases plate with
    | none => exact h
    | some plate =>
      simp only [ownGeometryRead]
      split <;> exact h
  | tiltReport tilt => exact (s.putGeometry_untouched _).account rfl h
  | engineReport temperature =>
    unfold ownEngineReport
    split
    · exact h
    · exact State.setTemp_accountFollows h _
  | overrideSet level minutes =>
    unfold ownOverrideSet
    split
    · exact h
    · split
      · exact h
      · exact State.setOverride_accountFollows h _
  | overrideClear => exact State.setOverride_accountFollows h _
  | clockSet date hour minute =>
    unfold ownClockSet
    split
    · exact h
    · rename_i c _
      have set := (State.raise_untouched { s with clock := c } .clock).account rfl ((s.clock_update_untouched c).account rfl h)
      exact State.runner_accountFollows ((State.recompute_untouched _ _).account rfl set) _
  | entryPut raw =>
    unfold ownEntryPut
    split
    · exact h
    · split
      · exact State.putEntry_accountFollows h _
      · exact h
  | entryDelete id =>
    unfold ownEntryDelete
    split
    · exact State.changeTable_accountFollows h _ _
    · exact h
  | entryRead id =>
    unfold ownEntryRead
    split <;> exact h
  | scheduleClear =>
    unfold ownScheduleClear
    split
    · exact h
    · exact State.changeTable_accountFollows h _ _
  | settingWrite id value => exact ownSettingWrite_accountFollows h id value
  | settingRead id =>
    unfold ownSettingRead
    split <;> exact h

theorem accountFollows_keptByRequests : KeptByRequests State.accountFollows where
  line h := h.account rfl
  owner _ owned := owned.accountFollows

/-! ## Resets and start-up -/

theorem State.afterReset_accountFollows {s : State} (h : s.store.accountInRange) (cause : Cause) (cut : SlotLeft) :
    (s.afterReset cause cut).accountFollows := by
  refine (State.accountFollows_iff _).mpr ⟨?_, ?_, ?_, h.afterReset cut⟩
  · show WearStatus.good = statusOf (hoursOf 0) 3000 200
    decide
  · simp [State.afterReset, Account.inRange, AccountRecord.inRange]
  · simp [State.afterReset]

/-- R9, R184: the settings of a loaded record hold a grace setting of at most 9, each value being clamped. -/
theorem settingsOf_graceSetting_le (values : List Nat) : (settingsOf values).graceSetting ≤ 9 := by
  unfold settingsOf
  generalize allSettings.zip values = writes
  suffices h : ∀ v : Settings, v.graceSetting ≤ 9 → (writes.foldl (fun v p => v.put p.1 p.2) v).graceSetting ≤ 9 from
    h {} (by decide)
  induction writes with
  | nil => exact fun _ h => h
  | cons p rest ih => exact fun v h => ih _ (Settings.put_graceSetting_le h p.1 p.2)

/-- A found bad mark leaves the content of slots and write alone. -/
theorem State.foundBad_figures {s : State} (h : s.figuresInRange) (k : Kind) : (s.foundBad k).figuresInRange :=
  (State.raise_untouched _ _).figures rfl h

theorem State.foundBad_accountFollows {s : State} (h : s.accountFollows) (k : Kind) : (s.foundBad k).accountFollows :=
  (State.raise_untouched _ _).account rfl h

theorem State.loadSettings_figures {s : State} (h : s.figuresInRange) : s.loadSettings.figuresInRange := by
  obtain ⟨account, _, store⟩ := h
  unfold State.loadSettings
  split
  · exact ⟨account, settingsOf_graceSetting_le _, store⟩
  · have defaults : { s with settings := {} }.figuresInRange := ⟨account, show 2 ≤ 9 by decide, store⟩
    exact State.foundBad_figures defaults _

theorem StoreSlot.good_eq_some {x : StoreSlot} {r : Record} (h : x.good = some r) : ∃ crc, x = .whole r crc := by
  cases x with
  | bad => cases h
  | whole content crc =>
    simp only [StoreSlot.good] at h
    split at h
    · cases h; exact ⟨crc, rfl⟩
    · cases h

/-- R17, R18: the account of a record in range, as start-up begins it. -/
theorem State.loadAccount_accountFollows {s : State} (h : s.figuresInRange) {r : AccountRecord} (range : r.inRange) :
    (s.loadAccount r).accountFollows := by
  obtain ⟨⟨_, warm, _⟩, grace, store⟩ := h
  exact (State.accountFollows_iff _).mpr ⟨rfl, ⟨range, warm, Nat.zero_le _, Nat.succ_pos 359⟩, grace, store⟩

theorem State.loadAccountRecord_accountFollows {s : State} (h : s.figuresInRange) : s.loadAccountRecord.accountFollows := by
  unfold State.loadAccountRecord
  split
  · rename_i r good
    obtain ⟨crc, slot⟩ := StoreSlot.good_eq_some good
    obtain ⟨_, burnSeconds, ignitions, hot, failed, outages, _, last⟩ := h.2.2.1 r crc slot
    exact State.loadAccount_accountFollows h
      ⟨min_le_left _ _, burnSeconds, ignitions, hot, failed, outages, min_le_left _ _, last⟩
  · have blank : (blankRecord s.settings.graceSetting).inRange := by
      simpa [blankRecord, AccountRecord.inRange] using h.2.1
    exact (State.raise_untouched _ _).account rfl
      (State.foundBad_accountFollows (State.loadAccount_accountFollows h blank) _)

theorem State.loadSchedule_accountFollows {s : State} (h : s.accountFollows) : s.loadSchedule.accountFollows := by
  have taken := fun x => (s.table_update_untouched x).account rfl h
  unfold State.loadSchedule
  split
  · split
    · exact taken _
    · exact State.foundBad_accountFollows (taken _) _
  · exact State.foundBad_accountFollows (taken _) _

theorem State.loadPresets_accountFollows {s : State} (h : s.accountFollows) : s.loadPresets.accountFollows := by
  have taken := fun x => (s.geometry_update_untouched x).account rfl h
  unfold State.loadPresets
  split
  · exact taken _
  · exact State.foundBad_accountFollows (taken _) _

theorem State.loadRecords_accountFollows {s : State} (h : s.figuresInRange) : s.loadRecords.accountFollows := by
  have settings : s.loadSettings.enableReceivers.takeSettings.figuresInRange := State.loadSettings_figures h
  have loaded := State.loadPresets_accountFollows
    (State.loadSchedule_accountFollows (State.loadAccountRecord_accountFollows settings))
  exact loaded

theorem State.releaseLink_accountFollows {s : State} (h : s.accountFollows) (l : Link) : (s.releaseLink l).accountFollows :=
  State.settleLine_accountFollows (by simpa [State.accountFollows] using h) l

theorem State.evaluateSession_accountFollows {s : State} (h : s.accountFollows) : s.evaluateSession.accountFollows :=
  State.runner_accountFollows ((s.recompute_untouched true).account rfl h) _

theorem State.checkBackup_accountFollows {s : State} (h : s.accountFollows) : s.checkBackup.accountFollows := by
  unfold State.checkBackup
  split
  · exact (State.raise_untouched _ _).account rfl ((s.clock_update_untouched _).account rfl h)
  · exact h

theorem State.release_accountFollows {s : State} (h : s.accountFollows) : s.release.accountFollows :=
  State.releaseLink_accountFollows (State.releaseLink_accountFollows (State.releaseLink_accountFollows h .engine) .lectern)
    .campus

theorem State.watchSupply_accountFollows {s : State} (h : s.accountFollows) : s.watchSupply.accountFollows := by
  unfold State.watchSupply
  split
  · exact State.warnSupply_accountFollows h
  · exact h

theorem State.startUp_accountFollows {s : State} (h : s.accountFollows) : s.startUp.accountFollows := by
  unfold State.startUp
  split
  · exact h
  · have loaded := State.loadRecords_accountFollows h.figures
    have evaluated := State.evaluateSession_accountFollows (State.checkBackup_accountFollows loaded)
    have watched := State.watchSupply_accountFollows (State.release_accountFollows evaluated)
    exact (State.startCycle_untouched _).account rfl (State.startWrite_accountFollows watched)

theorem State.responseSent_accountFollows {s : State} (h : s.accountFollows) (l : Link) (cut : SlotLeft) :
    (s.responseSent l cut).accountFollows := by
  unfold State.responseSent
  split
  · split
    · exact State.afterReset_accountFollows (s := s.reach (s.link l).sendEnd) h.figures.2.2 .restart cut
    · exact (s.finishResponse_untouched l).account rfl h
  · exact h

theorem State.silenceFound_accountFollows {s : State} (h : s.accountFollows) : s.silenceFound.accountFollows := by
  unfold State.silenceFound
  split
  · exact h
  · exact State.setTemp_accountFollows ((s.reach_untouched _).account rfl h) .unknown

/-! ## Every step -/

theorem exec_accountFollows (c : Instr) {s t : State} (h : s.accountFollows) (taken : exec c s = .next t) :
    t.accountFollows := by
  have store := h.figures.2.2
  cases c
  case powerOn cut backup => cases taken; exact State.afterReset_accountFollows store .powerOn cut
  case resetPin cut => cases taken; exact State.afterReset_accountFollows store .resetPin cut
  case supplyDrop cut => cases taken; exact State.afterReset_accountFollows store .supplyDrop cut
  case startUpComplete => cases taken; exact State.startUp_accountFollows h
  case receiveByte l b => cases taken; exact (s.byteArrives_untouched l b).account rfl h
  case gap l => cases taken; exact (s.gapExpires_untouched l).account rfl h
  case frameTake l => cases taken; exact accountFollows_keptByRequests.takeNext l h
  case responseSent l cut => cases taken; exact State.responseSent_accountFollows h l cut
  case engineSilence => cases taken; exact State.silenceFound_accountFollows h
  case secondEvent => cases taken; exact State.secondPasses_accountFollows h _ _
  case litChange high dt =>
    cases taken
    exact ((s.elapse_untouched dt).andThen (State.litChanges_untouched _ high) (C := [.time, .pins, .lamp]) rfl rfl).account
      rfl h
  case litConfirmed => cases taken; exact State.litConfirms_accountFollows h
  case outage => cases taken; exact State.outageFalls_accountFollows h
  case strikeWindowExpiry => cases taken; exact State.strikeWindowEnds_accountFollows h
  case retryWaitExpiry => cases taken; exact State.retryWaitEnds_accountFollows h
  case warmUpExpiry => cases taken; exact State.warmUpEnds_accountFollows h
  case cooldownExpiry => cases taken; exact State.cooldownEnds_accountFollows h
  case pollSent => cases taken; exact s.pollEnds_untouched.account rfl h
  case busByteReceived b => cases taken; exact (s.busByte_untouched b).account rfl h
  case replyWindowExpiry => cases taken; exact s.windowEnds_untouched.account rfl h
  case cycleGapExpiry => cases taken; exact s.cycleGapEnds_untouched.account rfl h
  case vsyncEdge edge dt =>
    cases taken
    exact ((s.elapse_untouched dt).andThen (State.vsync_untouched _ edge) (C := .time :: routeBlocks) rfl rfl).account rfl h
  case muteLeadExpiry => cases taken; exact s.muteLeadEnds_untouched.account rfl h
  case maskExpiry => cases taken; exact s.maskEnds_untouched.account rfl h
  case seekWindowExpiry => cases taken; exact s.seekEnds_untouched.account rfl h
  case confirmDelayExpiry => cases taken; exact s.confirmEnds_untouched.account rfl h
  case syncWatchExpiry => cases taken; exact s.watchEnds_untouched.account rfl h
  case tiltSilenceExpiry => cases taken; exact s.tiltGoesSilent_untouched.account rfl h
  case writeComplete readBack => cases taken; exact State.completeWrite_accountFollows h readBack
  case supplyWarning =>
    cases taken
    split
    · exact State.warnSupply_accountFollows (s := { s with supply := _ }) h
    · exact h
  case supplyRecover => cases taken; exact h
  all_goals
    rw [exec_request rfl] at taken
    cases taken
    exact accountFollows_keptByRequests.takeRequest _ _ _ h

/-- Settles O11: the invariant holds of the figures after every command, shown operation by operation. -/
theorem accountFiguresStayInRange : Obligations.AccountFiguresStayInRange :=
  keptByEveryStep_of_exec (fun frame => frame.account rfl) exec_accountFollows

end Sys2Proof.Machine
end

section
/-! The state after a reset, and the settings' values. -/

namespace Sys2Proof.Machine

open Sys2Proof.Config

/-! ## The state right after a reset -/

theorem reset_linesFollow : State.reset.linesFollow := by intro l; cases l <;> rfl

theorem reset_geometryFollows : State.reset.geometryFollows := by
  refine ⟨by simp [State.reset, Preset.inRange], ?_, rfl, rfl, by decide⟩
  intro p member
  rw [show p = {} from List.eq_of_mem_replicate member]
  simp [Preset.inRange]

theorem reset_platesHeard : State.reset.platesHeard := by unfold State.platesHeard; decide

theorem reset_tableGood : State.reset.tableGood := ⟨Nat.zero_le _, by rintro e ⟨⟩, List.Pairwise.nil⟩

theorem reset_accountFollows : State.reset.accountFollows :=
  (State.accountFollows_iff _).mpr
    ⟨by decide, ⟨by unfold AccountRecord.inRange; decide, by decide⟩, by decide, by rintro r crc ⟨⟩, by rintro w r crc ⟨⟩⟩

/-- Start-up has not run, so the finder's and the ends' part is about no session. -/
theorem reset_timetableFollows : State.reset.timetableFollows :=
  ⟨by rintro ⟨⟩, by rintro b ⟨⟩, fun _ => rfl⟩

theorem reset_endsBounded : State.reset.endsBounded := by
  refine ⟨reset_tableGood, by unfold Clock.valid; decide, by decide, by decide, by rintro ⟨⟩,
    fun _ => ⟨rfl, fun l => by cases l <;> rfl⟩, ?_⟩
  rintro e (⟨a, w, ⟨⟩⟩ | ⟨a, ⟨⟩⟩)

theorem reset_buffersFit : State.reset.buffersFit := by intro l; cases l <;> decide

/-- Settles O13: each invariant read off the reset values. -/
theorem resetHasEveryInvariant : Obligations.ResetHasEveryInvariant :=
  ⟨reset_linesFollow, ⟨rfl, rfl⟩, by unfold State.lampFollows; decide, List.nodup_nil, reset_tableGood,
    reset_geometryFollows, by unfold State.handedOver; decide, reset_platesHeard, reset_accountFollows,
    reset_timetableFollows, reset_endsBounded, reset_buffersFit⟩

/-! ## The settings' values (R181) -/

/-- R181: another setting keeps its value when one is written. -/
theorem Settings.get_put_other (v : Settings) {i j : SettingId} (n : Nat) (h : j ≠ i) : (v.put i n).get j = v.get j := by
  cases i with
  | rate l | mask l =>
    cases l <;> cases j with
    | rate k | mask k => cases k <;> first | rfl | exact (h rfl).elim
    | _ => rfl
  | _ => cases j <;> first | rfl | exact (h rfl).elim

theorem levelClamped_code (n : Nat) : (levelClamped n).code = max 0 (min 4 n) := by
  rcases n with _ | _ | _ | _ | _ | n <;> simp [levelClamped, levelOfCode, Level.code]

theorem averagingClamped_eq (n : Nat) :
    averagingClamped n = if n ≤ 1 then 1 else if n ≤ 2 then 2 else if n ≤ 4 then 4 else 8 := by
  simp only [averagingClamped, clampList, ite_self]

theorem rateClamped_eq (n : Nat) :
    rateClamped n = if n ≤ 9600 then 9600 else
      if n ≤ 19200 then 19200 else if n ≤ 38400 then 38400 else if n ≤ 57600 then 57600 else 115200 := by
  simp only [rateClamped, rates, clampList, ite_self]

/-- Settles O46, setting by setting. -/
theorem settingValuesAreClamped : Obligations.SettingValuesAreClamped := by
  intro v i j n
  refine ⟨v.get_put_other n, ?_⟩
  cases i with
  | averaging | tiltAveraging => exact averagingClamped_eq n
  | idleLevel | walkupLevel => exact levelClamped_code n
  | rate l => cases l <;> exact rateClamped_eq n
  | mask l => cases l <;> exact BitVec.toNat_ofNat n 12
  | follow => rcases n with _ | n <;> simp [Settings.put, Settings.get]
  | fallback => rcases n with _ | n <;> simp [Settings.put, Settings.get, fallbackClamped]
  | _ => rfl

end Sys2Proof.Machine
end

section
/-! What each reset leaves, and the answers of ROOM_READ and LAMP_READ. -/

namespace Sys2Proof.Machine

open Sys2Proof.Config

/-! ## Resets (R183, R185) -/

/-- R60: the record of each address after a reset. -/
theorem platesAfterReset_getElem? (final : Nat) {n : Nat} (h : n < 12) :
    (platesAfterReset final)[n]? = some { state := if n + 1 ≤ final then .absent else .unconfigured } := by
  simp [platesAfterReset, h]

/-- R185: each slot after a reset, by the write it may have cut. -/
theorem Store.afterReset_slot {x : Store} {w : Write} (writing : x.write = some w) (cut : SlotLeft) (k : Kind) :
    (x.afterReset cut).slots.get k =
      if k = w.kind then slotAfter cut (x.slots.get k) w.slot else x.slots.get k := by
  simp only [Store.afterReset, writing]
  by_cases same : k = w.kind
  · subst same
    cases w.kind <;> simp [PerKind.set, PerKind.get]
  · rw [if_neg same]
    cases k <;> cases e : w.kind <;> first | rfl | exact (same e.symm).elim

theorem Store.afterReset_idle {x : Store} (idle : x.write = none) (cut : SlotLeft) : (x.afterReset cut).slots = x.slots := by
  simp [Store.afterReset, idle]

theorem resets_cut_the_write (cut : SlotLeft) (c : Instr) (s : State)
    (reset : c = .resetPin cut ∨ c = .supplyDrop cut ∨ ∃ b, c = .powerOn cut b) :
    ∃ t, exec c s = .next t ∧ t.store = s.store.afterReset cut := by
  rcases reset with rfl | rfl | ⟨_, rfl⟩ <;> exact ⟨_, rfl, rfl⟩

/-- R60, R183: what every reset leaves of the blocks. -/
theorem State.afterReset_link (s : State) (cause : Cause) (cut : SlotLeft) (l : Link) :
    ∃ rate, (s.afterReset cause cut).link l = linkAfterReset rate := by
  cases l <;> exact ⟨_, rfl⟩

/-- Settles O20: the reset values are read off, the slots by whether a write was cut. -/
theorem resetLeavesTheSpecsState : Obligations.ResetLeavesTheSpecsState := by
  refine ⟨fun cut s => ⟨⟨_, rfl, rfl, rfl, rfl⟩, ⟨_, rfl, rfl, rfl, rfl⟩, fun seconds => ⟨_, rfl, rfl, rfl, rfl⟩,
    ⟨_, rfl, rfl, rfl, rfl⟩, fun cause => ?_⟩, fun cut c s reset => ?_⟩
  · refine ⟨rfl, rfl, rfl, rfl, rfl, rfl, rfl, rfl, rfl, rfl, rfl, rfl, fun n below => ?_, rfl, rfl, rfl, rfl, rfl,
      fun l => ?_, rfl, rfl, rfl, rfl, rfl, rfl, rfl, rfl, rfl, rfl, rfl, rfl⟩
    · exact ⟨_, platesAfterReset_getElem? 4 below, rfl, rfl, rfl, rfl, rfl, rfl, rfl⟩
    · obtain ⟨rate, link⟩ := s.afterReset_link cause cut l
      rw [link]
      exact ⟨rfl, rfl, rfl, rfl, rfl, rfl, rfl, rfl, rfl⟩
  · obtain ⟨t, taken, store⟩ := resets_cut_the_write cut c s reset
    refine ⟨t, taken, ?_⟩
    rw [store]
    refine ⟨rfl, rfl, fun idle => Store.afterReset_idle idle cut, fun w writing k => ?_⟩
    rw [Store.afterReset_slot writing]
    cases cut <;> rfl

/-! ## Admitted requests -/

/-- The state that has heard a row's frame differs from the one before on its link and in the silence count alone. -/
theorem State.hearing_untouched (s : State) (i : Instr) : Untouched [.links, .attention, .silence] s (s.hearing i) := by
  unfold State.hearing
  split
  · exact (State.setLink_untouched_of (by rfl)).andThen (State.hear_untouched _ _) (by rfl) (by rfl)
  · exact .refl _ _

theorem State.hearing_silence (s : State) {i : Instr} {l : Link} {c : Command} (row : requestOf i = some (l, c)) :
    (s.hearing i).silence = heardOn l s := by
  simp only [State.hearing, row]
  cases l <;> rfl

/-- An admitted row is answered by its owner, on the state that has heard the frame. -/
theorem exec_admitted {i : Instr} {l : Link} {c : Command} {s : State} {own : State → Answer}
    (row : requestOf i = some (l, c)) (h : Admitted c l s) (sendable : (payloadOf i).length ≤ 59)
    (fields : ownerOf c l (payloadOf i) = some own) :
    exec i s = answered c l (own (s.hearing i)).state (own (s.hearing i)).status (own (s.hearing i)).payload := by
  rw [exec_request row, State.takeRequest_admitted h sendable fields, State.hearing, row]
  rfl

/-! ## ROOM_READ (R159) -/

/-- 11, ENCODINGS: the bits of a byte of eight flags. -/
theorem byte_of_flags (a b c d e f g h : Bool) :
    let x := byte (bit a 0 + bit b 1 + bit c 2 + bit d 3 + bit e 4 + bit f 5 + bit g 6 + bit h 7)
    x.getLsbD 0 = a ∧ x.getLsbD 1 = b ∧ x.getLsbD 2 = c ∧ x.getLsbD 3 = d ∧ x.getLsbD 4 = e ∧ x.getLsbD 5 = f
      ∧ x.getLsbD 6 = g ∧ x.getLsbD 7 = h := by
  revert a b c d e f g h
  decide

/-- 11, ROOM_READ ANSWER: offsets 0 to 18, the record without its label. -/
def RoomUse.head (u : RoomUse) : List Byte :=
  [byte u.code, byte ((u.booking.map Booking.id).getD 0), orAbsent (u.booking.map fun b => if b.running then 1 else 0)]
    ++ boundBytes (u.booking.map Booking.date) ++ minuteCountBytes u.start ++ minuteCountBytes u.stop

def RoomUse.label (u : RoomUse) : List Byte := (u.booking.map Booking.label).getD []

theorem State.roomBytes_eq (s : State) :
    s.roomBytes = s.session.use.head
      ++ ([s.roomFlags, byte s.session.requested.code, byte s.baseLevel.code, s.store.markBits, s.supply.causeBits]
        ++ labelBytes s.session.use.label) := by
  simp [State.roomBytes, RoomUse.head, RoomUse.label]

theorem RoomUse.head_length (u : RoomUse) : u.head.length = 19 := by cases u <;> rfl

theorem answered_roomRead {l : Link} {s : State} (h : Listening l s) :
    exec (.roomRead l) s
      = answered .roomRead l (s.hearing (.roomRead l)) .ok (s.hearing (.roomRead l)).roomBytes :=
  exec_admitted (i := .roomRead l) rfl (admitted_of_enquiry h rfl rfl) (Nat.zero_le _) rfl

end Sys2Proof.Machine
end

section
/-! The answers of ROOM_READ and LAMP_READ, field by field. -/

namespace Sys2Proof.Machine

open Sys2Proof.Config

/-! ## The fields of ROOM_READ -/

theorem RoomUse.head_code (u : RoomUse) (rest : List Byte) :
    (u.head ++ rest)[0]? = some (match u with
      | .none => (0 : Byte)
      | .booked _ => 1
      | .walkup _ _ _ => 2
      | .bridge _ _ => 3) := by cases u <;> rfl

theorem RoomUse.head_booked (b : Booking) (rest : List Byte) :
    (((RoomUse.booked b).head ++ rest).take 7).drop 1
      = [byte b.id, if b.running then 1 else 0] ++ be16 b.date.year ++ [byte b.date.month, byte b.date.day] := by
  cases b with
  | mk id date running start stop label owed => cases running <;> rfl

theorem RoomUse.head_unbooked {u : RoomUse} (h : ∀ b, u ≠ .booked b) (rest : List Byte) :
    ((u.head ++ rest).take 7).drop 1 = [0, 0xFF, 0, 0, 0, 0] := by
  cases u with
  | booked b => exact (h b rfl).elim
  | _ => rfl

theorem RoomUse.head_ends {u : RoomUse} {a b : Nat} (start : u.start = some a) (stop : u.stop = some b)
    (rest : List Byte) :
    ((u.head ++ rest).take 19).drop 7
      = be16 (dateOfNumber (a / 1440)).year
        ++ [byte (dateOfNumber (a / 1440)).month, byte (dateOfNumber (a / 1440)).day] ++ be16 (a % 1440)
        ++ be16 (dateOfNumber (b / 1440)).year
        ++ [byte (dateOfNumber (b / 1440)).month, byte (dateOfNumber (b / 1440)).day] ++ be16 (b % 1440) := by
  cases u <;> cases start <;> cases stop <;> rfl

theorem RoomUse.label_eq (u : RoomUse) : u.label = match u with
    | .booked b => b.label
    | _ => [] := by cases u <;> rfl

/-- 11, ROOM_READ ANSWER: offsets 19 to 23, behind the record's head. -/
theorem State.roomBytes_tail (s : State) :
    s.roomBytes[19]? = some s.roomFlags ∧ s.roomBytes[20]? = some (byte s.session.requested.code)
      ∧ s.roomBytes[21]? = some (byte s.baseLevel.code) ∧ s.roomBytes[22]? = some s.store.markBits
      ∧ s.roomBytes[23]? = some s.supply.causeBits := by
  rw [State.roomBytes_eq]
  simp [List.getElem?_append, RoomUse.head_length]

theorem State.roomBytes_label (s : State) :
    s.roomBytes.length = 25 + s.session.use.label.length ∧ s.roomBytes.drop 24 = labelBytes s.session.use.label := by
  have front : (s.session.use.head ++ [s.roomFlags, byte s.session.requested.code, byte s.baseLevel.code,
      s.store.markBits, s.supply.causeBits]).length = 24 := by simp [RoomUse.head_length]
  rw [State.roomBytes_eq, ← List.append_assoc]
  refine ⟨?_, List.drop_left' front⟩
  rw [List.length_append, front]
  simp [labelBytes]
  omega

/-- 11, ROOM_READ ANSWER, offset 19. -/
theorem State.roomFlags_bits (s : State) :
    s.roomFlags.getLsbD 0 = s.session.demand
      ∧ (s.roomFlags.getLsbD 1 = true ↔ ∃ a b, s.session.use = .walkup a b true)
      ∧ (s.roomFlags.getLsbD 2 = true ↔ ∃ a b w, s.session.use = .walkup a b w)
      ∧ s.roomFlags.getLsbD 3 = s.session.use.bridgeMute ∧ s.roomFlags.getLsbD 4 = s.supply.warning
      ∧ s.roomFlags.getLsbD 5 = s.silence.flag := by
  obtain ⟨demand, warned, walkup, bridge, supply, silence, _, _⟩ :=
    byte_of_flags s.session.demand (s.session.use.warning.getD false) s.session.use.warning.isSome
      s.session.use.bridgeMute s.supply.warning s.silence.flag false false
  refine ⟨demand, ?_, ?_, bridge, supply, silence⟩
  · rw [show s.roomFlags.getLsbD 1 = s.session.use.warning.getD false from warned]
    cases s.session.use <;> simp [RoomUse.warning]
  · rw [show s.roomFlags.getLsbD 2 = s.session.use.warning.isSome from walkup]
    cases s.session.use <;> simp [RoomUse.warning]

/-- 11, ROOM_READ ANSWER, offset 22. -/
theorem Store.markBits_bits (x : Store) :
    x.markBits.getLsbD 0 = x.faulted.account ∧ x.markBits.getLsbD 1 = x.faulted.settings
      ∧ x.markBits.getLsbD 2 = x.faulted.schedule ∧ x.markBits.getLsbD 3 = x.faulted.presets
      ∧ x.markBits.getLsbD 4 = x.foundBad.account ∧ x.markBits.getLsbD 5 = x.foundBad.settings
      ∧ x.markBits.getLsbD 6 = x.foundBad.schedule ∧ x.markBits.getLsbD 7 = x.foundBad.presets :=
  byte_of_flags x.faulted.account x.faulted.settings x.faulted.schedule x.faulted.presets x.foundBad.account
    x.foundBad.settings x.foundBad.schedule x.foundBad.presets

/-- 11, ROOM_READ ANSWER, offset 23. -/
theorem Supply.causeBits_bits (x : Supply) :
    x.causeBits.getLsbD 0 = x.powerOn ∧ x.causeBits.getLsbD 1 = x.resetPin ∧ x.causeBits.getLsbD 2 = x.supplyDrop
      ∧ x.causeBits.getLsbD 3 = x.restart := by
  obtain ⟨power, pin, drop, restart, _⟩ :=
    byte_of_flags x.powerOn x.resetPin x.supplyDrop x.restart false false false false
  exact ⟨power, pin, drop, restart⟩

/-- ROOM_READ reports the state that heard the frame, which has the fields of the one before but for the silence flag. -/
theorem answered_roomRead_fields {l : Link} {s : State} (h : Listening l s) :
    ∃ t : State, exec (.roomRead l) s = answered .roomRead l (s.hearing (.roomRead l)) .ok t.roomBytes
      ∧ t.session = s.session ∧ t.supply = s.supply ∧ t.store = s.store ∧ t.baseLevel = s.baseLevel
      ∧ t.silence = heardOn l s := by
  have frame := s.hearing_untouched (.roomRead l)
  have session : (s.hearing (.roomRead l)).session = s.session := frame .session (by decide)
  have settings : (s.hearing (.roomRead l)).settings = s.settings := frame .settings (by decide)
  have table : (s.hearing (.roomRead l)).table = s.table := frame .table (by decide)
  refine ⟨_, answered_roomRead h, session, frame .supply (by decide), frame .store (by decide), ?_, s.hearing_silence rfl⟩
  simp only [State.baseLevel, session, settings, table]

/-! ## The fields of LAMP_READ -/

theorem LampState.byte_code (x : LampState) : byte x.code = match x with
    | .off _ => (0 : Byte)
    | .striking _ => 1
    | .warming => 2
    | .lit => 3
    | .cooling _ => 4
    | .failed => 5 := by cases x <;> rfl

theorem LampState.byte_phase (x : LampState) : orAbsent x.phaseCode = match x with
    | .striking .attempt => (0 : Byte)
    | .striking .retryWait => 1
    | _ => 0xFF := by
  cases x with
  | striking phase => cases phase <;> rfl
  | _ => rfl

theorem LampState.byte_blocked (x : LampState) : orAbsent x.blockedCode = match x with
    | .off .none => (0 : Byte)
    | .off .account => 1
    | .off .thermal => 2
    | _ => 0xFF := by
  cases x with
  | off cause => cases cause <;> rfl
  | _ => rfl

theorem WearStatus.byte_code (x : WearStatus) : byte x.code = match x with
    | .good => (0 : Byte)
    | .warn => 1
    | .expired => 2 := by cases x <;> rfl

theorem LampState.pendingStrike_eq (x : LampState) : x.pendingStrike = (x == .cooling true) := by
  cases x with
  | cooling pending => cases pending <;> rfl
  | off cause => cases cause <;> rfl
  | striking phase => cases phase <;> rfl
  | _ => rfl

/-- 11, LAMP_READ ANSWER: the codes and the flags at their places. -/
theorem State.lampBytes_codes (s : State) :
    s.lampBytes[0]? = some (byte s.lamp.state.code) ∧ s.lampBytes[1]? = some (orAbsent s.lamp.state.phaseCode)
      ∧ s.lampBytes[2]? = some (byte (bit s.lamp.demand 0 + bit s.lamp.state.pendingStrike 1 + bit s.pins.lampEn 2
          + bit s.pins.ignite 3 + bit s.pins.fan 4 + bit s.account.record.unverified 5))
      ∧ s.lampBytes[8]? = some (orAbsent s.lamp.state.blockedCode)
      ∧ s.lampBytes[20]? = some (byte s.account.status.code) := ⟨rfl, rfl, rfl, rfl, rfl⟩

/-- R41: the running timer and its whole seconds. -/
theorem State.lampBytes_timer (s : State) :
    let left := (s.lamp.timerStart + s.lamp.timerLength - s.now) / 1000000
    (s.lampBytes.take 14).drop 11 = match s.lamp.state with
      | .striking .attempt => 1 :: be16 left
      | .striking .retryWait => 2 :: be16 left
      | .warming => 3 :: be16 left
      | .cooling _ => 4 :: be16 left
      | _ => [0, 0, 0] := by
  intro left
  have bytes : (s.lampBytes.take 14).drop 11 = byte s.lamp.state.timerCode :: be16 s.lampSeconds := rfl
  rw [bytes, State.lampSeconds]
  cases s.lamp.state with
  | striking phase => cases phase <;> rfl
  | warming | cooling => rfl
  | off | lit | failed => rw [if_pos (by rfl)]; rfl

theorem answered_lampRead {l : Link} {s : State} (h : Listening l s) :
    exec (.lampRead l) s = answered .lampRead l (s.hearing (.lampRead l)) .ok s.lampBytes := by
  have frame := s.hearing_untouched (.lampRead l)
  have lamp : (s.hearing (.lampRead l)).lamp = s.lamp := frame .lamp (by decide)
  have account : (s.hearing (.lampRead l)).account = s.account := frame .account (by decide)
  have pins : (s.hearing (.lampRead l)).pins = s.pins := frame .pins (by decide)
  have now : (s.hearing (.lampRead l)).now = s.now := frame .time (by decide)
  have same : (s.hearing (.lampRead l)).lampBytes = s.lampBytes := by
    simp only [State.lampBytes, State.lampSeconds, lamp, account, pins, now]
  rw [← same]
  exact exec_admitted (i := .lampRead l) rfl (admitted_of_enquiry h rfl rfl) (Nat.zero_le _) rfl

/-- Settles O24: each field at its place in the two layouts. -/
theorem roomAndLampReadsReportTheRoomAndTheLamp : Obligations.RoomAndLampReadsReportTheRoomAndTheLamp := by
  refine ⟨fun l s h => ?_, fun l s h => ?_⟩
  · obtain ⟨t, taken, session, supply, store, base, silence⟩ := answered_roomRead_fields h
    refine ⟨t.roomBytes, taken, ?_⟩
    rw [← session, ← supply, ← store, ← base, ← silence]
    have label := t.roomBytes_label
    rw [RoomUse.label_eq] at label
    obtain ⟨flags, requested, level, marks, causes⟩ := t.roomBytes_tail
    refine ⟨label, ?_, ?_, ?_, ?_, ⟨_, flags, t.roomFlags_bits⟩, requested, level,
      ⟨_, marks, t.store.markBits_bits⟩, _, causes, t.supply.causeBits_bits⟩
    · rw [State.roomBytes_eq]; exact RoomUse.head_code _ _
    · intro b booked
      rw [State.roomBytes_eq, booked]
      exact RoomUse.head_booked b _
    · intro unbooked
      rw [State.roomBytes_eq]
      exact RoomUse.head_unbooked unbooked _
    · rintro a b ⟨start, stop⟩
      rw [State.roomBytes_eq]
      exact RoomUse.head_ends start stop _
  · obtain ⟨demand, pending, lampEn, ignite, fan, unverified, _⟩ := byte_of_flags s.lamp.demand
      s.lamp.state.pendingStrike s.pins.lampEn s.pins.ignite s.pins.fan s.account.record.unverified false false
    obtain ⟨code, phase, flags, blocked, status⟩ := s.lampBytes_codes
    rw [LampState.byte_code] at code
    rw [LampState.byte_phase] at phase
    rw [LampState.byte_blocked] at blocked
    rw [WearStatus.byte_code] at status
    refine ⟨s.lampBytes, answered_lampRead h, rfl, code, phase, blocked, s.lampBytes_timer,
      ⟨_, flags, demand, pending.trans s.lamp.state.pendingStrike_eq, lampEn, ignite, fan, unverified⟩, ?_, ?_, ?_,
      status, ?_⟩
    all_goals rfl

end Sys2Proof.Machine
end

section
/-! What the gate, an attempt, a held strike and the end of a burn leave, in the terms of the statements; the lamp's events. -/

namespace Sys2Proof.Machine

open Sys2Proof.Config

/-! ## Queueing a record (R178, R179) -/

theorem State.queueKind_busy {s : State} {w : Write} (writing : s.store.write = some w) (k : Kind) :
    (s.queueKind k).store = { s.store with queue := enqueue s.store.queue k } := by
  simp [State.queueKind, State.startWrite, writing]

theorem State.queueKind_idle {s : State} (up : s.startUpDone = true) (idle : s.store.write = none)
    (empty : s.store.queue = []) (k : Kind) :
    (s.queueKind k).store =
      { s.store with write := some ⟨k, (s.recordOf k).sealed, false, s.now + writeDuration k⟩ } := by
  simp only [State.queueKind, State.startWrite, up, idle, Option.isNone_none, Bool.and_self, if_true, empty]
  cases k <;> rfl

theorem State.queueKind_queued (s : State) (k : Kind) : Queued k (s.recordOf k) s (s.queueKind k) := by
  refine ⟨fun busy => ?_, fun up idle empty => State.queueKind_idle up idle empty k⟩
  obtain ⟨w, writing⟩ := Option.isSome_iff_exists.mp busy
  exact State.queueKind_busy writing k

/-- Queueing is told by the store before and after, the time and whether start-up is over. -/
theorem Queued.congr {k : Kind} {r : Record} {s t s' t' : State} (h : Queued k r s t) (before : s'.store = s.store)
    (up : s'.startUpDone = s.startUpDone) (now : s'.now = s.now) (after : t'.store = t.store) : Queued k r s' t' := by
  unfold Queued
  rw [before, up, now, after]
  exact h

/-! ## The strike gate (R10, R23, R33) -/

theorem State.strikePermitted_congr {s t : State} (account : t.account = s.account) (policy : t.policy = s.policy) :
    t.strikePermitted = s.strikePermitted := by simp only [State.strikePermitted, account, policy]

theorem State.strikePermitted_iff (s : State) : s.strikePermitted = true ↔ Permission s.account s.policy.effective := by
  simp only [State.strikePermitted, strikePermission, Permission]
  cases s.account.status <;> cases s.policy.effective <;> simp [Nat.pos_iff_ne_zero]

theorem State.gatePasses_iff (s : State) : s.gatePasses = true ↔ s.lamp.temp ≠ .hot ∧ s.strikePermitted = true := by
  simp [State.gatePasses]

theorem State.gateFails_hot {s : State} (hot : s.lamp.temp = .hot) : s.gatePasses = false ∧ s.blockCause = .thermal := by
  simp [State.gatePasses, State.blockCause, hot]

theorem State.gateFails_account {s : State} (cool : s.lamp.temp ≠ .hot) (denied : s.strikePermitted = false) :
    s.gatePasses = false ∧ s.blockCause = .account := by
  simp [State.gatePasses, State.blockCause, cool, denied]

theorem State.strikeOrHold_hot {s : State} (hot : s.lamp.temp = .hot) : s.strikeOrHold = s.holdStrike .thermal := by
  simp [State.strikeOrHold, State.gateFails_hot hot]

theorem State.strikeOrHold_denied {s : State} (cool : s.lamp.temp ≠ .hot) (denied : s.strikePermitted = false) :
    s.strikeOrHold = s.holdStrike .account := by
  simp [State.strikeOrHold, State.gateFails_account cool denied]

theorem State.strikeOrHold_permitted {s : State} (cool : s.lamp.temp ≠ .hot) (permitted : s.strikePermitted = true) :
    s.strikeOrHold = s.startAttempt true := by
  simp [State.strikeOrHold, (State.gatePasses_iff s).mpr ⟨cool, permitted⟩]

/-- R33: a strike held for one cause is held on for the cause that fails now. -/
theorem State.recheckStrike_blocked {s : State} {c cause : Blocked} (off : s.lamp.state = .off c) (held : c ≠ .none)
    (fails : s.gatePasses = false) (first : s.blockCause = cause) :
    s.recheckStrike = if cause = c then s else s.holdStrike cause := by
  subst first
  cases c with
  | none => exact (held rfl).elim
  | account | thermal => simp [State.recheckStrike, off, fails]

theorem State.recheckStrike_permitted {s : State} {c : Blocked} (off : s.lamp.state = .off c) (held : c ≠ .none)
    (cool : s.lamp.temp ≠ .hot) (permitted : s.strikePermitted = true) : s.recheckStrike = s.startAttempt true := by
  cases c with
  | none => exact (held rfl).elim
  | account | thermal => simp [State.recheckStrike, off, (State.gatePasses_iff s).mpr ⟨cool, permitted⟩]

/-- R33: the lamp once a held strike has met a gate that fails. -/
theorem State.recheckStrike_blocked_state {s : State} {c cause : Blocked} (off : s.lamp.state = .off c) (held : c ≠ .none)
    (fails : s.gatePasses = false) (first : s.blockCause = cause) : s.recheckStrike.lamp.state = .off cause := by
  rw [State.recheckStrike_blocked off held fails first]
  split
  · rename_i same; rw [same]; exact off
  · rw [State.holdStrike_lamp]

/-! ## Notices of the lamp (R40) -/

theorem State.settleLamp_raises_state (s : State) (old : Lamp) (h : old.state.noticed ≠ s.lamp.state.noticed) :
    Pending .lamp (s.settleLamp old) := by
  apply State.settleLamp_raises
  simp [lampNoticed, State.deriveLevel, h]

theorem State.startAttempt_raises {s : State} (first : Bool) (h : s.lamp.state ≠ .striking .attempt) :
    Pending .lamp (s.startAttempt first) := by
  apply State.settleLamp_raises_state
  rw [State.chargeStrike_lamp]
  intro same
  cases e : s.lamp.state <;> simp_all [LampState.noticed]

theorem State.holdStrike_raises_lamp {s : State} {cause : Blocked} (h : s.lamp.state ≠ .off cause) :
    Pending .lamp (s.holdStrike cause) := by
  refine Pending.raiseIf (State.settleLamp_raises_state _ _ ?_) _ _
  intro same
  cases e : s.lamp.state <;> simp_all [LampState.noticed]

theorem State.extinguish_raises_lamp {s : State} (outage : Bool) (h : ∀ p, s.lamp.state ≠ .cooling p) :
    Pending .lamp (s.extinguish outage) := by
  apply State.settleLamp_raises_state
  simp only [State.endBurn, State.queueKind_lamp]
  intro same
  cases e : s.lamp.state <;> simp_all [LampState.noticed]

/-! ## Attempts and burns in the statements' terms -/

/-- R5: the charge of an attempt. -/
theorem strikeCharge_attemptHot (cost warm window : Nat) :
    strikeCharge cost (attemptHot warm window) = cost * 960 * if warm < window then 2 else 1 := by
  by_cases hot : warm < window <;> simp [strikeCharge, strikeUnits, attemptHot, hot, Nat.mul_comm]

/-- R5: the account once an attempt is charged. -/
theorem State.startAttempt_charged (s : State) (first : Bool) :
    (s.startAttempt first).account =
      (let wear := min 3774873599 (s.account.record.wear + s.settings.strikeCost * 960
          * if s.account.warmCount < s.settings.warmWindow then 2 else 1)
       { s.account with
          record := { s.account.record with wear := wear }
          attempt := some (decide (s.account.warmCount < s.settings.warmWindow))
          currentBurn := 0
          status := statusOf (wear / 57600) s.settings.lifeLimit s.settings.warningMargin }) := by
  rw [State.startAttempt_account]
  dsimp only
  rw [strikeCharge_attemptHot]
  rfl

/-- R2: an attempt that changes the status raises ACCOUNT. -/
theorem State.startAttempt_raises_account {s : State} {first : Bool}
    (h : (s.startAttempt first).account.status ≠ s.account.status) : Pending .account (s.startAttempt first) := by
  refine State.settleLamp_keeps _ _ _ (State.deriveStatus_raises _ ?_)
  rw [State.startAttempt_account] at h
  exact h

/-- R8, R15: the end of a burn queues the account as it then stands. -/
theorem State.extinguish_queued (s : State) (outage : Bool) :
    Queued .account (.account (s.extinguish outage).account.record) s (s.extinguish outage) := by
  rw [State.extinguish_account]
  exact (State.queueKind_queued { s with account := s.account.endBurn outage } .account).congr rfl rfl rfl
    (s.extinguish_store outage)

@[simp] theorem State.extinguish_now (s : State) (outage : Bool) : (s.extinguish outage).now = s.now :=
  s.extinguish_untouched outage .time (by decide)

@[simp] theorem State.startAttempt_now (s : State) (first : Bool) : (s.startAttempt first).now = s.now :=
  s.startAttempt_untouched first .time (by decide)

@[simp] theorem State.holdStrike_now (s : State) (cause : Blocked) : (s.holdStrike cause).now = s.now :=
  s.holdStrike_untouched cause .time (by cases cause <;> decide)

/-! ## LIT (R25, R31) -/

theorem State.graceDue_iff (s : State) :
    s.graceDue = true ↔ s.account.status = .expired ∧ s.policy.effective ≠ .service ∧ 0 < s.account.record.grace := by
  simp [State.graceDue, and_assoc]

/-- R7, R9: the account at an ignition. -/
theorem State.countIgnition_account (s : State) :
    s.countIgnition.account =
      { s.account with
        record := { s.account.record with
          ignitions := min 65535 (s.account.record.ignitions + 1)
          hotIgnitions := if s.account.attempt = some true then min 65535 (s.account.record.hotIgnitions + 1)
            else s.account.record.hotIgnitions
          grace := if s.graceDue then s.account.record.grace - 1 else s.account.record.grace }
        attempt := none } := by
  have due : { s with account := s.account.ignited }.graceDue = s.graceDue := rfl
  rw [State.countIgnition, State.consumeGrace, due]
  split
  · rw [State.raise_account]; rfl
  · rfl

/-- R9: an ignition that consumes a grace strike raises ACCOUNT. -/
theorem State.countIgnition_raises {s : State} (due : s.graceDue = true) : Pending .account s.countIgnition := by
  have spends : { s with account := s.account.ignited }.graceDue = true := due
  rw [State.countIgnition, State.consumeGrace, if_pos spends]
  exact Pending.of_raise _ _

/-- R25: what LIT confirmed in time leaves. -/
theorem State.litConfirms_in_time {s : State} {rise : Nat} (attempt : s.lamp.state = .striking .attempt)
    (hold : s.lamp.litHold = some rise) (inTime : rise + 100000 ≤ s.lamp.timerStart + s.lamp.timerLength) :
    ∃ t : State, s.litConfirms = t ∧ t.now = max s.now (rise + 100000)
      ∧ t.lamp.state = (if s.settings.warmUp = 0 then .lit else .warming)
      ∧ t.lamp.timeToLight = min 255 ((rise - s.lamp.igniteAt) / 20000) ∧ t.lamp.timerStart = t.now
      ∧ t.lamp.timerLength = s.settings.warmUp * 1000000 ∧ t.pins.ignite = false ∧ t.pins.lampEn = true
      ∧ t.account = s.countIgnition.account ∧ (s.graceDue = true → Pending .account t) ∧ Pending .lamp t
      ∧ Untouched (.time :: strikeBlocks) s t := by
  have frame := (s.reach (rise + 100000)).countIgnition_untouched
  have now : (s.reach (rise + 100000)).countIgnition.now = max s.now (rise + 100000) := frame .time (by decide)
  have account : (s.reach (rise + 100000)).countIgnition.account = s.countIgnition.account := by
    rw [State.countIgnition_account, State.countIgnition_account]; rfl
  have due : s.lamp.litHold = some rise ∧ rise + litHold ≤ s.lamp.timerEnd := ⟨hold, inTime⟩
  refine ⟨_, rfl, ?_⟩
  simp only [State.litConfirms, attempt, hold, if_pos due.2]
  refine ⟨?_, ?_, ?_, ?_, ?_, ?_, ?_, ?_, ?_, ?_, ?_⟩
  · simp only [State.settleLamp_now]; exact now
  · simp only [State.settleLamp_lamp]; rfl
  · simp only [State.settleLamp_lamp]; rfl
  · simp only [State.settleLamp_lamp, State.settleLamp_now]; exact now.symm
  · simp only [State.settleLamp_lamp]; rfl
  · simp only [State.settleLamp_pins]; split <;> rfl
  · simp only [State.settleLamp_pins]; split <;> rfl
  · simp only [State.settleLamp_account]; exact account
  · intro spends
    exact State.settleLamp_keeps _ _ _ (State.countIgnition_raises (s := s.reach (rise + 100000)) spends)
  · refine State.settleLamp_raises_state _ _ ?_
    simp only [State.reach_lamp, attempt]
    split <;> simp [LampState.noticed]
  · have counted := (s.reach_untouched (rise + 100000)).andThen frame (C := .time :: strikeBlocks) rfl rfl
    exact (counted.andThen (State.lamp_update_untouched _ _) (C := .time :: strikeBlocks) rfl rfl).andThen
      (State.settleLamp_untouched _ _) rfl rfl

/-- R25: without an attempt or a rise that holds, LIT_CONFIRMED is no event. -/
theorem State.litConfirms_none {s : State} (h : s.lamp.state ≠ .striking .attempt ∨ s.lamp.litHold = none) :
    s.litConfirms = s := by
  unfold State.litConfirms
  split
  · rename_i rise attempt hold
    rcases h with h | h
    · exact (h attempt).elim
    · rw [h] at hold; cases hold
  · rfl

/-- R31: without a burn or a fall that holds, OUTAGE is no event. -/
theorem State.outageFalls_none {s : State} (h : (s.lamp.state ≠ .warming ∧ s.lamp.state ≠ .lit) ∨ s.lamp.litHold = none) :
    s.outageFalls = s := by
  unfold State.outageFalls
  split
  · rename_i fall hold
    rcases h with ⟨notWarming, notLit⟩ | none
    · simp [LampState.shining, notWarming, notLit]
    · rw [none] at hold; cases hold
  · rfl

theorem State.outageFalls_shining {s : State} {fall : Nat} (shining : s.lamp.state = .warming ∨ s.lamp.state = .lit)
    (hold : s.lamp.litHold = some fall) : s.outageFalls = (s.reach (fall + 100000)).extinguish true := by
  have shines : s.lamp.state.shining = true := by rcases shining with h | h <;> rw [h] <;> rfl
  simp only [State.outageFalls, hold, shines, if_true]
  rfl

/-- R25, R31: a change of the LIT input moves the pin and the hold alone. -/
theorem State.litChanges_fields (s : State) (high : Bool) :
    (s.litChanges high).pins = { s.pins with lit := high } ∧
      (s.litChanges high).lamp = { s.lamp with litHold :=
        if s.pins.lit = high then s.lamp.litHold
        else if s.lamp.state = (.striking .attempt) then (if high then some s.now else none)
        else if s.lamp.state = .warming ∨ s.lamp.state = .lit then (if high then none else some s.now)
        else s.lamp.litHold } := by
  by_cases same : s.pins.lit = high
  · subst same
    simp [State.litChanges]
  · simp only [State.litChanges, if_neg same]
    split
    · rename_i attempt
      cases high <;> simp [attempt]
    · rename_i warming
      cases high <;> simp [warming]
    · rename_i lit
      cases high <;> simp [lit]
    · rename_i noAttempt notWarming notLit
      rw [if_neg noAttempt, if_neg fun shining => shining.elim notWarming notLit]
      exact ⟨rfl, rfl⟩

end Sys2Proof.Machine
end

section
/-! The lamp's events (R25 to R32) and the engine's reports (R34 to R36). -/

namespace Sys2Proof.Machine

open Sys2Proof.Config

/-- Settles O53: LIT changes, is confirmed and is lost. -/
theorem litIsConfirmedAndItsLossIsAnOutage : Obligations.LitIsConfirmedAndItsLossIsAnOutage := by
  refine ⟨fun high dt s => ?_, fun s => ⟨fun rise attempt hold inTime => ?_, fun none => ?_⟩,
    fun s => ⟨fun fall shining hold => ?_, fun none => ?_⟩⟩
  · obtain ⟨pins, lamp⟩ := (s.elapse dt).litChanges_fields high
    have frame := (s.elapse_untouched dt).andThen (State.litChanges_untouched _ high) (C := [.time, .pins, .lamp]) rfl rfl
    have now : ((s.elapse dt).litChanges high).now = s.now + dt := State.litChanges_untouched _ high .time (by decide)
    refine ⟨_, rfl, now, pins, ?_, frame⟩
    rw [now]
    exact lamp
  · obtain ⟨t, confirms, now, state, light, start, length, ignite, lampEn, account, spends, lamp, frame⟩ :=
      State.litConfirms_in_time attempt hold inTime
    rw [State.countIgnition_account] at account
    refine ⟨t, congrArg _ confirms, now, state, light, start, length, ignite, lampEn, ?_, fun due => ?_, fun kept => ?_, ?_,
      lamp, frame⟩
    · rw [account]
    · have due := (State.graceDue_iff s).mpr due
      exact ⟨by rw [account, if_pos due], spends due⟩
    · rw [account, if_neg (mt (State.graceDue_iff s).mp kept)]
    · rw [account]
  · exact congrArg _ (State.litConfirms_none none)
  · have falls := State.outageFalls_shining shining hold
    obtain ⟨lampEn, ignite, fan, mute⟩ := (s.reach (fall + 100000)).extinguish_pins true
    refine ⟨_, congrArg Host.Outcome.next falls, by simp, ?_, ?_, ?_, lampEn, mute, ?_, fun w writing => ?_, ?_, ?_⟩
    · rw [State.extinguish_lamp]; rfl
    · rw [State.extinguish_lamp, State.extinguish_now]
    · rw [State.extinguish_lamp]; rfl
    · rw [State.extinguish_account]; rfl
    · exact (State.extinguish_queued (s.reach (fall + 100000)) true).1 (by rw [State.reach_store, writing]; rfl)
    · refine State.extinguish_raises_lamp true fun p cooling => ?_
      rw [State.reach_lamp] at cooling
      rw [cooling] at shining
      rcases shining with h | h <;> cases h
    · exact (s.reach_untouched _).andThen (State.extinguish_untouched _ true) rfl rfl
  · exact congrArg _ (State.outageFalls_none none)

/-! ## The lamp's timers -/

/-- R26: what the end of the strike window leaves. -/
theorem State.strikeWindowEnds_attempt {s : State} (attempt : s.lamp.state = .striking .attempt) :
    let t := s.strikeWindowEnds
    t.now = max s.now (s.lamp.timerStart + s.lamp.timerLength)
      ∧ t.account = { s.account with
          record := { s.account.record with failedAttempts := min 65535 (s.account.record.failedAttempts + 1) }
          attempt := none }
      ∧ (s.lamp.attempts < s.settings.attempts → t.lamp.state = .striking .retryWait ∧ t.lamp.timerStart = t.now
          ∧ t.lamp.timerLength = s.settings.retryWait * 1000000 ∧ t.pins.fan = true)
      ∧ (s.settings.attempts ≤ s.lamp.attempts → t.lamp.state = .failed)
      ∧ t.lamp.attempts = s.lamp.attempts ∧ t.pins.ignite = false ∧ t.pins.lampEn = false
      ∧ Pending .lamp t ∧ Untouched (.time :: .account :: ballastBlocks) s t := by
  have counted := (s.reach_untouched s.lamp.timerEnd).andThen (State.countFailed_untouched _)
    (C := .time :: .account :: ballastBlocks) rfl rfl
  have frame := fun (x : Lamp) (old : Lamp) => (counted.andThen (State.lamp_update_untouched _ x)
    (C := .time :: .account :: ballastBlocks) rfl rfl).andThen (State.settleLamp_untouched _ old)
    (C := .time :: .account :: ballastBlocks) rfl rfl
  unfold State.strikeWindowEnds
  simp only [attempt]
  split
  · rename_i more
    refine ⟨by simp [State.countFailed, Lamp.timerEnd], by simp [State.countFailed]; rfl, fun _ => ?_,
      fun none => (Nat.not_lt.mpr none more).elim, ?_, ?_, ?_, ?_, frame _ _⟩
    · simp [State.countFailed, fanDriven, second]
    · simp [State.countFailed]
    · simp [igniteDriven]
    · simp [lampEnDriven]
    · exact State.settleLamp_raises_state _ _ (by simp [attempt, LampState.noticed])
  · rename_i last
    refine ⟨by simp [State.countFailed, Lamp.timerEnd], by simp [State.countFailed]; rfl, fun more => (last more).elim,
      fun _ => by simp, ?_, ?_, ?_, ?_, frame _ _⟩
    · simp [State.countFailed]
    · simp [igniteDriven]
    · simp [lampEnDriven]
    · exact State.settleLamp_raises_state _ _ (by simp [attempt, LampState.noticed])

theorem State.retryWaitEnds_waiting {s : State} (waiting : s.lamp.state = .striking .retryWait) :
    s.retryWaitEnds = if (s.reach s.lamp.timerEnd).gatePasses then (s.reach s.lamp.timerEnd).startAttempt false
      else (s.reach s.lamp.timerEnd).holdStrike s.blockCause := by
  unfold State.retryWaitEnds
  simp only [waiting]
  rfl

/-- R32: the state in which a cooldown has ended, its pending strike not yet taken. -/
def State.cooled (s : State) : State :=
  { s.reach s.lamp.timerEnd with lamp := { s.lamp with state := .off .none } }.settleLamp s.lamp

theorem State.cooldownEnds_cooling {s : State} {strike : Bool} (cooling : s.lamp.state = .cooling strike)
    (up : s.startUpDone = true) : s.cooldownEnds = if strike then s.cooled.strikeOrHold else s.cooled := by
  unfold State.cooldownEnds
  simp only [cooling, up]
  rfl

theorem State.cooled_untouched (s : State) : Untouched (.time :: ballastBlocks) s s.cooled :=
  ((s.reach_untouched _).andThen (State.lamp_update_untouched _ _) (C := .time :: ballastBlocks) rfl rfl).andThen
    (State.settleLamp_untouched _ _) rfl rfl

theorem State.cooled_lamp (s : State) :
    s.cooled.lamp = { s.lamp with
      state := .off .none, effective := effectiveLevel s.lamp.requested s.lamp.temp s.account.status } := by
  rw [State.cooled, State.settleLamp_lamp]
  rfl

theorem State.cooled_now (s : State) : s.cooled.now = max s.now (s.lamp.timerStart + s.lamp.timerLength) := by
  rw [State.cooled, State.settleLamp_now]
  rfl

/-- R40: the end of a cooldown raises LAMP, whatever becomes of a pending strike. -/
theorem State.cooled_raises {s : State} {strike : Bool} (cooling : s.lamp.state = .cooling strike) :
    Pending .lamp s.cooled :=
  State.settleLamp_raises_state _ _ (by simp [cooling, LampState.noticed])

theorem State.cooled_permitted (s : State) : s.cooled.strikePermitted = s.strikePermitted :=
  State.strikePermitted_congr (s.cooled_untouched .account (by decide)) (s.cooled_untouched .policy (by decide))

/-- R29: warm-up ends. -/
theorem State.warmUpEnds_warming {s : State} (warming : s.lamp.state = .warming) :
    let t := s.warmUpEnds
    t.now = max s.now (s.lamp.timerStart + s.lamp.timerLength)
      ∧ t.lamp = { s.lamp with
          state := .lit, effective := effectiveLevel s.lamp.requested s.lamp.temp s.account.status }
      ∧ t.pins.level = t.lamp.effective ∧ t.pins.lampEn = true ∧ Pending .lamp t
      ∧ Untouched (.time :: ballastBlocks) s t := by
  unfold State.warmUpEnds
  simp only [warming]
  refine ⟨by simp [Lamp.timerEnd], by simp, by simp [levelDriven], by simp [lampEnDriven],
    State.settleLamp_raises_state _ _ (by simp [warming, LampState.noticed]), ?_⟩
  exact ((s.reach_untouched _).andThen (State.lamp_update_untouched _ _) (C := .time :: ballastBlocks) rfl rfl).andThen
    (State.settleLamp_untouched _ _) rfl rfl

theorem State.strikeWindowEnds_none {s : State} (h : s.lamp.state ≠ .striking .attempt) : s.strikeWindowEnds = s := by
  unfold State.strikeWindowEnds
  split
  · rename_i attempt; exact (h attempt).elim
  · rfl

theorem State.retryWaitEnds_none {s : State} (h : s.lamp.state ≠ .striking .retryWait) : s.retryWaitEnds = s := by
  unfold State.retryWaitEnds
  split
  · rename_i waiting; exact (h waiting).elim
  · rfl

theorem State.warmUpEnds_none {s : State} (h : s.lamp.state ≠ .warming) : s.warmUpEnds = s := by
  unfold State.warmUpEnds
  split
  · rename_i warming; exact (h warming).elim
  · rfl

theorem State.cooldownEnds_none {s : State} (h : ∀ strike, s.lamp.state ≠ .cooling strike) : s.cooldownEnds = s := by
  unfold State.cooldownEnds
  split
  · rename_i strike cooling _; exact (h strike cooling).elim
  · rfl

/-- R27: the retry wait ends in the next attempt or in a held strike. -/
theorem State.retryWaitEnds_ends {s : State} (waiting : s.lamp.state = .striking .retryWait) :
    let t := s.retryWaitEnds
    t.now = max s.now (s.lamp.timerStart + s.lamp.timerLength)
      ∧ (s.lamp.temp ≠ .hot → s.strikePermitted = true → t = (s.reach s.lamp.timerEnd).startAttempt false)
      ∧ (s.lamp.temp ≠ .hot → s.strikePermitted = false → t = (s.reach s.lamp.timerEnd).holdStrike .account)
      ∧ Pending .lamp t ∧ Untouched (.time :: strikeBlocks) s t := by
  intro t
  have due := s.reach_untouched s.lamp.timerEnd
  have ends : t = _ := State.retryWaitEnds_waiting waiting
  have passes := State.gatePasses_iff (s.reach s.lamp.timerEnd)
  split at ends
  · rename_i gate
    rw [ends]
    refine ⟨by simp [Lamp.timerEnd], fun _ _ => rfl, fun _ denied => ?_,
      State.startAttempt_raises false (by simp [waiting]), due.andThen (State.startAttempt_untouched _ _) rfl rfl⟩
    have permitted : s.strikePermitted = true := (passes.mp gate).2
    rw [denied] at permitted
    cases permitted
  · rename_i gate
    rw [ends]
    refine ⟨by simp [Lamp.timerEnd], fun cool permitted => (gate (passes.mpr ⟨cool, permitted⟩)).elim,
      fun cool denied => ?_, State.holdStrike_raises_lamp (by simp [waiting]),
      due.andThen (State.holdStrike_untouched _ _) rfl rfl⟩
    rw [(State.gateFails_account cool denied).2]

/-- Settles O54: each timer's end in its own state, and in no other. -/
theorem lampTimersExpire : Obligations.LampTimersExpire := by
  refine ⟨fun s => ⟨fun attempt => ⟨_, rfl, State.strikeWindowEnds_attempt attempt⟩, fun waiting => ?_,
    fun h => congrArg _ (State.strikeWindowEnds_none h), fun h => congrArg _ (State.retryWaitEnds_none h)⟩,
    fun s => ⟨fun warming => ⟨_, rfl, State.warmUpEnds_warming warming⟩, fun strike cooling up => ?_,
    fun h => congrArg _ (State.warmUpEnds_none h), fun h => congrArg _ (State.cooldownEnds_none h)⟩⟩
  · obtain ⟨now, starts, holds, lamp, frame⟩ := State.retryWaitEnds_ends waiting
    refine ⟨_, rfl, now, fun cool permitted => ?_, fun cool denied => ?_, lamp, frame⟩
    · rw [starts cool permitted]
      obtain ⟨lampEn, ignite, _⟩ := (s.reach s.lamp.timerEnd).startAttempt_pins false
      rw [State.startAttempt_lamp, State.startAttempt_charged, State.startAttempt_now]
      exact ⟨rfl, rfl, rfl, rfl, rfl, ignite, lampEn, rfl, rfl, rfl⟩
    · rw [holds cool denied]
      exact ⟨by rw [State.holdStrike_lamp], by rw [State.holdStrike_lamp]; rfl, State.holdStrike_account _ _,
        State.holdStrike_raises _⟩
  · have frame := s.cooled_untouched
    have temp : s.cooled.lamp.temp = s.lamp.temp := by rw [State.cooled_lamp]
    refine ⟨_, congrArg Host.Outcome.next (State.cooldownEnds_cooling cooling up), ?_⟩
    cases strike with
    | false =>
      refine ⟨s.cooled_now, State.cooled_raises cooling, fun _ => ⟨by rw [if_neg (by decide), State.cooled_lamp], ?_, frame⟩,
        by rintro ⟨⟩, by rintro ⟨⟩, by rintro ⟨⟩, frame.mono rfl⟩
      rw [if_neg (by decide), State.cooled_lamp]
    | true =>
      rw [if_pos rfl]
      refine ⟨?_, State.strikeOrHold_keeps _ _ (State.cooled_raises cooling), by rintro ⟨⟩, fun _ hot => ?_,
        fun _ cool denied => ?_, fun _ cool permitted => ?_, frame.andThen (State.strikeOrHold_untouched _) rfl rfl⟩
      · exact (s.cooled.strikeOrHold_untouched .time (by decide)).trans s.cooled_now
      · rw [State.strikeOrHold_hot (temp.trans hot), State.holdStrike_lamp]
      · rw [State.strikeOrHold_denied (by rwa [temp]) (s.cooled_permitted.trans denied), State.holdStrike_lamp]
        exact ⟨rfl, State.holdStrike_raises _⟩
      · rw [State.strikeOrHold_permitted (by rwa [temp]) (s.cooled_permitted.trans permitted), State.startAttempt_lamp]
        exact ⟨rfl, rfl, (s.cooled.startAttempt_pins true).2.1⟩

/-! ## The engine's reports (R34 to R36) -/

theorem reportOfCode_code {t : TempState} (h : t ≠ .unknown) : reportOfCode (byte t.code).toNat = some t := by
  cases t <;> first | rfl | exact (h rfl).elim

theorem reportOfCode_above {n : Nat} (h : 2 < n) : reportOfCode n = none := by
  rcases n with _ | _ | _ | n
  · omega
  · omega
  · omega
  · rfl

/-- R35, R37: the state in which a new temperature state is taken, burns and held strikes not yet looked at. -/
def State.tempTaken (s : State) (t : TempState) : State := { s with lamp := { s.lamp with temp := t } }.settleLamp s.lamp

theorem State.setTemp_eq {s : State} {t : TempState} (h : s.lamp.temp ≠ t) :
    s.setTemp t = if t = .hot ∧ s.lamp.state.burning = true then (s.tempTaken t).extinguish false
      else (s.tempTaken t).recheckStrike := by
  have state : (s.tempTaken t).lamp.state = s.lamp.state := by simp [State.tempTaken]
  have taken : s.setTemp t = if (decide (t = .hot) && (s.tempTaken t).lamp.state.burning) = true
      then (s.tempTaken t).extinguish false else (s.tempTaken t).recheckStrike := if_neg h
  simpa [state] using taken

theorem State.setTemp_same {s : State} {t : TempState} (h : s.lamp.temp = t) : s.setTemp t = s := if_pos h

theorem State.tempTaken_untouched (s : State) (t : TempState) : Untouched ballastBlocks s (s.tempTaken t) :=
  (s.lamp_update_untouched _).andThen (State.settleLamp_untouched _ _) rfl rfl

theorem State.tempTaken_lamp (s : State) (t : TempState) :
    (s.tempTaken t).lamp = { s.lamp with
      temp := t, effective := effectiveLevel s.lamp.requested t s.account.status } := by
  rw [State.tempTaken, State.settleLamp_lamp]

/-- R40: a new temperature state raises LAMP. -/
theorem State.tempTaken_raises {s : State} {t : TempState} (h : s.lamp.temp ≠ t) : Pending .lamp (s.tempTaken t) := by
  apply State.settleLamp_raises
  simp [lampNoticed, State.deriveLevel, h]

theorem State.setTemp_raises {s : State} {t : TempState} (h : s.lamp.temp ≠ t) : Pending .lamp (s.setTemp t) := by
  rw [State.setTemp_eq h]
  split
  · exact State.extinguish_keeps _ _ _ (State.tempTaken_raises h)
  · exact State.recheckStrike_keeps _ _ (State.tempTaken_raises h)

/-- R36: HOT during a strike or a burn puts the lamp out. -/
theorem State.setTemp_hot_burning {s : State} (change : s.lamp.temp ≠ .hot) (burning : s.lamp.state.burning = true) :
    let u := s.setTemp .hot
    u.lamp.state = .cooling s.lamp.demand ∧ u.lamp.timerStart = s.now
      ∧ u.lamp.timerLength = s.settings.cooldown * 1000000 ∧ u.pins.lampEn = false ∧ u.pins.ignite = false
      ∧ u.account = { s.account with
          record := { s.account.record with lastBurn := s.account.currentBurn }
          warmCount := 0, attempt := none, checkpoint := 0 }
      ∧ Queued .account (.account u.account.record) s u := by
  have frame := s.tempTaken_untouched .hot
  have settings : (s.tempTaken .hot).settings = s.settings := frame .settings (by decide)
  have account : (s.tempTaken .hot).account = s.account := frame .account (by decide)
  have now : (s.tempTaken .hot).now = s.now := frame .time (by decide)
  obtain ⟨lampEn, ignite, _⟩ := (s.tempTaken .hot).extinguish_pins false
  rw [State.setTemp_eq change, if_pos ⟨rfl, burning⟩]
  dsimp only
  rw [State.extinguish_lamp, State.tempTaken_lamp, settings, now]
  refine ⟨rfl, rfl, rfl, lampEn, ignite, ?_, ?_⟩
  · rw [State.extinguish_account, account]; rfl
  · exact (State.extinguish_queued _ false).congr (frame .store (by decide)).symm (frame .startUp (by decide)).symm now.symm rfl

/-- R37: a temperature state that ends no burn and finds no held strike moves the effective level alone. -/
theorem State.setTemp_quiet {s : State} {t : TempState} (change : s.lamp.temp ≠ t)
    (cool : s.lamp.state.burning = false ∨ t ≠ .hot) (free : ∀ c, s.lamp.state = .off c → c = .none) :
    s.setTemp t = s.tempTaken t := by
  have calm : ¬(t = .hot ∧ s.lamp.state.burning = true) := by
    rintro ⟨hot, burning⟩
    rcases cool with resting | other
    · rw [resting] at burning; cases burning
    · exact other hot
  rw [State.setTemp_eq change, if_neg calm, State.recheckStrike_idle]
  rw [State.tempTaken_lamp]
  exact free

/-- R33, R34: a held strike meets the gate again when the temperature state changes. -/
theorem State.setTemp_held {s : State} {t : TempState} (change : s.lamp.temp ≠ t) {c : Blocked}
    (off : s.lamp.state = .off c) (held : c ≠ .none) :
    let u := s.setTemp t
    (t = .hot → u.lamp.state = .off .thermal)
      ∧ (t ≠ .hot → s.strikePermitted = false → u.lamp.state = .off .account ∧ (c ≠ .account → Pending .account u))
      ∧ (t ≠ .hot → s.strikePermitted = true →
          u.lamp.state = .striking .attempt ∧ u.lamp.attempts = 1 ∧ u.pins.ignite = true)
      ∧ Untouched strikeBlocks s u := by
  have frame := s.tempTaken_untouched t
  have resting : ¬(t = .hot ∧ s.lamp.state.burning = true) := by rw [off]; rintro ⟨_, ⟨⟩⟩
  have stillOff : (s.tempTaken t).lamp.state = .off c := by rw [State.tempTaken_lamp]; exact off
  have temp : (s.tempTaken t).lamp.temp = t := by rw [State.tempTaken_lamp]
  have permission : (s.tempTaken t).strikePermitted = s.strikePermitted :=
    State.strikePermitted_congr (frame .account (by decide)) (frame .policy (by decide))
  rw [State.setTemp_eq change, if_neg resting]
  refine ⟨fun hot => ?_, fun cool denied => ?_, fun cool permitted => ?_,
    frame.andThen (State.recheckStrike_untouched _) rfl rfl⟩
  · obtain ⟨fails, cause⟩ := State.gateFails_hot (temp.trans hot)
    exact State.recheckStrike_blocked_state stillOff held fails cause
  · obtain ⟨fails, cause⟩ := State.gateFails_account (by rwa [temp]) (permission.trans denied)
    refine ⟨State.recheckStrike_blocked_state stillOff held fails cause, fun other => ?_⟩
    rw [State.recheckStrike_blocked stillOff held fails cause, if_neg (Ne.symm other)]
    exact State.holdStrike_raises _
  · rw [State.recheckStrike_permitted stillOff held (by rwa [temp]) (permission.trans permitted), State.startAttempt_lamp]
    exact ⟨rfl, rfl, ((s.tempTaken t).startAttempt_pins true).2.1⟩

theorem State.setTemp_temp (s : State) (t : TempState) : (s.setTemp t).lamp.temp = t := by
  by_cases same : s.lamp.temp = t
  · rw [State.setTemp_same same, same]
  · rw [State.setTemp_eq same]
    split
    · rw [State.extinguish_lamp, State.tempTaken_lamp]
    · have taken : (s.tempTaken t).lamp.temp = t := by rw [State.tempTaken_lamp]
      unfold State.recheckStrike
      repeat' split
      all_goals first
        | exact taken
        | (rw [State.startAttempt_lamp]; exact taken)
        | (rw [State.holdStrike_lamp]; exact taken)

/-- The lamp's blocks are those of before when a request is carried out. -/
theorem State.hearing_lampBlocks (s : State) (i : Instr) :
    (s.hearing i).lamp = s.lamp ∧ (s.hearing i).account = s.account ∧ (s.hearing i).settings = s.settings
      ∧ (s.hearing i).now = s.now ∧ (s.hearing i).policy = s.policy ∧ (s.hearing i).pins = s.pins := by
  have frame := s.hearing_untouched i
  exact ⟨frame .lamp (by decide), frame .account (by decide), frame .settings (by decide), frame .time (by decide),
    frame .policy (by decide), frame .pins (by decide)⟩

/-- Queueing is told from before the frame of the request was heard. -/
theorem Queued.of_hearing {k : Kind} {r : Record} {s u : State} {i : Instr} (h : Queued k r (s.hearing i) u) :
    Queued k r s u :=
  h.congr (s.hearing_untouched i .store (by decide)).symm (s.hearing_untouched i .startUp (by decide)).symm
    (s.hearing_untouched i .time (by decide)).symm rfl

/-- Settles O35: an unknown code, the state held, and a change, by what the lamp does at it. -/
theorem engineReportSetsTheTemperature : Obligations.EngineReportSetsTheTemperature := by
  intro l b s admitted
  obtain ⟨lamp, account, settings, now, policy, pins⟩ := s.hearing_lampBlocks (.engineReport l b)
  have taken := exec_admitted (i := .engineReport l b) rfl admitted (Nat.le_of_ble_eq_true rfl) rfl
  refine ⟨fun above => ?_, fun t known code => ?_⟩
  · rw [taken]
    simp only [ownEngineReport, reportOfCode_above above]
  · have reports : ownEngineReport b = fun s => ⟨s.setTemp t, .ok, []⟩ := by
      funext s
      rw [ownEngineReport, code, reportOfCode_code known]
    rw [taken, reports]
    rw [← lamp, ← account, ← settings, ← now,
      ← State.strikePermitted_congr (s := s) (t := s.hearing (.engineReport l b)) account policy]
    refine ⟨fun held => ?_, fun change => ?_⟩
    · dsimp only
      rw [State.setTemp_same held]
    · refine ⟨(s.hearing (.engineReport l b)).setTemp t, rfl, State.setTemp_temp _ _, State.setTemp_raises change, ?_, fun cool free => ?_,
        fun c off held => State.setTemp_held change off held⟩
      · rintro rfl burning
        obtain ⟨state, start, length, lampEn, ignite, ended, queued⟩ := State.setTemp_hot_burning change burning
        exact ⟨state, start, length, lampEn, ignite, ended, queued.of_hearing, State.setTemp_untouched _ _⟩
      · rw [State.setTemp_quiet change cool free]
        exact ⟨State.tempTaken_lamp _ _, State.tempTaken_untouched _ _⟩

end Sys2Proof.Machine
end

section
/-! The second event: the clock, the charge of a shining lamp, and the minute's takers (R3, R6, R109, R121 to R123). -/

namespace Sys2Proof.Machine

open Sys2Proof.Config

/-! ## The charge of a second -/

/-- R3: the weight of a second of a shining lamp. -/
def shiningWeight (x : LampState) (level : LampLevel) : Nat :=
  match x, level with
  | .lit, .eco => 10
  | .lit, .boost => 22
  | _, _ => 16

theorem secondWeight_shining {x : LampState} (shining : x = .warming ∨ x = .lit) (level : LampLevel) :
    secondWeight x level = shiningWeight x level := by
  rcases shining with rfl | rfl <;> cases level <;> rfl

theorem LampState.shining_iff (x : LampState) : x.shining = true ↔ x = .warming ∨ x = .lit := by
  simp [LampState.shining]

/-- R15: the account and the store once a due checkpoint is taken. -/
theorem State.checkpointIfDue_account (s : State) :
    s.checkpointIfDue.account =
      { s.account with checkpoint := if 360 ≤ s.account.checkpoint then 0 else s.account.checkpoint } := by
  unfold State.checkpointIfDue checkpointEvery
  split <;> simp

theorem State.checkpointIfDue_store (s : State) :
    (s.account.checkpoint < 360 → s.checkpointIfDue.store = s.store)
      ∧ (360 ≤ s.account.checkpoint → ∀ w, s.store.write = some w →
          s.checkpointIfDue.store = { s.store with queue := enqueue s.store.queue .account }) := by
  unfold State.checkpointIfDue checkpointEvery
  refine ⟨fun early => by rw [if_neg (by omega)], fun due w writing => ?_⟩
  rw [if_pos due]
  exact State.queueKind_busy (s := { s with account := { s.account with checkpoint := 0 } }) writing .account

/-- R2, R3, R4, R15: what a charged second leaves of the account and the store. -/
theorem State.chargeSecond_shining {s : State} (shining : s.lamp.state = .warming ∨ s.lamp.state = .lit) :
    let wear := min 3774873599 (s.account.record.wear + secondWeight s.lamp.state s.pins.level)
    let t := s.chargeSecond
    t.account =
        { s.account with
          record := { s.account.record with
            wear := wear, burnSeconds := min 4294967295 (s.account.record.burnSeconds + 1) }
          currentBurn := min 4294967295 (s.account.currentBurn + 1)
          status := statusOf (wear / 57600) s.settings.lifeLimit s.settings.warningMargin
          checkpoint := if 359 ≤ s.account.checkpoint then 0 else s.account.checkpoint + 1 }
      ∧ (t.account.status ≠ s.account.status → Pending .account t)
      ∧ (s.account.checkpoint < 359 → t.store = s.store)
      ∧ (359 ≤ s.account.checkpoint → ∀ w, s.store.write = some w →
          t.store = { s.store with queue := enqueue s.store.queue .account }) := by
  intro wear t
  obtain ⟨charged, hCharged⟩ : ∃ u : State,
      u = { s with account := s.account.chargeSecond (secondWeight s.lamp.state s.pins.level) } := ⟨_, rfl⟩
  have unfolded : t = (charged.deriveStatus.handAccount s.account).checkpointIfDue := by
    subst hCharged
    exact if_pos ((LampState.shining_iff _).mpr shining)
  have free : ∀ b, charged.deriveStatus.lamp.state = .off b → b = .none := by
    intro b off
    rw [State.deriveStatus_lamp, hCharged] at off
    change s.lamp.state = .off b at off
    rw [off] at shining
    rcases shining with h | h <;> cases h
  have frame := State.handAccount_untouched_free s.account free
  have account : (charged.deriveStatus.handAccount s.account).account =
      { charged.account with status := charged.statusNow } :=
    (frame .account (by decide)).trans charged.deriveStatus_account
  have store : (charged.deriveStatus.handAccount s.account).store = s.store :=
    (frame .store (by decide)).trans (by rw [State.deriveStatus_store, hCharged])
  have final : t.account = { charged.account with
      status := charged.statusNow
      checkpoint := if 360 ≤ s.account.checkpoint + 1 then 0 else s.account.checkpoint + 1 } := by
    rw [unfolded, State.checkpointIfDue_account, account, hCharged]
    rfl
  have count : (charged.deriveStatus.handAccount s.account).account.checkpoint = s.account.checkpoint + 1 := by
    rw [account, hCharged]
    rfl
  obtain ⟨early, due⟩ := State.checkpointIfDue_store (charged.deriveStatus.handAccount s.account)
  rw [count, store] at early due
  refine ⟨?_, fun changed => ?_, fun h => ?_, fun h => ?_⟩
  · rw [final, hCharged]
    simp only [Nat.add_le_add_iff_right (n := 1) (m := 359)]
    rfl
  · rw [unfolded]
    refine State.checkpointIfDue_keeps _ _ (State.handAccount_keeps _ _ _ (State.deriveStatus_raises _ ?_))
    rw [final] at changed
    rw [hCharged] at changed ⊢
    exact changed
  · rw [unfolded]
    exact early (by omega)
  · rw [unfolded]
    exact due (by omega)

theorem State.chargeSecond_dark {s : State} (dark : ¬(s.lamp.state = .warming ∨ s.lamp.state = .lit)) :
    s.chargeSecond = s := if_neg (mt (LampState.shining_iff _).mp dark)

/-- R6: the account's part of a second event, in a lamp that does not shine. -/
theorem State.accountSecond_dark {s : State} (dark : ¬(s.lamp.state = .warming ∨ s.lamp.state = .lit)) :
    s.accountSecond.account = { s.account with warmCount := min 1800 (s.account.warmCount + 1) } := by
  rw [State.accountSecond, State.chargeSecond_dark dark]
  rfl

theorem State.chargeSecond_warmCount (s : State) : s.chargeSecond.account.warmCount = s.account.warmCount := by
  by_cases shining : s.lamp.state = .warming ∨ s.lamp.state = .lit
  · rw [(State.chargeSecond_shining shining).1]
  · rw [State.chargeSecond_dark shining]

/-- R6: each second adds to the warm count. -/
theorem State.accountSecond_warmCount (s : State) :
    s.accountSecond.account.warmCount = min 1800 (s.account.warmCount + 1) := by
  rw [← s.chargeSecond_warmCount]
  rfl

/-! ## The clock (R121, R123) -/

theorem State.advanceClock_second {s : State} (within : s.clock.second < 59) :
    s.advanceClock = { s.reach (s.clock.secondStart + 1000000) with
      clock := { s.clock with second := s.clock.second + 1, secondStart := s.clock.secondStart + 1000000 } } := by
  have kind : (s.clock.tickKind == .wrap) = false := by simp [Clock.tickKind, within]
  have tick : s.clock.tick = { s.clock with second := s.clock.second + 1 } := if_pos within
  simp only [State.advanceClock, kind, State.raiseIf_false, State.reach_clock, tick]
  rfl

theorem State.advanceClock_clock (s : State) :
    s.advanceClock.clock = { s.clock.tick with secondStart := s.clock.secondStart + 1000000 } := by
  simp [State.advanceClock, second]

/-- Settles O49: a second within a minute is the clock's and the account's alone. -/
theorem secondEventChargesABurningLamp : Obligations.SecondEventChargesABurningLamp := by
  intro a b s within weight shining
  have kind : s.clock.tickKind = .second := if_pos within
  have passes : s.secondPasses a b = s.advanceClock.accountSecond := if_pos kind
  obtain ⟨u, hu⟩ : ∃ u, u = s.advanceClock := ⟨_, rfl⟩
  rw [State.advanceClock_second within] at hu
  rw [State.advanceClock_second within, ← hu] at passes
  have frame : Untouched [.time, .clock] s u := by
    rw [hu]
    exact (s.reach_untouched _).andThen (State.clock_update_untouched _ _) rfl rfl
  have lamp : u.lamp = s.lamp := frame .lamp (by decide)
  have account : u.account = s.account := frame .account (by decide)
  have settings : u.settings = s.settings := frame .settings (by decide)
  have store : u.store = s.store := frame .store (by decide)
  have pins : u.pins = s.pins := frame .pins (by decide)
  have after := u.accountSecond_untouched
  refine ⟨_, rfl, ?_⟩
  rw [passes]
  refine ⟨?_, ?_, ?_, fun dark => ?_, fun shines => ?_⟩
  · exact (after .time (by decide)).trans (by rw [hu]; rfl)
  · exact (after .clock (by decide)).trans (by rw [hu])
  · rw [State.accountSecond_warmCount, account]
  · have still : ¬(u.lamp.state = .warming ∨ u.lamp.state = .lit) := by rw [lamp]; exact dark
    refine ⟨by rw [State.accountSecond_dark still, account], ?_⟩
    rw [State.accountSecond, State.chargeSecond_dark still]
    exact frame.andThen u.countWarm_untouched rfl rfl
  · have burns : u.lamp.state = .warming ∨ u.lamp.state = .lit := by rw [lamp]; exact shines
    obtain ⟨charged, raises, early, due⟩ := State.chargeSecond_shining burns
    have counted : u.accountSecond.account = { u.chargeSecond.account with
        warmCount := satAdd warmCap u.chargeSecond.account.warmCount 1 } := rfl
    rw [counted, charged, account, settings, lamp, pins, secondWeight_shining shines]
    rw [account, store] at early due
    rw [charged, account, settings, lamp, pins, secondWeight_shining shines] at raises
    refine ⟨rfl, rfl, rfl, fun changed => ?_, fun h => ⟨?_, early h⟩, fun h => ⟨?_, due h⟩,
      frame.andThen after rfl rfl⟩
    · exact KeepsNotices.ofLinks (s := u.chargeSecond) (fun l => by cases l <;> rfl) _ (raises changed)
    · exact if_neg (by omega)
    · exact if_pos h

end Sys2Proof.Machine
end

section
/-! The minute event: the date, the finder, the countdown, and the second that ends the minute. -/

namespace Sys2Proof.Machine

open Sys2Proof.Config

/-! ## The day after a date (R121, R122) -/

theorem Date.valid_iff (year month day : Nat) :
    (⟨year, month, day⟩ : Date).valid = true ↔ 2000 ≤ year ∧ year ≤ 2099 ∧ 1 ≤ month ∧ month ≤ 12 ∧ 1 ≤ day
      ∧ day ≤ monthLength year month := by
  simp [Date.valid, and_assoc]

/-- R121, R122: within a year a month's end is followed by the first of the next month. -/
theorem monthLengths_take_succ (leap : Bool) {m : Nat} (first : 1 ≤ m) (notLast : m < 12) :
    ((monthLengths leap).take m).sum = ((monthLengths leap).take (m - 1)).sum + nth (monthLengths leap) (m - 1) 0 := by
  interval_cases m <;> cases leap <;> rfl

theorem monthLength_pos (y : Nat) {m : Nat} (first : 1 ≤ m) (last : m ≤ 12) : 1 ≤ monthLength y m := by
  unfold monthLength
  interval_cases m <;> cases leapYear y <;> decide

/-- R122: 365 days before a year's end, or 366. -/
theorem monthLengths_take_december (leap : Bool) :
    ((monthLengths leap).take 11).sum = if leap then 335 else 334 := by cases leap <;> rfl

/-- R121, R122: the day after a date other than the last of the range is valid and has the next day number. -/
theorem Date.next_number {d : Date} (valid : d.valid = true) (notLast : d ≠ ⟨2099, 12, 31⟩) :
    d.next.number = d.number + 1 ∧ d.next.valid = true := by
  obtain ⟨year, month, day⟩ := d
  obtain ⟨from2000, to2099, first, last, firstDay, lastDay⟩ := (Date.valid_iff _ _ _).mp valid
  have length := monthLength_pos year first last
  unfold Date.next
  dsimp only
  split
  · rename_i within
    refine ⟨?_, (Date.valid_iff _ _ _).mpr ⟨from2000, to2099, first, last, by omega, within⟩⟩
    simp only [Date.number]
    omega
  · rename_i monthEnds
    have dayIs : day = monthLength year month := by omega
    split
    · rename_i within
      refine ⟨?_, (Date.valid_iff _ _ _).mpr ⟨from2000, to2099, by omega, by omega, le_refl 1, monthLength_pos year (by omega) (by omega)⟩⟩
      have sum := monthLengths_take_succ (leapYear year) first within
      have named : nth (monthLengths (leapYear year)) (month - 1) 0 = day := by
        rw [dayIs, monthLength, if_neg (by omega)]
      simp only [Date.number, Nat.add_sub_cancel, sum, named]
      omega
    · rename_i december
      have monthIs : month = 12 := by omega
      subst monthIs
      have thirtyOne : day = 31 := dayIs
      subst thirtyOne
      split
      · rename_i more
        refine ⟨?_, (Date.valid_iff _ _ _).mpr ⟨by omega, more, le_refl 1, by decide, le_refl 1,
          monthLength_pos (year + 1) (le_refl 1) (by decide)⟩⟩
        have sum := monthLengths_take_december (leapYear year)
        simp only [Date.number, show (12 : Nat) - 1 = 11 from rfl, sum, Nat.sub_self, List.take_zero, List.sum_nil]
        rcases leap : leapYear year with _ | _ <;> simp [leapYear] at leap ⊢ <;> omega
      · rename_i range
        have yearIs : year = 2099 := by omega
        subst yearIs
        exact (notLast rfl).elim

/-- R121, R123: the clock after the last second of a minute. -/
theorem Clock.tick_minute {c : Clock} (ends : 59 ≤ c.second) (hours : c.hour ≤ 23) :
    c.tick.second = 0 ∧ c.tick.secondStart = c.secondStart
      ∧ (c.minute < 59 → c.tick.minute = c.minute + 1 ∧ c.tick.hour = c.hour ∧ c.tick.date = c.date
          ∧ c.tick.unset = c.unset)
      ∧ (59 ≤ c.minute → c.hour < 23 → c.tick.minute = 0 ∧ c.tick.hour = c.hour + 1 ∧ c.tick.date = c.date)
      ∧ (59 ≤ c.minute → c.hour = 23 → c.tick.minute = 0 ∧ c.tick.hour = 0 ∧ c.tick.date = c.date.next
          ∧ c.tick.unset = (c.unset || c.date == ⟨2099, 12, 31⟩)) := by
  have notSecond : ¬c.second < 59 := by omega
  by_cases within : c.minute < 59
  · have tick : c.tick = { c with second := 0, minute := c.minute + 1 } := by rw [Clock.tick, if_neg notSecond, if_pos within]
    rw [tick]
    exact ⟨rfl, rfl, fun _ => ⟨rfl, rfl, rfl, rfl⟩, fun h => by omega, fun h => by omega⟩
  · by_cases early : c.hour < 23
    · have tick : c.tick = { c with second := 0, minute := 0, hour := c.hour + 1 } := by
        rw [Clock.tick, if_neg notSecond, if_neg within, if_pos early]
      rw [tick]
      exact ⟨rfl, rfl, fun h => by omega, fun _ _ => ⟨rfl, rfl, rfl⟩, fun _ h => by omega⟩
    · have tick : c.tick = { c with
          second := 0, minute := 0, hour := 0, date := c.date.next
          unset := c.unset || c.date == ⟨2099, 12, 31⟩ } := by
        rw [Clock.tick, if_neg notSecond, if_neg within, if_neg early]
      rw [tick]
      exact ⟨rfl, rfl, fun h => by omega, fun _ h => by omega, fun _ _ => ⟨rfl, rfl, rfl, rfl⟩⟩

/-! ## What the minute's takers keep of the account -/

/-- R20: a strike or a burn is under way, or the lamp cools: no attempt can start in these states but by a timer. -/
def LampState.engaged : LampState → Bool
  | .striking _ => true
  | .warming => true
  | .lit => true
  | .cooling _ => true
  | _ => false

/-- No second has been charged between two states, and no attempt either when the lamp was engaged. -/
def Uncharged (s t : State) : Prop :=
  t.account.record.burnSeconds = s.account.record.burnSeconds
    ∧ (s.lamp.state.engaged = true → t.lamp.state.engaged = true ∧ t.account.record.wear = s.account.record.wear)

theorem Uncharged.refl (s : State) : Uncharged s s := ⟨rfl, fun engaged => ⟨engaged, rfl⟩⟩

theorem Uncharged.trans {s t u : State} (h : Uncharged s t) (k : Uncharged t u) : Uncharged s u :=
  ⟨k.1.trans h.1, fun engaged => ⟨(k.2 (h.2 engaged).1).1, (k.2 (h.2 engaged).1).2.trans (h.2 engaged).2⟩⟩

theorem Uncharged.of_same {s t : State} (account : t.account = s.account) (lamp : t.lamp.state = s.lamp.state) :
    Uncharged s t := by
  unfold Uncharged
  rw [account, lamp]
  exact ⟨rfl, fun engaged => ⟨engaged, rfl⟩⟩

theorem State.settleLamp_uncharged (s : State) (old : Lamp) : Uncharged s (s.settleLamp old) := .of_same (by simp) (by simp)

theorem State.recheckStrike_uncharged (s : State) : Uncharged s s.recheckStrike := by
  refine ⟨?_, fun engaged => ?_⟩
  · unfold State.recheckStrike
    repeat' split
    all_goals first
      | rfl
      | rw [State.startAttempt_account]
      | rw [State.holdStrike_account]
  · rw [State.recheckStrike_idle s fun b off => by rw [off] at engaged; cases engaged]
    exact ⟨engaged, rfl⟩

theorem State.extinguish_uncharged (s : State) (outage : Bool) : Uncharged s (s.extinguish outage) := by
  unfold Uncharged
  rw [State.extinguish_lamp, State.extinguish_account]
  exact ⟨rfl, fun _ => ⟨rfl, rfl⟩⟩

theorem State.strikeOrHold_burnSeconds (s : State) :
    s.strikeOrHold.account.record.burnSeconds = s.account.record.burnSeconds := by
  unfold State.strikeOrHold
  split
  · rw [State.startAttempt_account]
  · rw [State.holdStrike_account]

theorem State.setDemand_uncharged (s : State) (on : Bool) : Uncharged s (s.setDemand on) := by
  simp only [State.setDemand]
  split
  · exact .refl s
  · split
    · exact ⟨State.strikeOrHold_burnSeconds _, fun engaged => by simp_all [LampState.engaged]⟩
    · exact ⟨by simp, fun engaged => by simp_all [LampState.engaged]⟩
    · exact ⟨by simp, fun _ => by simp [LampState.engaged]⟩
    · exact ⟨by simp, fun engaged => by simp_all [LampState.engaged]⟩
    · exact .of_same rfl rfl
    · exact .of_same rfl rfl
    · exact Uncharged.trans (.of_same rfl rfl) (State.extinguish_uncharged _ false)

theorem State.setRequested_uncharged (s : State) (level : LampLevel) : Uncharged s (s.setRequested level) := by
  unfold State.setRequested
  split
  · exact .refl s
  · exact Uncharged.trans (.of_same rfl rfl) (State.settleLamp_uncharged _ _)

theorem State.deriveEffective_uncharged (s : State) (q : Bool) : Uncharged s (s.deriveEffective q) := by
  unfold State.deriveEffective
  split
  · exact .refl s
  · exact Uncharged.trans (.of_same (by simp) (by simp)) (State.recheckStrike_uncharged _)

theorem State.setOverride_uncharged (s : State) (o : Option Override) : Uncharged s (s.setOverride o) :=
  Uncharged.trans (.of_same rfl rfl) (State.deriveEffective_uncharged _ _)

theorem State.setBase_uncharged (s : State) (level : Level) (q : Bool) : Uncharged s (s.setBase level q) :=
  Uncharged.trans (.of_same rfl rfl) (State.deriveEffective_uncharged _ _)

theorem Untouched.uncharged {A : List Block} {s t : State} (h : Untouched A s t)
    (apart : [Block.account, .lamp].all (fun b => decide (b ∉ A)) = true) : Uncharged s t := by
  simp only [List.all_cons, List.all_nil, Bool.and_true, Bool.and_eq_true, decide_eq_true_eq] at apart
  exact .of_same (h .account apart.1) (congrArg Lamp.state (h .lamp apart.2))

theorem State.handOver_uncharged (s : State) (q : Bool) : Uncharged s (s.handOver q) :=
  (((s.setBase_uncharged _ _).trans (State.setRequested_uncharged _ _)).trans (State.setDemand_uncharged _ _)).trans
    ((State.setBridgeMute_untouched _ _).uncharged rfl)

theorem State.runner_uncharged (s : State) (ev : RunnerEvent) : Uncharged s (s.runner ev) :=
  ((Uncharged.trans (t := { s with session := (runRecord s ev).1 }) (.of_same rfl rfl) (State.handOver_uncharged _ _)).trans
    ((State.serveSource_untouched _ _).uncharged rfl)).trans ((State.raiseIf_untouched _ _ _).uncharged rfl)

theorem State.minuteEvent_uncharged (s : State) (wrapped : Bool) : Uncharged s (s.minuteEvent wrapped) :=
  ((s.recompute_untouched false).uncharged rfl).trans (State.runner_uncharged _ _)

theorem State.takeMinute_uncharged (s : State) (wrapped first : Bool) : Uncharged s (s.takeMinute wrapped first) := by
  unfold State.takeMinute
  split
  · exact .refl s
  · split
    · exact (s.setOverride_uncharged _).trans (State.minuteEvent_uncharged _ _)
    · exact (s.minuteEvent_uncharged _).trans (State.setOverride_uncharged _ _)

/-! ## The finder and the override record (R109, R135) -/

theorem State.minuteEvent_untouched (s : State) (wrapped : Bool) :
    Untouched (.finder :: .notice .schedule :: runnerBlocks) s (s.minuteEvent wrapped) :=
  (s.recompute_untouched false).andThen (State.runner_untouched _ _) rfl rfl

theorem State.countOverride_untouched (s : State) : Untouched policyBlocks s s.countOverride := s.setOverride_untouched _

theorem State.takeMinute_untouched (s : State) (wrapped first : Bool) :
    Untouched (.finder :: .notice .schedule :: runnerBlocks) s (s.takeMinute wrapped first) := by
  unfold State.takeMinute
  split
  · exact .refl _ _
  · split
    · exact s.countOverride_untouched.andThen (State.minuteEvent_untouched _ _) rfl rfl
    · exact (s.minuteEvent_untouched _).andThen (State.countOverride_untouched _) rfl rfl

/-- R143: handing over gives the policy unit its base level alone. -/
theorem State.handOver_policy (s : State) (q : Bool) : (s.handOver q).policy = (s.setBase s.baseLevel q).policy := by
  have requested := State.setRequested_untouched (s.setBase s.baseLevel q) s.session.requested .policy (by decide)
  have demand := State.setDemand_untouched ((s.setBase s.baseLevel q).setRequested s.session.requested) s.session.demand
    .policy (by decide)
  have mute := State.setBridgeMute_untouched (((s.setBase s.baseLevel q).setRequested s.session.requested).setDemand
    s.session.demand) s.session.use.bridgeMute .policy (by decide)
  exact mute.trans (demand.trans requested)

theorem State.runner_override (s : State) (ev : RunnerEvent) : (s.runner ev).policy.override = s.policy.override := by
  have notice : (s.runner ev).policy = (({ s with session := (runRecord s ev).1 }.handOver ev.quiet).serveSource
    (runRecord s ev).2).policy := State.raiseIf_policy _ _ _
  have source := State.serveSource_untouched ({ s with session := (runRecord s ev).1 }.handOver ev.quiet) (runRecord s ev).2
    .policy (by decide)
  rw [notice.trans source, State.handOver_policy, State.setBase_policy]

theorem State.minuteEvent_override (s : State) (wrapped : Bool) :
    (s.minuteEvent wrapped).policy.override = s.policy.override := by
  rw [State.minuteEvent, State.runner_override, State.recompute_policy]

theorem State.countOverride_override (s : State) : s.countOverride.policy.override = overrideCounted s.policy.override := by
  rw [State.countOverride, State.setOverride_policy]

theorem State.minuteEvent_finder (s : State) (wrapped : Bool) : (s.minuteEvent wrapped).finder = found s.table s.clock :=
  (State.runner_untouched (s.recompute false) { clockSet := wrapped } .finder (by decide)).trans
    (by simp [State.recompute])

theorem State.takeMinute_up {s : State} (up : s.startUpDone = true) (wrapped first : Bool) :
    (s.takeMinute wrapped first).finder = found s.table s.clock
      ∧ (s.takeMinute wrapped first).policy.override = overrideCounted s.policy.override := by
  unfold State.takeMinute
  rw [if_neg (by simp [up])]
  split
  · rw [State.minuteEvent_finder, State.minuteEvent_override, State.countOverride_override]
    have table : s.countOverride.table = s.table := s.countOverride_untouched .table (by decide)
    have clock : s.countOverride.clock = s.clock := s.countOverride_untouched .clock (by decide)
    exact ⟨by rw [table, clock], rfl⟩
  · rw [State.countOverride_override, State.minuteEvent_override]
    exact ⟨((s.minuteEvent wrapped).countOverride_untouched .finder (by decide)).trans (s.minuteEvent_finder wrapped), rfl⟩

theorem State.takeMinute_down {s : State} (down : s.startUpDone = false) (wrapped first : Bool) :
    s.takeMinute wrapped first = s := if_pos (by simp [down])

/-! ## The passes of a minute event -/

theorem State.takeMinute_keeps (s : State) (wrapped first : Bool) : KeepsNotices s (s.takeMinute wrapped first) := by
  have minute (u : State) : KeepsNotices u (u.minuteEvent wrapped) := (u.recompute_keeps false).trans (State.runner_keeps _ _)
  unfold State.takeMinute
  split
  · exact .refl s
  · split
    · exact (s.setOverride_keeps _).trans (minute _)
    · exact (minute s).trans (State.setOverride_keeps _ _)

/-- The second that ends the minute is charged before the minute's takers, or after them (log entry 7). -/
theorem State.secondPasses_minute {s : State} (ends : 59 ≤ s.clock.second) (a b : Bool) :
    s.secondPasses a b = if a then s.advanceClock.accountSecond.takeMinute (s.clock.tickKind == .wrap) b
      else (s.advanceClock.takeMinute (s.clock.tickKind == .wrap) b).accountSecond := by
  refine if_neg fun kind => ?_
  rw [Clock.tickKind, if_neg (by omega)] at kind
  split at kind <;> cases kind

/-- What both orders of the passes keep of the state after the clock's advance. -/
theorem State.secondPasses_untouched {s : State} (ends : 59 ≤ s.clock.second) (a b : Bool) :
    Untouched (.finder :: .notice .schedule :: runnerBlocks) s.advanceClock (s.secondPasses a b) := by
  rw [State.secondPasses_minute ends]
  cases a
  · exact (State.takeMinute_untouched _ _ _).andThen (State.accountSecond_untouched _) rfl rfl
  · exact (State.accountSecond_untouched _).andThen (State.takeMinute_untouched _ _ _) rfl rfl

theorem State.secondPasses_keeps {s : State} (ends : 59 ≤ s.clock.second) (a b : Bool) :
    KeepsNotices s.advanceClock (s.secondPasses a b) := by
  rw [State.secondPasses_minute ends]
  cases a
  · exact (State.takeMinute_keeps _ _ _).trans (State.accountSecond_keeps _)
  · exact (State.accountSecond_keeps _).trans (State.takeMinute_keeps _ _ _)

/-- R109, R135: after start-up the finder's items and the override record are those of the new minute. -/
theorem State.secondPasses_up {s : State} (ends : 59 ≤ s.clock.second) (up : s.startUpDone = true) (a b : Bool) :
    (s.secondPasses a b).finder = found s.table s.advanceClock.clock
      ∧ (s.secondPasses a b).policy.override = overrideCounted s.policy.override := by
  have frame := s.advanceClock_untouched
  have table : s.advanceClock.table = s.table := frame .table (by decide)
  have policy : s.advanceClock.policy = s.policy := frame .policy (by decide)
  have upNow : s.advanceClock.startUpDone = true := (frame .startUp (by decide)).trans up
  rw [State.secondPasses_minute ends]
  cases a
  · obtain ⟨finder, override⟩ := State.takeMinute_up upNow (s.clock.tickKind == .wrap) b
    have after := State.accountSecond_untouched (s.advanceClock.takeMinute (s.clock.tickKind == .wrap) b)
    rw [table] at finder
    rw [policy] at override
    exact ⟨(after .finder (by decide)).trans finder, (congrArg Policy.override (after .policy (by decide))).trans override⟩
  · have before := s.advanceClock.accountSecond_untouched
    obtain ⟨finder, override⟩ := State.takeMinute_up ((before .startUp (by decide)).trans upNow) (s.clock.tickKind == .wrap) b
    have tableNow : s.advanceClock.accountSecond.table = s.table := (before .table (by decide)).trans table
    have clockNow : s.advanceClock.accountSecond.clock = s.advanceClock.clock := before .clock (by decide)
    have policyNow : s.advanceClock.accountSecond.policy = s.policy := (before .policy (by decide)).trans policy
    rw [tableNow, clockNow] at finder
    rw [policyNow] at override
    exact ⟨finder, override⟩

/-- Log entry 25: before start-up has ended a minute event is the clock's and the account's alone. -/
theorem State.secondPasses_down {s : State} (ends : 59 ≤ s.clock.second) (down : s.startUpDone = false) (a b : Bool) :
    s.secondPasses a b = s.advanceClock.accountSecond := by
  have downNow : s.advanceClock.startUpDone = false := (s.advanceClock_untouched .startUp (by decide)).trans down
  have downStill : s.advanceClock.accountSecond.startUpDone = false :=
    (s.advanceClock.accountSecond_untouched .startUp (by decide)).trans downNow
  rw [State.secondPasses_minute ends, State.takeMinute_down downNow, State.takeMinute_down downStill, ite_self]

theorem LampState.engaged_of_shining {x : LampState} (shining : x = .warming ∨ x = .lit) : x.engaged = true := by
  rcases shining with rfl | rfl <;> rfl

/-- R3: a second charged before the minute's takers is charged by the lamp as it stood. -/
theorem State.accountSecond_takeMinute (s : State) (wrapped first : Bool) :
    let t := s.accountSecond.takeMinute wrapped first
    ((s.lamp.state = .warming ∨ s.lamp.state = .lit) →
        t.account.record.burnSeconds = min 4294967295 (s.account.record.burnSeconds + 1)
          ∧ t.account.record.wear = min 3774873599 (s.account.record.wear + shiningWeight s.lamp.state s.pins.level))
      ∧ (¬(s.lamp.state = .warming ∨ s.lamp.state = .lit) →
          t.account.record.burnSeconds = s.account.record.burnSeconds) := by
  intro t
  obtain ⟨seconds, wear⟩ := s.accountSecond.takeMinute_uncharged wrapped first
  refine ⟨fun shining => ?_, fun dark => ?_⟩
  · have lamp : s.accountSecond.lamp.state = s.lamp.state := (congrArg Lamp.state s.chargeSecond_lamp).trans rfl
    have charged : s.accountSecond.account.record = s.chargeSecond.account.record := rfl
    rw [(State.chargeSecond_shining shining).1, secondWeight_shining shining] at charged
    refine ⟨seconds.trans (by rw [charged]), (wear ?_).2.trans (by rw [charged])⟩
    rw [lamp]
    exact LampState.engaged_of_shining shining
  · exact seconds.trans (by rw [State.accountSecond_dark dark])

/-- Settles O50: the clock's advance, then the minute's takers and the charge in either order, each by its own lemma. -/
theorem minuteEventMovesTheClockAndTheCountdown : Obligations.MinuteEventMovesTheClockAndTheCountdown := by
  intro a b s ends hours
  have frame := State.secondPasses_untouched ends a b
  have clock : (s.secondPasses a b).clock = { s.clock.tick with secondStart := s.clock.secondStart + 1000000 } :=
    (frame .clock (by decide)).trans s.advanceClock_clock
  obtain ⟨second, -, minute, hour, day⟩ := Clock.tick_minute ends hours
  have advanced := s.advanceClock_untouched
  have lamp : s.advanceClock.lamp = s.lamp := advanced .lamp (by decide)
  have account : s.advanceClock.account = s.account := advanced .account (by decide)
  have pins : s.advanceClock.pins = s.pins := advanced .pins (by decide)
  have charge := s.advanceClock.accountSecond_takeMinute (s.clock.tickKind == .wrap) b
  have order := State.secondPasses_minute ends a b
  refine ⟨_, rfl, ?_, ?_, fun h => ?_, fun h k => ?_, fun h k => ?_, fun up => ?_, fun down => ?_, ?_, ?_⟩
  · rw [clock]; exact second
  · rw [clock]
  · rw [clock]; exact minute h
  · rw [clock]; exact hour h k
  · obtain ⟨minuteIs, hourIs, dateIs, unsetIs⟩ := day h k
    rw [clock]
    refine ⟨minuteIs, hourIs, fun valid notLast => ?_, fun last => ⟨?_, ?_, fun hm _ => ?_⟩⟩
    · obtain ⟨number, nextValid⟩ := Date.next_number valid notLast
      refine ⟨by rw [dateIs]; exact number, by rw [dateIs]; exact nextValid, ?_⟩
      rw [unsetIs, beq_false_of_ne notLast, Bool.or_false]
    · rw [dateIs, last]; rfl
    · rw [unsetIs, last, beq_self_eq_true, Bool.or_true]
    · refine State.secondPasses_keeps ends a b _ (Pending.of_raiseIf ?_ _)
      have wraps : s.clock.tickKind = .wrap := by
        rw [Clock.tickKind, if_neg (by omega), if_pos ⟨hm, k, last⟩]
      rw [State.reach_clock, wraps, beq_self_eq_true]
  · obtain ⟨finder, override⟩ := State.secondPasses_up ends up a b
    rw [clock, ← s.advanceClock_clock]
    exact ⟨finder, override⟩
  · rw [State.secondPasses_down ends down]
    have still := advanced.andThen (C := .time :: .clock :: .notice .clock :: .attention :: burnBlocks)
      s.advanceClock.accountSecond_untouched (by rfl) (by rfl)
    exact ⟨still .finder (by decide), still .policy (by decide), still .session (by decide)⟩
  · rw [lamp, account, pins] at charge
    rw [order]
    refine ⟨fun first shining => ?_, fun first dark => ?_, fun last shining => ?_, fun last dark => ?_, fun last => ?_⟩
    · rw [if_pos first]; exact charge.1 shining
    · rw [if_pos first]; exact charge.2 dark
    · subst last
      have charged := (State.chargeSecond_shining shining).1
      rw [secondWeight_shining shining] at charged
      exact ⟨⟨congrArg (·.record.burnSeconds) charged, congrArg (·.record.wear) charged⟩,
        congrArg (·.currentBurn) charged⟩
    · subst last
      rw [if_neg Bool.false_ne_true, State.accountSecond_warmCount]
      exact State.accountSecond_dark dark
    · subst last
      exact State.accountSecond_warmCount _
  · exact advanced.andThen frame rfl rfl

end Sys2Proof.Machine
end

section
/-! What the handing over of a new session record does to the lamp (R22, R30, R33, R143). -/

namespace Sys2Proof.Machine

open Sys2Proof.Config

/-! ## A change of demand, by the lamp state it finds (R22, R30) -/

theorem State.setDemand_same {s : State} {on : Bool} (h : s.lamp.demand = on) : s.setDemand on = s := if_pos h

theorem State.setDemand_cooling {s : State} {on p : Bool} (change : s.lamp.demand ≠ on) (cooling : s.lamp.state = .cooling p) :
    s.setDemand on = { s with lamp := { s.lamp with demand := on, state := .cooling on } }.settleLamp
      { s.lamp with demand := on } := by
  simp only [State.setDemand, if_neg change, cooling]

theorem State.setDemand_strikes {s : State} {b : Blocked} (change : s.lamp.demand ≠ true) (off : s.lamp.state = .off b) :
    s.setDemand true = { s with lamp := { s.lamp with demand := true } }.strikeOrHold := by
  simp only [State.setDemand, if_neg change, off]

theorem State.setDemand_rests {s : State} {b : Blocked} (change : s.lamp.demand ≠ false) (off : s.lamp.state = .off b) :
    s.setDemand false = { s with lamp := { s.lamp with demand := false, state := .off .none } }.settleLamp
      { s.lamp with demand := false } := by
  simp only [State.setDemand, if_neg change, off]

theorem State.setDemand_failed {s : State} (change : s.lamp.demand ≠ false) (failed : s.lamp.state = .failed) :
    s.setDemand false = { s with lamp := { s.lamp with demand := false, state := .off .none, attempts := 0 } }.settleLamp
      { s.lamp with demand := false } := by
  simp only [State.setDemand, if_neg change, failed]

theorem State.setDemand_extinguishes {s : State} (change : s.lamp.demand ≠ false) (burning : s.lamp.state.burning = true) :
    s.setDemand false = { s with lamp := { s.lamp with demand := false } }.extinguish false := by
  simp only [State.setDemand, if_neg change]
  split <;> simp_all [LampState.burning]

theorem State.setDemand_policy (s : State) (on : Bool) : (s.setDemand on).policy = s.policy :=
  s.setDemand_untouched on .policy (by decide)

/-! ## The lamp as demand turns -/

/-- R22 to R24, R33: demand turned on, in the lamp controller alone. -/
theorem State.setDemand_on (s : State) : SwitchedOn s (s.setDemand true) := by
  intro off
  have change : s.lamp.demand ≠ true := by rw [off]; decide
  refine ⟨(s.setDemand_orders true).1, fun p cooling => ?_, fun rest => ?_⟩
  · rw [State.setDemand_cooling change cooling]
    simp
  · have policy := s.setDemand_policy true
    rw [policy, State.setDemand_strikes change rest]
    obtain ⟨t, ht⟩ : ∃ t : State, t = { s with lamp := { s.lamp with demand := true } } := ⟨_, rfl⟩
    have lamp : t.lamp = { s.lamp with demand := true } := by rw [ht]
    have account : t.account = s.account := by rw [ht]
    have gate : t.strikePermitted = true ↔ Permission s.account s.policy.effective := by
      rw [State.strikePermitted_iff, ht]
    have settings : t.settings = s.settings := by rw [ht]
    have now : t.now = s.now := by rw [ht]
    have pins : t.pins = s.pins := by rw [ht]
    have state : t.lamp.state = .off .none := by rw [lamp]; exact rest
    rw [← ht]
    refine ⟨fun warm => ?_, fun cool denied => ?_, fun cool granted => ?_⟩
    · have hotNow : t.lamp.temp = .hot := by rw [lamp]; exact warm
      rw [State.strikeOrHold_hot hotNow, State.holdStrike_account]
      refine ⟨?_, account, State.holdStrike_raises_lamp (by rw [state]; decide)⟩
      simp only [State.holdStrike_lamp, lamp]
    · have coolNow : t.lamp.temp ≠ .hot := by rw [lamp]; exact cool
      rw [State.strikeOrHold_denied coolNow (by rw [← Bool.not_eq_true, gate]; exact denied), State.holdStrike_account]
      refine ⟨?_, account, State.holdStrike_raises_lamp (by rw [state]; decide), State.holdStrike_raises _⟩
      simp only [State.holdStrike_lamp, lamp]
    · have coolNow : t.lamp.temp ≠ .hot := by rw [lamp]; exact cool
      rw [State.strikeOrHold_permitted coolNow (gate.mpr granted)]
      obtain ⟨lampEn, ignite, fan⟩ := t.startAttempt_pins true
      refine ⟨?_, lampEn, ignite, fan, State.startAttempt_raises _ (by rw [state]; simp), ?_, fun changed => ?_⟩
      · rw [State.startAttempt_lamp, lamp, now, settings, pins]
        rfl
      · rw [State.startAttempt_charged, account, settings]
      · refine State.startAttempt_raises_account ?_
        rw [account]
        exact changed

/-- R22, R30: demand turned off, in the lamp controller alone. -/
theorem State.setDemand_off (s : State) : SwitchedOff s (s.setDemand false) := by
  intro on
  have change : s.lamp.demand ≠ false := by rw [on]; decide
  have stays : (s.setDemand false).policy.effective = s.policy.effective := congrArg Policy.effective (s.setDemand_policy false)
  refine ⟨(s.setDemand_orders false).1, fun p cooling => ?_, fun failed => ?_, fun b off _ => ?_,
    fun b off held h => (h.1 stays).elim, fun burning => ?_⟩
  · rw [State.setDemand_cooling change cooling]
    simp
  · rw [State.setDemand_failed change failed]
    refine ⟨by simp, by simp, State.settleLamp_raises_state _ _ ?_⟩
    simp [failed, LampState.noticed]
  · rw [State.setDemand_rests change off]
    refine ⟨by simp, by simp, fun held => State.settleLamp_raises_state _ _ ?_⟩
    simpa [off, LampState.noticed] using held
  · have burns : s.lamp.state.burning = true := by rcases burning with h | h | h | h <;> rw [h] <;> rfl
    have notCooling : ∀ p, s.lamp.state ≠ .cooling p := fun p h => by rw [h] at burns; cases burns
    rw [State.setDemand_extinguishes change burns]
    obtain ⟨lampEn, ignite, fan, mute⟩ := State.extinguish_pins { s with lamp := { s.lamp with demand := false } } false
    refine ⟨by simp [State.extinguish_lamp, second], lampEn, ignite, fan, mute,
      State.extinguish_raises_lamp _ notCooling, ?_, ?_⟩
    · rw [State.extinguish_account]; rfl
    · exact (State.extinguish_queued { s with lamp := { s.lamp with demand := false } } false).congr rfl rfl rfl rfl

/-! ## A change of levels alone -/

/-- What a change of the levels can touch while the lamp's state stays. -/
def levelBlocks : List Block := .session :: .policy :: .notice .lockout :: ballastBlocks

/-- The lamp differs in its two levels alone, and what a change of demand goes by is the same. -/
def LevelsOnly (s t : State) : Prop :=
  (∃ requested effective, t.lamp = { s.lamp with requested := requested, effective := effective })
    ∧ t.pins.lit = s.pins.lit ∧ Untouched levelBlocks s t

theorem LevelsOnly.refl (s : State) : LevelsOnly s s := ⟨⟨_, _, rfl⟩, rfl, .refl _ _⟩

theorem LevelsOnly.trans {s t u : State} (h : LevelsOnly s t) (k : LevelsOnly t u) : LevelsOnly s u := by
  obtain ⟨⟨r, e, lamp⟩, lit, frame⟩ := h
  obtain ⟨⟨r', e', lamp'⟩, lit', frame'⟩ := k
  exact ⟨⟨r', e', by rw [lamp', lamp]⟩, lit'.trans lit, frame.trans frame'⟩

/-- What a change of demand goes by, of a state whose levels alone have changed. -/
theorem LevelsOnly.fields {s t : State} (h : LevelsOnly s t) :
    t.account = s.account ∧ t.settings = s.settings ∧ t.now = s.now ∧ t.store = s.store ∧ t.startUpDone = s.startUpDone :=
  ⟨h.2.2 .account (by decide), h.2.2 .settings (by decide), h.2.2 .time (by decide), h.2.2 .store (by decide),
    h.2.2 .startUp (by decide)⟩

theorem SwitchedOn.of_levels {s t u : State} (h : LevelsOnly s t) (k : SwitchedOn t u) : SwitchedOn s u := by
  obtain ⟨account, settings, now, store, up⟩ := h.fields
  obtain ⟨⟨r, e, lamp⟩, lit, frame⟩ := h
  unfold SwitchedOn at k ⊢
  rw [lamp, account, settings, now, lit] at k
  exact k

theorem SwitchedOff.of_levels {s t u : State} (h : LevelsOnly s t) (k : SwitchedOff t u) (policy : u.policy = t.policy)
    (held : ∀ b, s.lamp.state = .off b → b ≠ .none → t.policy.effective = s.policy.effective) : SwitchedOff s u := by
  obtain ⟨account, settings, now, store, up⟩ := h.fields
  obtain ⟨⟨r, e, lamp⟩, lit, frame⟩ := h
  unfold SwitchedOff Queued at k ⊢
  rw [lamp, account, settings, now, policy, store, up] at k
  rw [policy]
  intro kept letGo on
  obtain ⟨demand, cooling, failed, off, -, burning⟩ := k on
  refine ⟨demand, cooling, failed, fun b rest _ => off b rest (.inr fun h => h.1 rfl), fun b rest blocked h => ?_, burning⟩
  exact (h.1 (held b rest blocked)).elim

theorem State.setRequested_levels (s : State) (level : LampLevel) : LevelsOnly s (s.setRequested level) := by
  unfold State.setRequested
  split
  · exact .refl s
  · refine ⟨⟨_, _, State.settleLamp_lamp _ _⟩, by simp, ?_⟩
    exact (s.lamp_update_untouched _).andThen (State.settleLamp_untouched _ _) rfl rfl

/-! ## A new base level before it (R106, R110) -/

/-- The state in which a new effective level has the strike gate checked again. -/
def State.levelTaken (s : State) (level : Level) (q : Bool) : State :=
  let p := { s.policy with base := level }
  { s with policy := { p with effective := p.derived } }.raiseIf (!q) .lockout

theorem State.levelTaken_levels (s : State) (level : Level) (q : Bool) : LevelsOnly s (s.levelTaken level q) := by
  refine ⟨⟨_, _, State.raiseIf_lamp _ _ _⟩, congrArg Pins.lit (State.raiseIf_pins _ _ _), ?_⟩
  exact (s.policy_update_untouched _).andThen (State.raiseIf_untouched _ _ _) rfl rfl

theorem State.levelTaken_policy (s : State) (level : Level) (q : Bool) :
    (s.levelTaken level q).policy = (s.setBase level q).policy := by
  rw [State.setBase_policy]
  exact State.raiseIf_policy _ _ _

/-- R110: a new base level is a change of the policy unit alone, or has the strike gate checked again. -/
theorem State.setBase_cases (s : State) (level : Level) (q : Bool) :
    (LevelsOnly s (s.setBase level q) ∧ (s.setBase level q).policy.effective = s.policy.effective)
      ∨ ((s.setBase level q).policy.effective ≠ s.policy.effective
        ∧ s.setBase level q = (s.levelTaken level q).recheckStrike) := by
  by_cases same : ({ s.policy with base := level } : Policy).derived = s.policy.effective
  · refine .inl ⟨?_, by rw [State.setBase_policy]; exact same⟩
    have stays : s.setBase level q = { s with policy := { s.policy with base := level } } := if_pos same
    rw [stays]
    exact ⟨⟨_, _, rfl⟩, rfl, (s.policy_update_untouched _).mono (by decide)⟩
  · exact .inr ⟨by rw [State.setBase_policy]; exact same, if_neg same⟩

/-- R110: without a held strike a new base level leaves the lamp. -/
theorem State.setBase_levels {s : State} (free : ∀ b, s.lamp.state = .off b → b = .none) (level : Level) (q : Bool) :
    LevelsOnly s (s.setBase level q) := by
  rcases s.setBase_cases level q with ⟨levels, -⟩ | ⟨-, checked⟩
  · exact levels
  · have taken := s.levelTaken_levels level q
    rw [checked, State.recheckStrike_idle]
    · exact taken
    · obtain ⟨⟨r, e, lamp⟩, -⟩ := taken
      rw [lamp]
      exact free

/-- R33: a held strike at a new effective level: the first attempt starts, or it is held on. -/
theorem State.setBase_held {s : State} {b : Blocked} (off : s.lamp.state = .off b) (held : b ≠ .none) (level : Level)
    (q : Bool) (change : (s.setBase level q).policy.effective ≠ s.policy.effective) :
    let t := s.setBase level q
    let passes := s.lamp.temp ≠ .hot ∧ Permission s.account t.policy.effective
    (passes → t.lamp.state = .striking .attempt ∧ t.lamp.demand = s.lamp.demand)
      ∧ (¬passes → t.account = s.account ∧ ∃ c hold effective, c ≠ .none
          ∧ t.lamp = { s.lamp with state := .off c, litHold := hold, effective := effective }) := by
  intro t passes
  rcases s.setBase_cases level q with ⟨-, same⟩ | ⟨-, checked⟩
  · exact (change same).elim
  have policy := s.levelTaken_policy level q
  have taken := s.levelTaken_levels level q
  have account := taken.fields.1
  have lamp : (s.levelTaken level q).lamp = s.lamp := State.raiseIf_lamp _ _ _
  have offNow : (s.levelTaken level q).lamp.state = .off b := by rw [lamp]; exact off
  have gate : (s.levelTaken level q).strikePermitted = true ↔ Permission s.account t.policy.effective := by
    rw [State.strikePermitted_iff, account, policy]
  refine ⟨fun ⟨cool, permitted⟩ => ?_, fun fails => ?_⟩
  · have starts : t = (s.levelTaken level q).startAttempt true :=
      checked.trans (State.recheckStrike_permitted offNow held (by rw [lamp]; exact cool) (gate.mpr permitted))
    rw [starts, State.startAttempt_lamp, lamp]
    exact ⟨rfl, rfl⟩
  · have blocked : (s.levelTaken level q).gatePasses = false := by
      rw [← Bool.not_eq_true, State.gatePasses_iff, gate, lamp]
      exact fails
    have cause : (s.levelTaken level q).blockCause ≠ .none := by
      unfold State.blockCause
      split <;> decide
    have result : t = _ := checked.trans (State.recheckStrike_blocked offNow held blocked rfl)
    rw [result]
    split
    · exact ⟨account, b, s.lamp.litHold, s.lamp.effective, held, by rw [lamp, ← off]⟩
    · rw [State.holdStrike_account, State.holdStrike_lamp, lamp]
      exact ⟨account, _, _, _, cause, rfl⟩

/-! ## The last part of the handing over -/

/-- What an operation of the switch sequencer and a notice leave of the lamp: MUTE alone is derived again. -/
def MuteOnly (s t : State) : Prop :=
  t.lamp = s.lamp ∧ t.account = s.account ∧ t.policy = s.policy ∧ t.store = s.store
    ∧ t.pins = { s.pins with mute := muteWanted t.switch t.lamp.state } ∧ KeepsNotices s t

theorem State.setBridgeMute_muteOnly (s : State) (on : Bool) : MuteOnly s (s.setBridgeMute on) := by
  have frame := s.setBridgeMute_untouched on
  refine ⟨frame .lamp (by decide), frame .account (by decide), frame .policy (by decide), frame .store (by decide), ?_,
    s.setBridgeMute_keeps on⟩
  simp [State.setBridgeMute]

theorem MuteOnly.noticeSession {s t : State} (h : MuteOnly s t) (old : Session) (q : Bool) :
    MuteOnly s (t.noticeSession old q) := by
  obtain ⟨lamp, account, policy, store, pins, keeps⟩ := h
  refine ⟨?_, ?_, ?_, ?_, ?_, keeps.trans (State.noticeSession_keeps _ _ _)⟩
  all_goals simp only [State.noticeSession, State.raiseIf_lamp, State.raiseIf_account, State.raiseIf_policy,
    State.raiseIf_store, State.raiseIf_pins, State.raiseIf_switch]
  all_goals assumption

theorem SwitchedOn.then_mute {s t u : State} (k : SwitchedOn s t) (h : MuteOnly t u) : SwitchedOn s u := by
  obtain ⟨lamp, account, policy, store, pins, keeps⟩ := h
  unfold SwitchedOn at k ⊢
  rw [lamp, account, policy, pins]
  intro kept permitted hot wear off
  obtain ⟨demand, cooling, rest⟩ := k off
  refine ⟨demand, cooling, fun state => ?_⟩
  obtain ⟨warm, denied, granted⟩ := rest state
  refine ⟨fun h => ?_, fun h p => ?_, fun h p => ?_⟩
  · obtain ⟨lamp, account, raised⟩ := warm h
    exact ⟨lamp, account, keeps _ raised⟩
  · obtain ⟨lamp, account, raised, raised'⟩ := denied h p
    exact ⟨lamp, account, keeps _ raised, keeps _ raised'⟩
  · obtain ⟨lamp, lampEn, ignite, fan, raised, account, raised'⟩ := granted h p
    exact ⟨lamp, lampEn, ignite, fan, keeps _ raised, account, fun changed => keeps _ (raised' changed)⟩

theorem SwitchedOff.then_mute {s t u : State} (k : SwitchedOff s t) (h : MuteOnly t u) : SwitchedOff s u := by
  obtain ⟨lamp, account, policy, store, pins, keeps⟩ := h
  unfold SwitchedOff Queued at k ⊢
  rw [pins, lamp, account, policy, store]
  intro kept letGo on
  obtain ⟨demand, cooling, failed, off, goes, burning⟩ := k on
  refine ⟨demand, cooling, fun h => ?_, fun b h stays => ?_, goes, fun h => ?_⟩
  · obtain ⟨lamp, account, raised⟩ := failed h
    exact ⟨lamp, account, keeps _ raised⟩
  · obtain ⟨lamp, account, raised⟩ := off b h stays
    exact ⟨lamp, account, fun held => keeps _ (raised held)⟩
  · obtain ⟨lamp, lampEn, ignite, fan, -, raised, ended⟩ := burning h
    refine ⟨lamp, lampEn, ignite, fan, ?_, keeps _ raised, ended⟩
    rw [lamp]
    simp [muteWanted, LampState.shining]

/-! ## The session record handed over (R143) -/

/-- The lamp controller takes base level, requested level and demand, in that order, before the switch sequencer. -/
theorem State.putSession_steps (s : State) (r : Session) :
    ∃ level, MuteOnly (((({ s with session := r }.setBase level false).setRequested r.requested).setDemand r.demand))
      (s.putSession r) :=
  ⟨_, (State.setBridgeMute_muteOnly _ _).noticeSession _ _⟩

theorem State.putSession_switchedOn (s : State) {r : Session} (on : r.demand = true) : SwitchedOn s (s.putSession r) := by
  obtain ⟨level, mute⟩ := s.putSession_steps r
  rw [on] at mute
  by_cases free : ∀ b, s.lamp.state = .off b → b = .none
  · have record : LevelsOnly s { s with session := r } :=
      ⟨⟨_, _, rfl⟩, rfl, (s.session_update_untouched r).mono (by decide)⟩
    have levels := (record.trans (State.setBase_levels (s := { s with session := r }) free level false)).trans
      (State.setRequested_levels _ r.requested)
    exact ((State.setDemand_on _).of_levels levels).then_mute mute
  · obtain ⟨b, held⟩ := not_forall.mp free
    obtain ⟨off, blocked⟩ := Classical.not_imp.mp held
    intro _
    refine ⟨(s.putSession_spec r).2.2.1.trans on, fun p cooling => ?_, fun rest => ?_⟩
    · rw [off] at cooling; cases cooling
    · rw [off] at rest; cases rest; exact (blocked rfl).elim

/-- R33, R143: a held strike that a new effective level has let go, or held on, is put out by the change of demand. -/
theorem SwitchedOff.of_held {s x t u : State} {b : Blocked} (rest : s.lamp.state = .off b) (blocked : b ≠ .none)
    (levels : LevelsOnly x t) (before : t.policy = x.policy) (k : SwitchedOff t u) (policy : u.policy = t.policy)
    (change : x.policy.effective ≠ s.policy.effective)
    (passes : s.lamp.temp ≠ .hot ∧ Permission s.account x.policy.effective →
      x.lamp.state = .striking .attempt ∧ x.lamp.demand = s.lamp.demand)
    (fails : ¬(s.lamp.temp ≠ .hot ∧ Permission s.account x.policy.effective) →
      x.account = s.account ∧ ∃ c hold effective, c ≠ .none
        ∧ x.lamp = { s.lamp with state := .off c, litHold := hold, effective := effective }) : SwitchedOff s u := by
  have account := levels.fields.1
  obtain ⟨⟨r, e, lamp⟩, -, -⟩ := levels
  have other : ∀ y, (∀ c, y ≠ .off c) → s.lamp.state ≠ y := fun y h same => h b (same ▸ rest)
  unfold SwitchedOff
  rw [policy, before]
  intro kept letGo on
  by_cases free : s.lamp.temp ≠ .hot ∧ Permission s.account x.policy.effective
  · obtain ⟨striking, demand⟩ := passes free
    have burning : t.lamp.state = .striking .attempt := by rw [lamp]; exact striking
    obtain ⟨off, -, -, -, -, burns⟩ := k (by rw [lamp]; exact demand.trans on)
    obtain ⟨out, lampEn, -⟩ := burns (.inl burning)
    refine ⟨off, fun p h => (other _ (by simp) h).elim, fun h => (other _ (by simp) h).elim, fun c h stays => ?_,
      fun _ _ _ _ => ⟨by rw [out], lampEn⟩, fun h => ?_⟩
    · cases rest.symm.trans h
      exact (stays.elim blocked fun stays => stays ⟨change, free⟩).elim
    · rcases h with h | h | h | h <;> exact (other _ (by simp) h).elim
  · obtain ⟨same, c, hold, effective, held, lampX⟩ := fails free
    have offC : t.lamp.state = .off c := by rw [lamp, lampX]
    obtain ⟨off, -, -, rests, -, -⟩ := k (by rw [lamp, lampX]; exact on)
    obtain ⟨out, kept, raised⟩ := rests c offC (.inr fun go => go.1 (congrArg Policy.effective policy))
    rw [lamp, lampX] at out
    refine ⟨off, fun p h => (other _ (by simp) h).elim, fun h => (other _ (by simp) h).elim,
      fun _ _ _ => ⟨out, kept.trans (account.trans same), fun _ => raised held⟩, fun _ _ _ go => (free go.2).elim, fun h => ?_⟩
    rcases h with h | h | h | h <;> exact (other _ (by simp) h).elim

theorem State.putSession_switchedOff (s : State) {r : Session} (off : r.demand = false) : SwitchedOff s (s.putSession r) := by
  obtain ⟨level, mute⟩ := s.putSession_steps r
  rw [off] at mute
  refine SwitchedOff.then_mute ?_ mute
  have record : LevelsOnly s { s with session := r } :=
    ⟨⟨_, _, rfl⟩, rfl, (s.session_update_untouched r).mono (by decide)⟩
  have requested := ({ s with session := r }.setBase level false).setRequested_levels r.requested
  have policy : ((({ s with session := r }.setBase level false).setRequested r.requested)).policy
      = ({ s with session := r }.setBase level false).policy := State.setRequested_untouched _ _ .policy (by decide)
  by_cases stays : (∀ b, s.lamp.state = .off b → b = .none)
      ∨ ({ s with session := r }.setBase level false).policy.effective = s.policy.effective
  · have levels : LevelsOnly { s with session := r } ({ s with session := r }.setBase level false) := by
      rcases stays with free | same
      · exact State.setBase_levels (s := { s with session := r }) free level false
      · rcases State.setBase_cases { s with session := r } level false with ⟨levels, -⟩ | ⟨change, -⟩
        · exact levels
        · exact (change same).elim
    refine (State.setDemand_off _).of_levels ((record.trans levels).trans requested) (State.setDemand_policy _ _)
      fun b rest held => ?_
    rw [policy]
    rcases stays with free | same
    · exact (held (free b rest)).elim
    · exact same
  · obtain ⟨free, change⟩ := not_or.mp stays
    obtain ⟨b, held⟩ := not_forall.mp free
    obtain ⟨rest, blocked⟩ := Classical.not_imp.mp held
    obtain ⟨passes, fails⟩ := State.setBase_held (s := { s with session := r }) rest blocked level false change
    exact SwitchedOff.of_held rest blocked requested policy (State.setDemand_off _) (State.setDemand_policy _ _) change passes fails

end Sys2Proof.Machine
end

section
/-! SESSION_START and SESSION_END (R151 to R153). -/

namespace Sys2Proof.Machine

open Sys2Proof.Config

/-! ## A change of demand, told from before the request was heard -/

theorem SwitchedOn.of_hearing {s u : State} {i : Instr} (k : SwitchedOn (s.hearing i) u) : SwitchedOn s u := by
  obtain ⟨lamp, account, settings, now, policy, pins⟩ := s.hearing_lampBlocks i
  unfold SwitchedOn at k ⊢
  rw [lamp, account, settings, now, pins] at k
  exact k

theorem SwitchedOff.of_hearing {s u : State} {i : Instr} (k : SwitchedOff (s.hearing i) u) : SwitchedOff s u := by
  obtain ⟨lamp, account, settings, now, policy, pins⟩ := s.hearing_lampBlocks i
  have store : (s.hearing i).store = s.store := s.hearing_untouched i .store (by decide)
  have up : (s.hearing i).startUpDone = s.startUpDone := s.hearing_untouched i .startUp (by decide)
  unfold SwitchedOff Queued at k ⊢
  rw [lamp, account, settings, now, policy, store, up] at k
  exact k

/-- What the session controller goes by is the same when a request is carried out. -/
theorem State.hearing_roomBlocks (s : State) (i : Instr) :
    (s.hearing i).session = s.session ∧ (s.hearing i).clock = s.clock ∧ (s.hearing i).finder = s.finder
      ∧ (s.hearing i).table = s.table := by
  have frame := s.hearing_untouched i
  exact ⟨frame .session (by decide), frame .clock (by decide), frame .finder (by decide), frame .table (by decide)⟩

theorem startSession_hearing (s : State) (i : Instr) : startSession (s.hearing i) = startSession s := by
  obtain ⟨session, clock, finder, -⟩ := s.hearing_roomBlocks i
  obtain ⟨-, account, settings, -, policy, -⟩ := s.hearing_lampBlocks i
  simp only [startSession, proposedEnd, session, clock, finder, settings, State.strikePermitted_congr account policy]
  rfl

theorem endSession_hearing (s : State) (i : Instr) : endSession (s.hearing i) = endSession s := by
  simp only [endSession, (s.hearing_roomBlocks i).1]

theorem State.baseLevel_hearing (s : State) (r : Session) (i : Instr) :
    ({ s.hearing i with session := r } : State).baseLevel = { s with session := r }.baseLevel := by
  simp only [State.baseLevel, (s.hearing_roomBlocks i).2.2.2, (s.hearing_lampBlocks i).2.2.1]

/-! ## Session requests (R150) -/

theorem answerSession_refused {s : State} {r : Session × Status} (refused : r.2 ≠ .ok) :
    answerSession s r = ⟨s, r.2, []⟩ := if_neg refused

theorem answerSession_same {s : State} {r : Session × Status} (ok : r.2 = .ok) (same : r.1 = s.session) :
    answerSession s r = ⟨s, .ok, s.roomBytes⟩ := by rw [answerSession, if_pos ok, if_pos same]

theorem answerSession_put {s : State} {r : Session × Status} (ok : r.2 = .ok) (new : r.1 ≠ s.session) :
    answerSession s r = ⟨s.putSession r.1, .ok, (s.putSession r.1).roomBytes⟩ := by
  rw [answerSession, if_pos ok, if_neg new]

theorem exec_sessionStart {l : Link} {s : State} (h : Admitted .sessionStart l s) :
    let a := answerSession (s.hearing (.sessionStart l)) (startSession s)
    exec (.sessionStart l) s = answered .sessionStart l a.state a.status a.payload := by
  rw [← startSession_hearing s (.sessionStart l)]
  exact exec_admitted (i := .sessionStart l) rfl h (Nat.zero_le _) rfl

theorem exec_sessionEnd {l : Link} {s : State} (h : Admitted .sessionEnd l s) :
    let a := answerSession (s.hearing (.sessionEnd l)) (endSession s)
    exec (.sessionEnd l) s = answered .sessionEnd l a.state a.status a.payload := by
  rw [← endSession_hearing s (.sessionEnd l)]
  exact exec_admitted (i := .sessionEnd l) rfl h (Nat.zero_le _) rfl

theorem Session.noticed_demand (r : Session) : r.noticed.demand = r.demand := by
  unfold Session.noticed; split <;> rfl

theorem Session.noticed_code (r : Session) : r.noticed.use.code = r.use.code := by
  unfold Session.noticed; split <;> simp_all [RoomUse.code]

/-- R143: a record of another kind, or with another demand, raises SESSION. -/
theorem Session.noticed_ne {r r' : Session} (h : r.use.code ≠ r'.use.code ∨ r.demand ≠ r'.demand) : r.noticed ≠ r'.noticed := by
  intro same
  rcases h with code | demand
  · exact code (by rw [← r.noticed_code, same, r'.noticed_code])
  · exact demand (by rw [← r.noticed_demand, same, r'.noticed_demand])

/-- R143: what a session request's new record leaves, told from before the request was heard. -/
theorem State.putSession_hearing (s : State) (i : Instr) {r : Session}
    (new : r.use.code ≠ s.session.use.code ∨ r.demand ≠ s.session.demand) :
    let u := (s.hearing i).putSession r
    u.session = r ∧ u.policy.base = { s with session := r }.baseLevel ∧ u.lamp.demand = r.demand
      ∧ u.lamp.requested = r.requested ∧ u.switch.bridgeMute = r.use.bridgeMute ∧ Pending .session u
      ∧ (r.demand = true → SwitchedOn s u) ∧ (r.demand = false → SwitchedOff s u)
      ∧ Untouched (.session :: .notice .session :: handOverBlocks) (s.hearing i) u := by
  obtain ⟨session, base, demand, requested, mute, raised, frame⟩ := (s.hearing i).putSession_spec r
  refine ⟨session, base.trans (s.baseLevel_hearing r i), demand, requested, mute, raised ?_,
    fun on => (State.putSession_switchedOn _ on).of_hearing, fun off => (State.putSession_switchedOff _ off).of_hearing, frame⟩
  rw [(s.hearing_roomBlocks i).1]
  exact Session.noticed_ne new

theorem Session.ne_of_new {r r' : Session} (new : r.use.code ≠ r'.use.code ∨ r.demand ≠ r'.demand) : r ≠ r' := by
  rintro rfl
  exact new.elim (· rfl) (· rfl)

/-- A session request that leaves a new record is answered with the room as the record leaves it. -/
theorem answerSession_hearing {s : State} {i : Instr} {r : Session}
    (new : r.use.code ≠ s.session.use.code ∨ r.demand ≠ s.session.demand) :
    let u := (s.hearing i).putSession r
    answerSession (s.hearing i) (r, .ok) = ⟨u, .ok, u.roomBytes⟩ :=
  answerSession_put rfl (by rw [(s.hearing_roomBlocks i).1]; exact Session.ne_of_new new)

/-! ## SESSION_START (R151, R152) -/

/-- R151: the end a walk-up is granted to. -/
theorem proposedEnd_eq (s : State) :
    proposedEnd s = match s.finder.next with
      | none => s.clock.minuteCount + s.settings.walkupLength
      | some x => min (s.clock.minuteCount + s.settings.walkupLength) (x.date.number * 1440 + x.start) := by
  unfold proposedEnd Finder.nextStart
  cases s.finder.next <;> rfl

/-- R10, R151: a walk-up is denied without strike permission. -/
theorem State.strikePermitted_denied (s : State) :
    (!s.strikePermitted) = true ↔ s.account.status = .expired ∧ s.policy.effective ≠ .service ∧ s.account.record.grace = 0 := by
  rw [Bool.not_eq_true', ← Bool.not_eq_true, State.strikePermitted_iff]
  simp only [Permission, not_or, not_not, Nat.not_lt, Nat.le_zero]

theorem startSession_none {s : State} (none : s.session.use = .none) :
    let stop := proposedEnd s
    startSession s = if stop < s.clock.minuteCount + 5 then (s.session, .refusedState)
      else if !s.strikePermitted then (s.session, .lampExpired)
      else ({ use := .walkup s.clock.minuteCount stop (decide (stop ≤ s.clock.minuteCount + 5)), demand := true
              requested := .normal }, .ok) := by
  simp only [startSession, none, warnWalkup]

theorem startSession_booked {s : State} {b : Booking} (booked : s.session.use = .booked b) :
    startSession s = ({ s.session with demand := true }, .ok) := by simp only [startSession, booked]

theorem startSession_walkup {s : State} {a b : Nat} {w : Bool} (walkup : s.session.use = .walkup a b w) :
    startSession s = (s.session, .ok) := by simp only [startSession, walkup]

theorem startSession_bridge {s : State} {a b : Nat} (bridge : s.session.use = .bridge a b) :
    startSession s = ({ s.session with
      use := .walkup s.clock.minuteCount b (decide (b ≤ s.clock.minuteCount + 5)), requested := .normal }, .ok) := by
  simp only [startSession, bridge, warnWalkup]

/-- Settles O31: the record SESSION_START leaves, by the kind of session, and its handing over. -/
theorem sessionStartGrantsOrResumes : Obligations.SessionStartGrantsOrResumes := by
  refine ⟨fun l s admitted => ?_, fun l s admitted => ?_⟩
  · have taken := exec_sessionStart admitted
    intro now stop denied
    have stopIs : stop = proposedEnd s := (proposedEnd_eq s).symm
    have deniedIs : (!s.strikePermitted) = true ↔ denied := s.strikePermitted_denied
    rw [stopIs, ← deniedIs]
    refine ⟨fun none late => ?_, fun none early refused => ?_, fun none early granted => ?_⟩
    · rw [startSession_none none, if_pos late, answerSession_refused (by simp)] at taken
      exact taken
    · rw [startSession_none none, if_neg (by omega), if_pos refused, answerSession_refused (by simp)] at taken
      exact taken
    · rw [startSession_none none, if_neg (by omega), if_neg granted, answerSession_hearing (.inl (by rw [none]; simp [RoomUse.code]))] at taken
      obtain ⟨session, base, demand, requested, mute, raised, on, -, frame⟩ :=
        s.putSession_hearing (.sessionStart l) (r := ⟨.walkup s.clock.minuteCount (proposedEnd s)
          (decide (proposedEnd s ≤ s.clock.minuteCount + 5)), true, .normal⟩) (.inl (by rw [none]; simp [RoomUse.code]))
      exact ⟨_, taken, session, base, demand, requested, mute, raised, on rfl, frame⟩
  · have taken := exec_sessionStart admitted
    have session := (s.hearing_roomBlocks (.sessionStart l)).1
    refine ⟨fun b booked demand => ?_, fun b booked demand => ?_, fun a b w walkup => ?_, fun a b bridge => ?_⟩
    · rw [startSession_booked booked, answerSession_same rfl (by rw [session, ← demand])] at taken
      exact taken
    · have new : ({ s.session with demand := true } : Session).demand ≠ s.session.demand := by simp [demand]
      rw [startSession_booked booked, answerSession_hearing (.inr new)] at taken
      obtain ⟨record, -, on, -, -, raised, switched, -, frame⟩ := s.putSession_hearing (.sessionStart l) (.inr new)
      exact ⟨_, taken, record, on, raised, switched rfl, frame⟩
    · rw [startSession_walkup walkup, answerSession_same rfl session.symm] at taken
      exact taken
    · have new : (RoomUse.walkup s.clock.minuteCount b (decide (b ≤ s.clock.minuteCount + 5))).code ≠ s.session.use.code := by
        rw [bridge]; simp [RoomUse.code]
      rw [startSession_bridge bridge, answerSession_hearing (.inl new)] at taken
      obtain ⟨record, base, -, requested, mute, raised, -, -, frame⟩ := s.putSession_hearing (.sessionStart l)
        (r := { s.session with use := .walkup s.clock.minuteCount b (decide (b ≤ s.clock.minuteCount + 5)), requested := .normal })
        (.inl new)
      exact ⟨_, taken, record, base, requested, mute, raised, frame⟩

/-! ## SESSION_END (R153) -/

theorem endSession_booked {s : State} {b : Booking} (booked : s.session.use = .booked b) :
    endSession s = ({ s.session with demand := false }, .ok) := by simp only [endSession, booked]

theorem endSession_ends {s : State}
    (ends : (∃ a b w, s.session.use = .walkup a b w) ∨ ∃ a b, s.session.use = .bridge a b) :
    endSession s = (idleSession, .ok) ∧ idleSession.use.code ≠ s.session.use.code := by
  rcases ends with ⟨a, b, w, walkup⟩ | ⟨a, b, bridge⟩
  · simp [endSession, walkup, idleSession, RoomUse.code]
  · simp [endSession, bridge, idleSession, RoomUse.code]

/-- Settles O32: the record SESSION_END leaves, by the kind of session, and its handing over. -/
theorem sessionEndTurnsDemandOff : Obligations.SessionEndTurnsDemandOff := by
  intro l s admitted
  have taken := exec_sessionEnd admitted
  have session := (s.hearing_roomBlocks (.sessionEnd l)).1
  refine ⟨fun none => ?_, fun b booked demand => ?_, fun b booked demand => ?_, fun ends => ?_⟩
  · have refused : endSession s = (s.session, .refusedState) := by simp only [endSession, none]
    rw [refused, answerSession_refused (by simp)] at taken
    exact taken
  · rw [endSession_booked booked, answerSession_same rfl (by rw [session, ← demand])] at taken
    exact taken
  · have new : ({ s.session with demand := false } : Session).demand ≠ s.session.demand := by simp [demand]
    rw [endSession_booked booked, answerSession_hearing (.inr new)] at taken
    obtain ⟨record, base, off, requested, mute, raised, -, switched, frame⟩ := s.putSession_hearing (.sessionEnd l) (.inr new)
    exact ⟨_, taken, record, off, requested, base, mute, raised, switched rfl, frame⟩
  · obtain ⟨idle, new⟩ := endSession_ends ends
    rw [idle, answerSession_hearing (.inl new)] at taken
    obtain ⟨record, base, off, requested, mute, raised, -, switched, frame⟩ := s.putSession_hearing (.sessionEnd l) (.inl new)
    exact ⟨_, taken, record, off, requested, base, mute, raised, switched rfl, frame⟩

end Sys2Proof.Machine
end

section
/-! LAMP_REPLACED and ACCOUNT_SET (R12 to R14, R33). -/

namespace Sys2Proof.Machine

open Sys2Proof.Config

/-! ## The account put in place -/

/-- R12, R13: the account that a service operation leaves while no attempt follows. -/
def State.serviced (s : State) (r : AccountRecord) (warm : Nat) : Account :=
  { s.account with
    record := r, warmCount := warm, checkpoint := 0
    status := statusOf (r.wear / 57600) s.settings.lifeLimit s.settings.warningMargin }

/-- R12, R13: what raises ACCOUNT and has a held strike checked again. -/
def ServiceChange (old new : Account) : Prop :=
  new.status ≠ old.status ∨ new.record.grace ≠ old.record.grace ∨ new.record.unverified ≠ old.record.unverified

/-- The account as a service operation rewrites it, status and notice with it. -/
def State.serviceRewritten (s : State) (r : AccountRecord) (warm : Nat) : State :=
  { s with account := { s.account with record := r, warmCount := warm, checkpoint := 0 } }.deriveStatus.raiseIf
    (s.account.record.grace != r.grace || s.account.record.unverified != r.unverified) .account

/-- The state a service operation hands to the lamp controller. -/
def State.servicePlaced (s : State) (r : AccountRecord) (warm : Nat) : State := (s.serviceRewritten r warm).queueKind .account

theorem State.serviceAccount_eq (s : State) (r : AccountRecord) (warm : Nat) :
    s.serviceAccount { s.account with record := r, warmCount := warm } = (s.servicePlaced r warm).handAccount s.account := rfl

theorem State.serviceRewritten_account (s : State) (r : AccountRecord) (warm : Nat) :
    (s.serviceRewritten r warm).account = s.serviced r warm := by
  rw [State.serviceRewritten, State.raiseIf_account, State.deriveStatus_account]
  rfl

theorem State.serviceRewritten_untouched (s : State) (r : AccountRecord) (warm : Nat) :
    Untouched [.account, .notice .account, .attention] s (s.serviceRewritten r warm) :=
  ((s.account_update_untouched _).andThen (State.deriveStatus_untouched _)
    (C := [.account, .notice .account, .attention]) rfl rfl).andThen (State.raiseIf_untouched _ _ _) rfl rfl

theorem State.servicePlaced_account (s : State) (r : AccountRecord) (warm : Nat) :
    (s.servicePlaced r warm).account = s.serviced r warm := by
  rw [State.servicePlaced, State.queueKind_account, State.serviceRewritten_account]

theorem State.servicePlaced_untouched (s : State) (r : AccountRecord) (warm : Nat) :
    Untouched [.store, .account, .notice .account, .attention] s (s.servicePlaced r warm) :=
  (s.serviceRewritten_untouched r warm).andThen (State.queueKind_untouched _ _) rfl rfl

/-- R178, R179: the record as rewritten is queued. -/
theorem State.servicePlaced_queued (s : State) (r : AccountRecord) (warm : Nat) :
    Queued .account (.account r) s (s.servicePlaced r warm) := by
  have frame := s.serviceRewritten_untouched r warm
  have queued := (s.serviceRewritten r warm).queueKind_queued .account
  rw [State.recordOf, State.serviceRewritten_account] at queued
  exact queued.congr (frame .store (by decide)).symm (frame .startUp (by decide)).symm (frame .time (by decide)).symm rfl

/-- R12, R13: a change of status, grace remaining or UNVERIFIED raises ACCOUNT. -/
theorem State.servicePlaced_raises (s : State) (r : AccountRecord) (warm : Nat)
    (change : ServiceChange s.account (s.serviced r warm)) : Pending .account (s.servicePlaced r warm) := by
  refine State.queueKind_keeps _ _ _ ?_
  rcases change with status | grace | unverified
  · refine Pending.raiseIf (State.deriveStatus_raises _ ?_) _ _
    exact status
  · exact Pending.of_raiseIf (by simp [State.serviced] at grace; simp [Ne.symm grace]) _
  · exact Pending.of_raiseIf (by simp [State.serviced] at unverified; simp [Ne.symm unverified]) _

/-! ## The lamp controller's part (R10, R33) -/

theorem State.handAccount_same {s : State} {old : Account} (same : ¬ServiceChange old s.account) : s.handAccount old = s := by
  simp only [ServiceChange, not_or, not_not] at same
  obtain ⟨status, grace, unverified⟩ := same
  exact if_pos ⟨status.symm, grace.symm, unverified.symm⟩

theorem State.handAccount_change {s : State} {old : Account} (change : ServiceChange old s.account) :
    s.handAccount old = (s.settleLamp s.lamp).recheckStrike := by
  refine if_neg fun ⟨status, grace, unverified⟩ => ?_
  rcases change with h | h | h
  · exact h status.symm
  · exact h grace.symm
  · exact h unverified.symm

/-- R33: with no strike to check, or one that HOT holds on, the account handed over changes the effective level alone. -/
theorem State.handAccount_resting {s : State} (old : Account)
    (rests : s.lamp.state = .off .none ∨ (s.lamp.state = .off .thermal ∧ s.lamp.temp = .hot) ∨ ∃ p, s.lamp.state = .cooling p) :
    (s.handAccount old).account = s.account ∧ Untouched ballastBlocks s (s.handAccount old) := by
  by_cases change : ServiceChange old s.account
  · have settled : (s.settleLamp s.lamp).recheckStrike = s.settleLamp s.lamp := by
      rcases rests with none | ⟨thermal, hot⟩ | ⟨p, cooling⟩
      · exact State.recheckStrike_idle _ (by simp [none])
      · have temp : (s.settleLamp s.lamp).lamp.temp = .hot := by simp [hot]
        obtain ⟨fails, cause⟩ := State.gateFails_hot temp
        rw [State.recheckStrike_blocked (c := .thermal) (by simp [thermal]) (by decide) fails cause, if_pos rfl]
      · exact State.recheckStrike_idle _ (by simp [cooling])
    rw [State.handAccount_change change, settled]
    exact ⟨State.settleLamp_account _ _, State.settleLamp_untouched _ _⟩
  · rw [State.handAccount_same change]
    exact ⟨rfl, .refl _ _⟩

/-- R33: a held strike at HOT is held as THERMAL. -/
theorem State.handAccount_hot {s : State} {old : Account} (change : ServiceChange old s.account) {c : Blocked}
    (off : s.lamp.state = .off c) (held : c ≠ .none) (hot : s.lamp.temp = .hot) :
    (s.handAccount old).account = s.account ∧ (s.handAccount old).lamp.state = .off .thermal := by
  rw [State.handAccount_change change]
  have temp : (s.settleLamp s.lamp).lamp.temp = .hot := by simp [hot]
  have state : (s.settleLamp s.lamp).lamp.state = .off c := by simp [off]
  obtain ⟨fails, cause⟩ := State.gateFails_hot temp
  refine ⟨?_, State.recheckStrike_blocked_state state held fails cause⟩
  rw [State.recheckStrike_blocked state held fails cause]
  split
  · exact State.settleLamp_account _ _
  · rw [State.holdStrike_account, State.settleLamp_account]

/-- R33: a held strike with the gate open makes its first attempt. -/
theorem State.handAccount_strikes {s : State} {old : Account} (change : ServiceChange old s.account) {c : Blocked}
    (off : s.lamp.state = .off c) (held : c ≠ .none) (cool : s.lamp.temp ≠ .hot) (permitted : s.strikePermitted = true) :
    let u := s.handAccount old
    u.lamp.state = .striking .attempt ∧ u.lamp.attempts = 1 ∧ u.lamp.timerStart = s.now
      ∧ u.lamp.timerLength = s.settings.strikeWindow * 1000000 ∧ u.pins.ignite = true ∧ u.pins.lampEn = true
      ∧ Pending .lamp u
      ∧ u.account.record = { s.account.record with
          wear := min 3774873599 (s.account.record.wear + s.settings.strikeCost * 960
            * if s.account.warmCount < s.settings.warmWindow then 2 else 1) }
      ∧ u.account.attempt = some (decide (s.account.warmCount < s.settings.warmWindow)) ∧ u.account.currentBurn = 0 := by
  have state : (s.settleLamp s.lamp).lamp.state = .off c := by simp [off]
  have gate : (s.settleLamp s.lamp).strikePermitted = true := by
    rw [State.strikePermitted_congr (State.settleLamp_account _ _) (State.settleLamp_policy _ _)]
    exact permitted
  rw [State.handAccount_change change,
    State.recheckStrike_permitted state held (by rw [State.settleLamp_lamp]; exact cool) gate]
  obtain ⟨lampEn, ignite, -⟩ := (s.settleLamp s.lamp).startAttempt_pins true
  have charged := (s.settleLamp s.lamp).startAttempt_charged true
  rw [State.settleLamp_account, State.settleLamp_settings] at charged
  refine ⟨?_, ?_, ?_, ?_, ignite, lampEn, State.startAttempt_raises _ (by rw [state]; simp), ?_, ?_, ?_⟩
  · rw [State.startAttempt_lamp]
  · rw [State.startAttempt_lamp]; rfl
  · rw [State.startAttempt_lamp, State.settleLamp_now]
  · rw [State.startAttempt_lamp, State.settleLamp_settings]; rfl
  · exact congrArg (·.record) charged
  · exact congrArg (·.attempt) charged
  · exact congrArg (·.currentBurn) charged

/-! ## The service operations -/

/-- R12 to R14, R33: what a service operation carried out on `h` leaves, told from `s`. -/
def ServiceLeaves (s h u : State) (r : AccountRecord) (warm : Nat) : Prop :=
  let a := s.serviced r warm
  let resting := s.lamp.state = .off .none ∨ (s.lamp.state = .off .thermal ∧ s.lamp.temp = .hot)
    ∨ ∃ p, s.lamp.state = .cooling p
  (ServiceChange s.account a → Pending .account u) ∧ Queued .account (.account r) s u ∧ Untouched burnBlocks h u
    ∧ (resting → u.account = a ∧ Untouched (.store :: .account :: .notice .account :: ballastBlocks) h u)
    ∧ ∀ c, s.lamp.state = .off c → c ≠ .none →
      (¬ServiceChange s.account a → u.account = a ∧ u.lamp = s.lamp)
      ∧ (ServiceChange s.account a → s.lamp.temp = .hot → u.account = a ∧ u.lamp.state = .off .thermal)
      ∧ (ServiceChange s.account a → s.lamp.temp ≠ .hot →
          u.lamp.state = .striking .attempt ∧ u.lamp.attempts = 1 ∧ u.lamp.timerStart = s.now
            ∧ u.lamp.timerLength = s.settings.strikeWindow * 1000000 ∧ u.pins.ignite = true ∧ u.pins.lampEn = true
            ∧ Pending .lamp u
            ∧ u.account.record = { r with
                wear := min 3774873599 (r.wear + s.settings.strikeCost * 960 * if warm < s.settings.warmWindow then 2 else 1) }
            ∧ u.account.attempt = some (decide (warm < s.settings.warmWindow)) ∧ u.account.currentBurn = 0)

/-- At SERVICE, where the service operations are permitted, strike permission holds (R10). -/
theorem State.serviceAccount_leaves {s : State} (service : s.policy.effective = .service) (r : AccountRecord) (warm : Nat) :
    ServiceLeaves s s (s.serviceAccount { s.account with record := r, warmCount := warm }) r warm := by
  rw [State.serviceAccount_eq]
  have frame := s.servicePlaced_untouched r warm
  have account := s.servicePlaced_account r warm
  have lamp : (s.servicePlaced r warm).lamp = s.lamp := frame .lamp (by decide)
  have settings : (s.servicePlaced r warm).settings = s.settings := frame .settings (by decide)
  have now : (s.servicePlaced r warm).now = s.now := frame .time (by decide)
  have policy : (s.servicePlaced r warm).policy = s.policy := frame .policy (by decide)
  have hand := (s.servicePlaced r warm).handAccount_untouched s.account
  refine ⟨fun change => State.handAccount_keeps _ _ _ (s.servicePlaced_raises r warm change),
    (s.servicePlaced_queued r warm).congr rfl rfl rfl (hand .store (by decide)), frame.andThen hand rfl rfl,
    fun rests => ?_, fun c off held => ?_⟩
  · rw [← lamp] at rests
    obtain ⟨same, quiet⟩ := State.handAccount_resting s.account rests
    exact ⟨same.trans account, frame.andThen quiet rfl rfl⟩
  · rw [← lamp] at off
    rw [← account, ← lamp, ← settings, ← now]
    refine ⟨fun same => ?_, fun change hot => State.handAccount_hot change off held hot, fun change cool => ?_⟩
    · rw [State.handAccount_same same]
      exact ⟨rfl, rfl⟩
    · have permitted : (s.servicePlaced r warm).strikePermitted = true := by
        rw [State.strikePermitted_iff, policy, service]
        exact .inr (.inl rfl)
      have strikes := State.handAccount_strikes change off held cool permitted
      rw [account] at strikes
      exact strikes

theorem ServiceLeaves.of_hearing {s u : State} {i : Instr} {r : AccountRecord} {warm : Nat}
    (k : ServiceLeaves (s.hearing i) (s.hearing i) u r warm) : ServiceLeaves s (s.hearing i) u r warm := by
  obtain ⟨lamp, account, settings, now, policy, pins⟩ := s.hearing_lampBlocks i
  have store : (s.hearing i).store = s.store := s.hearing_untouched i .store (by decide)
  have up : (s.hearing i).startUpDone = s.startUpDone := s.hearing_untouched i .startUp (by decide)
  unfold ServiceLeaves Queued State.serviced at k ⊢
  rw [lamp, account, settings, now, store, up] at k
  exact k

/-- R111, R113: the service operations are permitted at SERVICE alone. -/
theorem Admitted.service {c : Command} {l : Link} {s : State} (h : Admitted c l s) (only : c.judgement = .serviceOnly) :
    s.policy.effective = .service := by
  have permits := h.2.2
  rw [only] at permits
  exact eq_of_beq permits

theorem LampState.serviceable_iff (x : LampState) : x.serviceable = true ↔ ∃ b p, x = .off b ∨ x = .cooling p := by
  constructor
  · intro serviceable
    cases x with
    | off b => exact ⟨b, false, .inl rfl⟩
    | cooling p => exact ⟨.none, p, .inr rfl⟩
    | _ => cases serviceable
  · rintro ⟨b, p, rfl | rfl⟩ <;> rfl

theorem LampState.serviceable_eq_false {x : LampState} (h : ∀ b p, x ≠ .off b ∧ x ≠ .cooling p) : x.serviceable = false := by
  rw [← Bool.not_eq_true, LampState.serviceable_iff]
  rintro ⟨b, p, off | cooling⟩
  · exact (h b p).1 off
  · exact (h b p).2 cooling

theorem exec_lampReplaced {l : Link} {s : State} (h : Admitted .lampReplaced l s) :
    let a := ownLampReplaced (s.hearing (.lampReplaced l))
    exec (.lampReplaced l) s = answered .lampReplaced l a.state a.status a.payload :=
  exec_admitted (i := .lampReplaced l) rfl h (Nat.zero_le _) rfl

/-- 11, ENCODINGS: the bytes of a 16-bit field give the field back. -/
theorem wordBytes_joined (w : BitVec 16) : w.extractLsb' 8 8 ++ w.extractLsb' 0 8 = w :=
  (BitVec.extractLsb'_append_extractLsb'_eq_extractLsb' (start₂ := 8) (start₁ := 0) rfl).trans BitVec.extractLsb'_eq_self

theorem exec_accountSet {l : Link} {hours : BitVec 16} {s : State} (h : Admitted .accountSet l s) :
    let a := ownAccountSet hours (s.hearing (.accountSet l hours))
    exec (.accountSet l hours) s = answered .accountSet l a.state a.status a.payload := by
  have fields : ownerOf .accountSet l (payloadOf (.accountSet l hours)) = some (ownAccountSet hours) :=
    congrArg (fun w => some (ownAccountSet w)) (wordBytes_joined hours)
  exact exec_admitted (i := .accountSet l hours) rfl h (Nat.le_of_ble_eq_true rfl) fields

/-- Settles O34: the refusals, and the rewritten account handed to the lamp controller at SERVICE. -/
theorem serviceOperationsRewriteTheAccount : Obligations.ServiceOperationsRewriteTheAccount := by
  intro l hours s limits refusedStates serviceableStates resting leaves
  refine ⟨fun admitted refused => ?_, fun admitted refused => ?_, fun admitted serviceable => ?_, fun admitted serviceable => ?_⟩
  · have lamp := (s.hearing_lampBlocks (.lampReplaced l)).1
    have taken := exec_lampReplaced admitted
    simp only [ownLampReplaced, lamp, LampState.serviceable_eq_false refused] at taken
    exact taken
  · have lamp := (s.hearing_lampBlocks (.accountSet l hours)).1
    have taken := exec_accountSet (hours := hours) admitted
    simp only [ownAccountSet, lamp, LampState.serviceable_eq_false refused] at taken
    exact taken
  · obtain ⟨lamp, account, settings, now, policy, pins⟩ := s.hearing_lampBlocks (.lampReplaced l)
    have taken := exec_lampReplaced admitted
    have service : (s.hearing (.lampReplaced l)).policy.effective = .service := by
      rw [policy]; exact admitted.service rfl
    rw [ownLampReplaced, lamp, if_pos ((LampState.serviceable_iff _).mpr serviceable), settings] at taken
    exact ⟨_, taken, (State.serviceAccount_leaves service { grace := s.settings.graceSetting } 1800).of_hearing⟩
  · obtain ⟨lamp, account, settings, now, policy, pins⟩ := s.hearing_lampBlocks (.accountSet l hours)
    have taken := exec_accountSet (hours := hours) admitted
    have service : (s.hearing (.accountSet l hours)).policy.effective = .service := by
      rw [policy]; exact admitted.service rfl
    rw [ownAccountSet, lamp, if_pos ((LampState.serviceable_iff _).mpr serviceable)] at taken
    have rewritten := (State.serviceAccount_leaves service
      { (s.hearing (.accountSet l hours)).account.record with wear := hours.toNat * 57600, unverified := false }
      (s.hearing (.accountSet l hours)).account.warmCount).of_hearing
    rw [account] at taken rewritten
    exact ⟨_, taken, rewritten⟩

end Sys2Proof.Machine
end

section
/-! SETTING_WRITE (R181): the value stored and queued, and what its owner does at once. -/

namespace Sys2Proof.Machine

open Sys2Proof.Config

/-! ## What the owner of a setting does at once -/

/-- What the owners of the settings can touch. -/
def settingBlocks : List Block := .scanner :: .notice .plates :: .links :: .geometry :: .notice .geometry :: policyBlocks

/-- R181: the settings that their owners act on at once. -/
def SettingId.actedOn : SettingId → Bool
  | .lifeLimit | .warningMargin | .missLimit | .panelWidth | .panelHeight | .tiltGain | .tiltAveraging | .idleLevel
  | .walkupLevel | .rate _ | .mask _ => true
  | _ => false

/-- R181: a setting that its owner reads at its next use changes nothing else. -/
theorem State.settingWritten_later (s : State) {i : SettingId} (later : i.actedOn = false) : s.settingWritten i = s := by
  cases i <;> first | rfl | cases later

theorem State.limitWritten_untouched (s : State) : Untouched strikeBlocks s s.limitWritten :=
  s.deriveStatus_untouched.andThen (State.handAccount_untouched _ _) rfl rfl

theorem State.tiltSettingWritten_untouched (s : State) :
    Untouched [.geometry, .notice .geometry, .attention] s s.tiltSettingWritten := by
  unfold State.tiltSettingWritten
  split
  · exact .refl _ _
  · exact State.putGeometry_untouched _ _

theorem State.rateWritten_untouched (s : State) (l : Link) : Untouched [.links, .attention] s (s.rateWritten l) := by
  refine State.setLink_untouched_of ?_
  split
  · rfl
  · exact LinkState.applyRate_notices _ _

theorem State.settleLine_untouched (s : State) (l : Link) : Untouched [.links, .attention] s (s.settleLine l) :=
  State.setLink_untouched_of (by rfl)

theorem State.settingWritten_untouched (s : State) (i : SettingId) : Untouched settingBlocks s (s.settingWritten i) := by
  cases i with
  | lifeLimit => exact s.limitWritten_untouched.mono rfl
  | warningMargin => exact s.limitWritten_untouched.mono rfl
  | missLimit => exact s.missLimitWritten_untouched.mono rfl
  | panelWidth => exact (s.putGeometry_untouched _).mono rfl
  | panelHeight => exact (s.putGeometry_untouched _).mono rfl
  | tiltGain => exact s.tiltSettingWritten_untouched.mono rfl
  | tiltAveraging => exact s.tiltSettingWritten_untouched.mono rfl
  | idleLevel => exact (s.setBase_untouched _ _).mono rfl
  | walkupLevel => exact (s.setBase_untouched _ _).mono rfl
  | rate l => exact (s.rateWritten_untouched l).mono rfl
  | mask l => exact (s.settleLine_untouched l).mono rfl
  | _ => exact .refl _ _

/-- R55: the plate records, and the notice of their change, whatever the setting. -/
theorem State.settingWritten_plates (s : State) (i : SettingId) :
    ((s.settingWritten i).scanner.plates ≠ s.scanner.plates → Pending .plates (s.settingWritten i)) := by
  by_cases miss : i = .missLimit
  · subst miss
    intro changed
    refine Pending.of_raiseIf ?_ _
    simpa [State.settingWritten, State.missLimitWritten] using changed
  · have scanner : (s.settingWritten i).scanner = s.scanner := by
      cases i with
      | lifeLimit => exact s.limitWritten_untouched .scanner (by decide)
      | warningMargin => exact s.limitWritten_untouched .scanner (by decide)
      | missLimit => exact (miss rfl).elim
      | panelWidth => exact State.putGeometry_scanner _ _
      | panelHeight => exact State.putGeometry_scanner _ _
      | tiltGain => exact s.tiltSettingWritten_untouched .scanner (by decide)
      | tiltAveraging => exact s.tiltSettingWritten_untouched .scanner (by decide)
      | idleLevel => exact s.setBase_untouched _ _ .scanner (by decide)
      | walkupLevel => exact s.setBase_untouched _ _ .scanner (by decide)
      | rate l => exact State.setLink_scanner _ _ _
      | mask l => exact State.settleLine_scanner _ _
      | _ => rfl
    intro changed
    exact (changed (congrArg Scanner.plates scanner)).elim

theorem State.missLimitWritten_plates (s : State) :
    s.missLimitWritten.scanner.plates = s.scanner.plates.map fun p =>
      if p.state = .present ∧ s.settings.missLimit ≤ p.missStreak then { p with state := .lost } else p := by
  simp only [State.missLimitWritten, State.raiseIf_scanner]
  rfl

/-- R2, R10: the two limits, without a held strike. -/
theorem State.limitWritten_account {s : State} (free : ∀ c, s.lamp.state = .off c → c = .none) :
    s.limitWritten.account = { s.account with
      status := statusOf (s.account.record.wear / 57600) s.settings.lifeLimit s.settings.warningMargin } := by
  have hand := State.handAccount_untouched_free (s := s.deriveStatus) s.account (by simpa using free)
  exact (hand .account (by decide)).trans s.deriveStatus_account

theorem State.putGeometry_geometry (s : State) (g : Geometry) :
    (s.putGeometry g).geometry = g.derive s.settings.panelWidth s.settings.panelHeight := by
  simp [State.putGeometry]

/-- R106: the base level of the session in force. -/
theorem State.levelWritten_base (s : State) : s.levelWritten.policy.base = s.baseLevel := by
  rw [State.levelWritten, State.setBase_policy]

theorem State.baseLevel_cases (s : State) :
    match s.session.use with
    | .none => s.baseLevel = s.settings.idleLevel
    | .booked b => if b.running then
          ∀ e terms, entryOf s.table b.id = some e → e.terms = some terms → s.baseLevel = terms.level
        else s.baseLevel = s.settings.idleLevel
    | .walkup _ _ _ => s.baseLevel = s.settings.walkupLevel
    | .bridge _ _ => s.baseLevel = s.settings.idleLevel := by
  unfold State.baseLevel
  cases s.session.use with
  | booked b =>
    dsimp only
    split
    · intro e terms entry fields
      simp [entryLevel, entry, fields]
    · rfl
  | _ => rfl

/-- R161: a rate written to a link that can take it now. -/
theorem State.rateWritten_now {s : State} {l : Link} (other : l ≠ .campus) (idle : (s.link l).answering ≠ .sending) :
    ((s.rateWritten l).link l).rate = s.settings.rateOf l ∧ ((s.rateWritten l).link l).frames = []
      ∧ ((s.rateWritten l).link l).collecting = none ∧ ((s.rateWritten l).link l).rateDue = false := by
  simp [State.rateWritten, other, LinkState.applyRate, idle]

/-- R161: a rate that waits for the end of a response. -/
theorem State.rateWritten_waits {s : State} {l : Link} (waits : l = .campus ∨ (s.link l).answering = .sending) :
    ((s.rateWritten l).link l).rate = (s.link l).rate ∧ ((s.rateWritten l).link l).rateDue = true := by
  rcases waits with rfl | sending
  · simp [State.rateWritten]
  · by_cases campus : l = .campus <;> simp [State.rateWritten, campus, LinkState.applyRate, sending]

/-! ## SETTING_WRITE -/

/-- 11, ENCODINGS: the bytes of a 32-bit field give the field back. -/
theorem longBytes_joined (w : BitVec 32) :
    w.extractLsb' 24 8 ++ w.extractLsb' 16 8 ++ w.extractLsb' 8 8 ++ w.extractLsb' 0 8 = w := by
  have upper : w.extractLsb' 24 8 ++ w.extractLsb' 16 8 = w.extractLsb' 16 16 :=
    BitVec.extractLsb'_append_extractLsb'_eq_extractLsb' rfl
  have three : w.extractLsb' 16 16 ++ w.extractLsb' 8 8 = w.extractLsb' 8 24 :=
    BitVec.extractLsb'_append_extractLsb'_eq_extractLsb' rfl
  rw [upper, three]
  exact (BitVec.extractLsb'_append_extractLsb'_eq_extractLsb' (start₂ := 8) (start₁ := 0) rfl).trans
    BitVec.extractLsb'_eq_self

theorem exec_settingWrite {l : Link} {id : Byte} {value : BitVec 32} {s : State} (h : Admitted .settingWrite l s) :
    let a := ownSettingWrite id value (s.hearing (.settingWrite l id value))
    exec (.settingWrite l id value) s = answered .settingWrite l a.state a.status a.payload := by
  have fields : ownerOf .settingWrite l (payloadOf (.settingWrite l id value)) = some (ownSettingWrite id value) :=
    congrArg (fun w => some (ownSettingWrite id w)) (longBytes_joined value)
  exact exec_admitted (i := .settingWrite l id value) rfl h (Nat.le_of_ble_eq_true rfl) fields

/-- The state with a setting's new value, not yet handed to its owner. -/
def State.settingPut (s : State) (i : SettingId) (n : Nat) : State := { s with settings := s.settings.put i n }

/-- R181: the state that SETTING_WRITE leaves. -/
def State.settingTaken (s : State) (i : SettingId) (n : Nat) : State :=
  ((s.settingPut i n).settingWritten i).queueKind .settings

theorem State.settingTaken_settings (s : State) (i : SettingId) (n : Nat) :
    (s.settingTaken i n).settings = s.settings.put i n := by
  rw [State.settingTaken, State.queueKind_settings]
  exact State.settingWritten_untouched _ i .settings (by decide)

/-- R178, R179: the settings as stored are queued. -/
theorem State.settingTaken_queued (s : State) (i : SettingId) (n : Nat) :
    Queued .settings (.settings (s.settingTaken i n).settings.values) s (s.settingTaken i n) := by
  have frame := (s.settingPut i n).settingWritten_untouched i
  have queued := ((s.settingPut i n).settingWritten i).queueKind_queued .settings
  have content : ((s.settingPut i n).settingWritten i).recordOf .settings = .settings (s.settingTaken i n).settings.values := by
    rw [State.settingTaken, State.queueKind_settings]
    rfl
  rw [content] at queued
  exact queued.congr (frame .store (by decide)).symm (frame .startUp (by decide)).symm (frame .time (by decide)).symm rfl

/-- Hearing a request leaves what the attention line and the rate of each link go by. -/
theorem State.hearing_link (s : State) (i : Instr) (k : Link) :
    ((s.hearing i).link k).answering = (s.link k).answering ∧ ((s.hearing i).link k).notices = (s.link k).notices
      ∧ ((s.hearing i).link k).rate = (s.link k).rate := by
  unfold State.hearing
  split
  · rename_i l c row
    cases l <;> cases k <;> exact ⟨rfl, rfl, rfl⟩
  · exact ⟨rfl, rfl, rfl⟩

theorem State.settingTaken_plates (s : State) (i : SettingId) (n : Nat)
    (changed : (s.settingTaken i n).scanner.plates ≠ s.scanner.plates) : Pending .plates (s.settingTaken i n) := by
  refine State.queueKind_keeps _ _ _ ((s.settingPut i n).settingWritten_plates i ?_)
  rw [State.settingTaken, State.queueKind_scanner] at changed
  exact changed

theorem State.settingTaken_later {s : State} {i : SettingId} (later : i.actedOn = false) (n : Nat) :
    Untouched [.settings, .store] s (s.settingTaken i n) := by
  rw [State.settingTaken, State.settingWritten_later _ later]
  exact (s.settings_update_untouched _).andThen (State.queueKind_untouched _ _) rfl rfl

/-- The owner's action shows in the state that SETTING_WRITE leaves: queueing touches the store alone. -/
theorem State.settingTaken_after (s : State) (i : SettingId) (n : Nat) :
    Untouched [.store] ((s.settingPut i n).settingWritten i) (s.settingTaken i n) := State.queueKind_untouched _ _

theorem State.settingTaken_link (s : State) (i : SettingId) (n : Nat) (k : Link) :
    (s.settingTaken i n).link k = ((s.settingPut i n).settingWritten i).link k := by
  cases k <;> simp [State.settingTaken, State.link]

theorem SettingId.actedOn_eq_false {i : SettingId}
    (plain : i ∉ [SettingId.lifeLimit, .warningMargin, .missLimit, .panelWidth, .panelHeight, .tiltGain, .tiltAveraging,
      .idleLevel, .walkupLevel]) (line : ∀ k, i ≠ .rate k ∧ i ≠ .mask k) : i.actedOn = false := by
  rw [← Bool.not_eq_true]
  intro acted
  cases i with
  | rate k => exact (line k).1 rfl
  | mask k => exact (line k).2 rfl
  | _ => simp [SettingId.actedOn] at acted plain

section
variable (s : State) (i : SettingId) (n : Nat)

/-- What the owner goes by, told by the state it leaves. -/
theorem State.settingPut_settings : (s.settingPut i n).settings = (s.settingTaken i n).settings :=
  (s.settingTaken_settings i n).symm

theorem State.settingTaken_missLimit (miss : i = .missLimit) :
    (s.settingTaken i n).scanner.plates = s.scanner.plates.map fun p =>
      if p.state = .present ∧ (s.settingTaken i n).settings.missLimit ≤ p.missStreak then { p with state := .lost } else p := by
  rw [← s.settingPut_settings]
  subst miss
  exact (congrArg Scanner.plates (s.settingTaken_after .missLimit n .scanner (by decide))).trans
    (s.settingPut .missLimit n).missLimitWritten_plates

theorem State.settingTaken_limit (limit : i = .lifeLimit ∨ i = .warningMargin) (free : ∀ c, s.lamp.state = .off c → c = .none) :
    (s.settingTaken i n).account = { s.account with
      status := statusOf (s.account.record.wear / 57600) (s.settingTaken i n).settings.lifeLimit
        (s.settingTaken i n).settings.warningMargin } := by
  have after := s.settingTaken_after i n .account (by decide)
  have written : (s.settingPut i n).settingWritten i = (s.settingPut i n).limitWritten := by
    rcases limit with rfl | rfl <;> rfl
  rw [← s.settingPut_settings]
  rw [written] at after
  exact after.trans (State.limitWritten_account (s := s.settingPut i n) free)

theorem State.settingTaken_panel (panel : i = .panelWidth ∨ i = .panelHeight) :
    (s.settingTaken i n).geometry.corners = cornersOf (s.settingTaken i n).geometry.vEff s.geometry.active.h
      (s.settingTaken i n).settings.panelWidth (s.settingTaken i n).settings.panelHeight := by
  have after := s.settingTaken_after i n .geometry (by decide)
  have written : (s.settingPut i n).settingWritten i = (s.settingPut i n).putGeometry s.geometry := by
    rcases panel with rfl | rfl <;> rfl
  rw [written] at after
  rw [← s.settingPut_settings, after.trans (State.putGeometry_geometry _ _)]
  rfl

theorem State.settingTaken_base (level : i = .idleLevel ∨ i = .walkupLevel) :
    (s.settingTaken i n).policy.base = (s.settingPut i n).baseLevel := by
  have after := s.settingTaken_after i n .policy (by decide)
  have written : (s.settingPut i n).settingWritten i = (s.settingPut i n).levelWritten := by
    rcases level with rfl | rfl <;> rfl
  rw [written] at after
  exact (congrArg Policy.base after).trans (State.levelWritten_base _)

theorem State.settingTaken_tilt (tilt : i = .tiltGain ∨ i = .tiltAveraging) :
    (s.geometry.tiltStale = true → (s.settingTaken i n).geometry = s.geometry)
      ∧ (s.geometry.tiltStale = false →
          let g := (s.settingTaken i n).geometry
          g.average = tiltAverage s.geometry.ring (s.settingTaken i n).settings.tiltAveraging
            ∧ g.vAuto = vAutoOf g.average (s.settingTaken i n).settings.tiltGain ∧ g.vEff = vEffOf s.geometry.active g.vAuto) := by
  have after := s.settingTaken_after i n .geometry (by decide)
  have written : (s.settingPut i n).settingWritten i = (s.settingPut i n).tiltSettingWritten := by
    rcases tilt with rfl | rfl <;> rfl
  rw [written] at after
  rw [← s.settingPut_settings]
  refine ⟨fun stale => ?_, fun fresh => ?_⟩
  · have same : (s.settingPut i n).tiltSettingWritten = s.settingPut i n := if_pos stale
    rw [same] at after
    exact after
  · have derived : (s.settingPut i n).tiltSettingWritten = (s.settingPut i n).putGeometry
        (s.geometry.deriveTilt (s.settingPut i n).settings.tiltAveraging (s.settingPut i n).settings.tiltGain) :=
      if_neg (Bool.not_eq_true _ ▸ fresh)
    rw [derived] at after
    rw [after.trans (State.putGeometry_geometry _ _)]
    exact ⟨rfl, rfl, rfl⟩

/-- R171: a mask written has its link's attention line follow it. -/
theorem State.settingTaken_mask {k : Link} (mask : i = .mask k) (up : (s.link k).answering ≠ .held) :
    ((s.settingTaken i n).link k).attention = ((s.link k).notices &&& (s.settingTaken i n).settings.maskOf k != 0) := by
  rw [s.settingTaken_link, ← s.settingPut_settings]
  subst mask
  have line : (((s.settingPut (.mask k) n).settleLine k).link k).attention
      = attentionLow (s.link k).answering (s.link k).notices ((s.settingPut (.mask k) n).settings.maskOf k) := by
    cases k <;> rfl
  exact line.trans (by simp [attentionLow, up])

theorem State.settingTaken_rate {k : Link} (rate : i = .rate k) :
    (k ≠ .campus → (s.link k).answering ≠ .sending →
        ((s.settingTaken i n).link k).rate = (s.settingTaken i n).settings.rateOf k
          ∧ ((s.settingTaken i n).link k).frames = [] ∧ ((s.settingTaken i n).link k).collecting = none
          ∧ ((s.settingTaken i n).link k).rateDue = false)
      ∧ (k = .campus ∨ (s.link k).answering = .sending →
          ((s.settingTaken i n).link k).rate = (s.link k).rate ∧ ((s.settingTaken i n).link k).rateDue = true) := by
  rw [s.settingTaken_link, ← s.settingPut_settings]
  subst rate
  have same : (s.settingPut (.rate k) n).link k = s.link k := by cases k <;> rfl
  refine ⟨fun other idle => State.rateWritten_now other (by rw [same]; exact idle), fun waits => ?_⟩
  rw [← same] at waits ⊢
  exact State.rateWritten_waits waits

end

/-- Settles O47: an unknown identifier, and each clause by what the setting's owner does. -/
theorem settingWriteStoresAndQueues : Obligations.SettingWriteStoresAndQueues := by
  intro l id value s admitted
  have taken := exec_settingWrite (id := id) (value := value) admitted
  obtain ⟨lamp, account, settings, now, policy, pins⟩ := s.hearing_lampBlocks (.settingWrite l id value)
  obtain ⟨session, clock, finder, table⟩ := s.hearing_roomBlocks (.settingWrite l id value)
  have scanner : (s.hearing (.settingWrite l id value)).scanner = s.scanner := s.hearing_untouched _ .scanner (by decide)
  have geometry : (s.hearing (.settingWrite l id value)).geometry = s.geometry := s.hearing_untouched _ .geometry (by decide)
  refine ⟨fun unknown => ?_, fun i code => ?_⟩
  · simp only [ownSettingWrite, settingOfCode_eq_none.mpr unknown] at taken
    exact taken
  · subst code
    have links := s.hearing_link (.settingWrite l i.code value)
    have queued : Queued .settings _ s _ :=
      ((s.hearing (.settingWrite l i.code value)).settingTaken_queued i value.toNat).of_hearing
    simp only [ownSettingWrite, settingOfCode_code] at taken
    generalize s.hearing (.settingWrite l i.code value) = h at *
    refine ⟨h.settingTaken i value.toNat, taken, ?_, queued, fun plain line => ?_, fun miss => ?_, fun changed => ?_,
      fun limit free => ?_, fun panel => ?_, fun level => ?_, fun tilt => ?_, fun k mask up => ?_, fun k rate other idle => ?_,
      fun k rate waits => ?_⟩
    · rw [← settings]; exact h.settingTaken_settings i value.toNat
    · exact State.settingTaken_later (SettingId.actedOn_eq_false plain line) _
    · rw [← scanner]; exact h.settingTaken_missLimit i value.toNat miss
    · rw [← scanner] at changed; exact h.settingTaken_plates i value.toNat changed
    · rw [← account]
      exact h.settingTaken_limit i value.toNat limit (by rw [lamp]; exact free)
    · rw [← geometry]; exact h.settingTaken_panel i value.toNat panel
    · rw [h.settingTaken_base i value.toNat level]
      have cases := (h.settingPut i value.toNat).baseLevel_cases
      have use : (h.settingPut i value.toNat).session = s.session := session
      have entries : (h.settingPut i value.toNat).table = s.table := table
      generalize (h.settingPut i value.toNat).baseLevel = base at cases ⊢
      rw [h.settingPut_settings, use, entries] at cases
      exact cases
    · rw [← geometry]; exact h.settingTaken_tilt i value.toNat tilt
    · obtain ⟨answering, notices, -⟩ := links k
      rw [← notices]; exact h.settingTaken_mask i value.toNat mask (by rw [answering]; exact up)
    · exact (h.settingTaken_rate i value.toNat rate).1 other (by rw [(links k).1]; exact idle)
    · rw [← (links k).2.2]
      exact (h.settingTaken_rate i value.toNat rate).2 (by rw [(links k).1]; exact waits)

end Sys2Proof.Machine
end

section
/-! Start-up's loading of the records (R184, step 1) and its check of the clock backup, said as one record. -/

namespace Sys2Proof.Machine

open Sys2Proof.Config

/-! ## What each slot gives -/

def loadedSettings (x : PerKind StoreSlot) : Option Settings :=
  match x.settings.good with
  | some (.settings values) => some (settingsOf values)
  | _ => none

def loadedAccount (x : PerKind StoreSlot) : Option AccountRecord :=
  match x.account.good with
  | some (.account r) => some (clampRecord r)
  | _ => none

def loadedTable (x : PerKind StoreSlot) : Option (List Entry) :=
  match x.schedule.good with
  | some (.schedule t) => tableOfStored t
  | _ => none

def loadedPresets (x : PerKind StoreSlot) : Option (List Preset) :=
  match x.presets.good with
  | some (.presets p) => some (takePresets p)
  | _ => none

/-- R17, R184: the settings that start-up leaves. -/
def settingsTaken (x : PerKind StoreSlot) : Settings := (loadedSettings x).getD {}

/-- R17, R18, R184: the account record that start-up leaves. -/
def recordTaken (x : PerKind StoreSlot) : AccountRecord := (loadedAccount x).getD (blankRecord (settingsTaken x).graceSetting)

/-! ## Notices and marks as fields -/

/-- A link with a notice added when a condition holds. -/
def LinkState.noteIf (x : LinkState) (c : Bool) (n : Notice) (mask : NoticeSet) : LinkState := if c then x.note n mask else x

/-- R169: the flag of a notice that is raised when a condition holds. -/
def flagIf (c : Bool) (n : Notice) : NoticeSet := if c then n.flag else 0

theorem LinkState.noteIf_notices (x : LinkState) (c : Bool) (n : Notice) (mask : NoticeSet) :
    (x.noteIf c n mask).notices = x.notices ||| flagIf c n := by
  cases c
  · exact (BitVec.or_zero).symm
  · rfl

theorem flagIf_or (a b : Bool) (n : Notice) : flagIf a n ||| flagIf b n = flagIf (a || b) n := by
  cases a
  · exact BitVec.zero_or
  · cases b
    · exact BitVec.or_zero
    · exact BitVec.or_self

/-- A notice raised when a condition holds, field by field. -/
def State.notedIf (s : State) (c : Bool) (n : Notice) : State :=
  { s with
    engine := s.engine.noteIf c n s.settings.engineMask
    lectern := s.lectern.noteIf c n s.settings.lecternMask
    campus := s.campus.noteIf c n s.settings.campusMask }

theorem State.raiseIf_eq (s : State) (c : Bool) (n : Notice) : s.raiseIf c n = s.notedIf c n := by cases c <;> rfl

theorem State.link_notedIf (s : State) (c : Bool) (n : Notice) (l : Link) :
    (s.notedIf c n).link l = (s.link l).noteIf c n (s.settings.maskOf l) := by cases l <;> rfl

/-- R184: the found bad mark of a kind set when a condition holds, and STORE raised with it. -/
def State.markedIf (s : State) (c : Bool) (k : Kind) : State :=
  { s with store := { s.store with foundBad := if c then s.store.foundBad.set k true else s.store.foundBad } }.notedIf c .store

theorem State.markedIf_eq (s : State) (c : Bool) (k : Kind) : s.markedIf c k = if c then s.foundBad k else s := by
  cases c <;> rfl

theorem State.link_markedIf (s : State) (c : Bool) (k : Kind) (l : Link) :
    (s.markedIf c k).link l = (s.link l).noteIf c .store (s.settings.maskOf l) := by cases l <;> rfl

/-! ## Step 1 -/

theorem State.loadSettings_eq (s : State) :
    s.loadSettings =
      { s with settings := settingsTaken s.store.slots }.markedIf (loadedSettings s.store.slots).isNone .settings := by
  rw [State.markedIf_eq]
  unfold State.loadSettings settingsTaken loadedSettings
  generalize s.store.slots.settings.good = good
  rcases good with _ | _ | _ | _ | _ <;> rfl

theorem State.loadAccountRecord_eq (s : State) (settings : s.settings = settingsTaken s.store.slots) :
    s.loadAccountRecord =
      ((s.loadAccount (recordTaken s.store.slots)).markedIf (loadedAccount s.store.slots).isNone .account).notedIf
        (loadedAccount s.store.slots).isNone .account := by
  rw [State.markedIf_eq, ← State.raiseIf_eq]
  unfold State.loadAccountRecord recordTaken loadedAccount
  rw [← settings]
  generalize s.store.slots.account.good = good
  rcases good with _ | _ | _ | _ | _ <;> rfl

theorem State.loadSchedule_eq (s : State) :
    s.loadSchedule =
      { s with table := (loadedTable s.store.slots).getD [] }.markedIf (loadedTable s.store.slots).isNone .schedule := by
  rw [State.markedIf_eq]
  unfold State.loadSchedule loadedTable
  generalize s.store.slots.schedule.good = good
  rcases good with _ | _ | _ | fields | _
  case some.schedule => cases taken : tableOfStored fields <;> simp only [taken] <;> rfl
  all_goals rfl

theorem State.loadPresets_eq (s : State) :
    s.loadPresets =
      { s with geometry := { s.geometry with
          presets := (loadedPresets s.store.slots).getD (List.replicate 13 {}) } }.markedIf
        (loadedPresets s.store.slots).isNone .presets := by
  rw [State.markedIf_eq]
  unfold State.loadPresets loadedPresets
  generalize s.store.slots.presets.good = good
  rcases good with _ | _ | _ | _ | _ <;> rfl

/-- R61, R161, R184: the state with the settings loaded and taken. -/
def State.configured (s : State) : State :=
  ({ s with settings := settingsTaken s.store.slots }.markedIf (loadedSettings s.store.slots).isNone
    .settings).enableReceivers.takeSettings

/-- R17, R18: the account loaded after it. -/
def State.accounted (s : State) : State :=
  ((s.configured.loadAccount (recordTaken s.store.slots)).markedIf (loadedAccount s.store.slots).isNone .account).notedIf
    (loadedAccount s.store.slots).isNone .account

/-- R138: the schedule loaded after it. -/
def State.tabled (s : State) : State :=
  { s.accounted with table := (loadedTable s.store.slots).getD [] }.markedIf (loadedTable s.store.slots).isNone .schedule

/-- R89: the presets loaded after it. -/
def State.preset (s : State) : State :=
  { s.tabled with geometry := { s.tabled.geometry with
      presets := (loadedPresets s.store.slots).getD (List.replicate 13 {}) } }.markedIf
    (loadedPresets s.store.slots).isNone .presets

theorem State.loadRecords_eq (s : State) : s.loadRecords = s.preset.deriveLoaded := by
  have account : s.configured.loadAccountRecord = s.accounted := s.configured.loadAccountRecord_eq rfl
  have table : s.accounted.loadSchedule = s.tabled := s.accounted.loadSchedule_eq
  have presets : s.tabled.loadPresets = s.preset := s.tabled.loadPresets_eq
  rw [State.loadRecords, State.loadSettings_eq]
  change s.configured.loadAccountRecord.loadSchedule.loadPresets.deriveLoaded = _
  rw [account, table, presets]

/-- R126: the clock backup checked. -/
def State.checked (s : State) : State :=
  { s with clock := if s.clock.backupLost then { secondStart := s.now, backupLost := false } else s.clock }.notedIf
    s.clock.backupLost .clock

theorem State.checkBackup_eq (s : State) : s.checkBackup = s.checked := by
  unfold State.checkBackup State.checked
  cases s.clock.backupLost <;> rfl

/-- The state that the session is evaluated in. -/
def State.backed (s : State) : State := s.preset.deriveLoaded.checked

theorem State.backed_eq (s : State) : s.loadRecords.checkBackup = s.backed := by
  rw [State.loadRecords_eq, State.checkBackup_eq]
  rfl

/-! ## What each step touches -/

theorem State.notedIf_untouched (s : State) (c : Bool) (n : Notice) : Untouched [.notice n, .attention] s (s.notedIf c n) := by
  rw [← State.raiseIf_eq]
  exact s.raiseIf_untouched c n

theorem State.markedIf_untouched (s : State) (c : Bool) (k : Kind) :
    Untouched [.store, .notice .store, .attention] s (s.markedIf c k) :=
  (s.store_update_untouched _).andThen (State.notedIf_untouched _ _ _) rfl rfl

theorem State.accounted_untouched (s : State) :
    Untouched [.account, .store, .notice .store, .notice .account, .attention] s.configured s.accounted :=
  ((s.configured.account_update_untouched _).andThen (State.markedIf_untouched _ _ _)
    (C := [.account, .store, .notice .store, .attention]) rfl rfl).andThen (State.notedIf_untouched _ _ _) rfl rfl

theorem State.tabled_untouched (s : State) :
    Untouched [.table, .store, .notice .store, .attention] s.accounted s.tabled :=
  (s.accounted.table_update_untouched _).andThen (State.markedIf_untouched _ _ _) rfl rfl

theorem State.preset_untouched (s : State) :
    Untouched [.geometry, .store, .notice .store, .attention] s.tabled s.preset :=
  (s.tabled.geometry_update_untouched _).andThen (State.markedIf_untouched _ _ _) rfl rfl

/-- What loading can touch before the derived figures follow. -/
theorem State.preset_frame (s : State) :
    Untouched [.account, .table, .geometry, .store, .notice .store, .notice .account, .attention] s.configured s.preset :=
  (s.accounted_untouched.andThen s.tabled_untouched
    (C := [.account, .table, .geometry, .store, .notice .store, .notice .account, .attention]) rfl rfl).andThen
    s.preset_untouched rfl rfl

theorem State.deriveLoaded_untouched (s : State) : Untouched [.geometry, .lamp, .pins] s s.deriveLoaded :=
  ((s.geometry_update_untouched _).andThen (State.lamp_update_untouched _ _) (C := [.geometry, .lamp]) rfl rfl).andThen
    (State.pins_update_untouched _ _) rfl rfl

theorem State.checked_untouched (s : State) : Untouched [.clock, .notice .clock, .attention] s s.checked :=
  (s.clock_update_untouched _).andThen (State.notedIf_untouched _ _ _) rfl rfl

/-- What loading can touch once the settings are taken. -/
def loadBlocks : List Block :=
  [.account, .table, .geometry, .clock, .lamp, .pins, .store, .notice .store, .notice .account, .notice .clock, .attention]

theorem State.backed_untouched (s : State) : Untouched loadBlocks s.configured s.backed :=
  (s.preset_frame.andThen s.preset.deriveLoaded_untouched (C := loadBlocks) rfl rfl).andThen
    s.preset.deriveLoaded.checked_untouched rfl rfl

/-! ## What the loaded state holds -/

/-- R184: the found bad marks of start-up. -/
def marksOf (x : PerKind StoreSlot) : PerKind Bool :=
  ⟨(loadedAccount x).isNone, (loadedSettings x).isNone, (loadedTable x).isNone, (loadedPresets x).isNone⟩

/-- The store with a kind's found bad mark set when a condition holds. -/
def Store.markIf (x : Store) (c : Bool) (k : Kind) : Store :=
  { x with foundBad := if c then x.foundBad.set k true else x.foundBad }

theorem State.backed_store {s : State} (clear : s.store.foundBad = ⟨false, false, false, false⟩) :
    s.backed.store = { s.store with foundBad := marksOf s.store.slots } := by
  have configured : s.configured.store = s.store.markIf (loadedSettings s.store.slots).isNone .settings := rfl
  have accounted : s.accounted.store = s.configured.store.markIf (loadedAccount s.store.slots).isNone .account := rfl
  have tabled : s.tabled.store = s.accounted.store.markIf (loadedTable s.store.slots).isNone .schedule := rfl
  have preset : s.preset.store = s.tabled.store.markIf (loadedPresets s.store.slots).isNone .presets := rfl
  have backed : s.backed.store = s.preset.store :=
    (s.preset.deriveLoaded.checked_untouched .store (by decide)).trans (s.preset.deriveLoaded_untouched .store (by decide))
  rw [backed, preset, tabled, accounted, configured]
  generalize s.store = x at clear ⊢
  obtain ⟨slots, faulted, foundBad, queue, write⟩ := x
  subst clear
  simp only [marksOf, Store.markIf]
  cases (loadedSettings slots).isNone <;> cases (loadedAccount slots).isNone <;> cases (loadedTable slots).isNone <;>
    cases (loadedPresets slots).isNone <;> rfl

section
variable (s : State) (l : Link)

theorem State.configured_link :
    (s.configured.link l).notices = (s.link l).notices ||| flagIf (loadedSettings s.store.slots).isNone .store
      ∧ (s.configured.link l).quiet = { s.link l with rate := (settingsTaken s.store.slots).rateOf l }.quiet := by
  have link : s.configured.link l = { (s.link l).noteIf (loadedSettings s.store.slots).isNone .store
      ((settingsTaken s.store.slots).maskOf l) with rate := (settingsTaken s.store.slots).rateOf l } := by cases l <;> rfl
  rw [link]
  refine ⟨LinkState.noteIf_notices _ _ _ _, ?_⟩
  cases (loadedSettings s.store.slots).isNone <;> rfl

theorem State.notedIf_notices (c : Bool) (n : Notice) : ((s.notedIf c n).link l).notices = (s.link l).notices ||| flagIf c n := by
  rw [State.link_notedIf, LinkState.noteIf_notices]

theorem State.markedIf_notices (c : Bool) (k : Kind) :
    ((s.markedIf c k).link l).notices = (s.link l).notices ||| flagIf c .store := by
  rw [State.link_markedIf, LinkState.noteIf_notices]

/-- R169, R184: the notices that loading and the backup check add. -/
theorem State.backed_notices :
    (s.backed.link l).notices = (s.link l).notices
      ||| flagIf ((loadedSettings s.store.slots).isNone || (loadedAccount s.store.slots).isNone
          || (loadedTable s.store.slots).isNone || (loadedPresets s.store.slots).isNone) .store
      ||| flagIf (loadedAccount s.store.slots).isNone .account ||| flagIf s.clock.backupLost .clock := by
  have accounted : (s.accounted.link l).notices = (s.configured.link l).notices
      ||| flagIf (loadedAccount s.store.slots).isNone .store ||| flagIf (loadedAccount s.store.slots).isNone .account := by
    rw [State.accounted, State.notedIf_notices, State.markedIf_notices]
    cases l <;> rfl
  have tabled : (s.tabled.link l).notices = (s.accounted.link l).notices ||| flagIf (loadedTable s.store.slots).isNone .store := by
    rw [State.tabled, State.markedIf_notices]
    cases l <;> rfl
  have preset : (s.preset.link l).notices = (s.tabled.link l).notices ||| flagIf (loadedPresets s.store.slots).isNone .store := by
    rw [State.preset, State.markedIf_notices]
    cases l <;> rfl
  have clock : s.preset.deriveLoaded.clock = s.clock := by
    rw [s.preset.deriveLoaded_untouched .clock (by decide), s.preset_frame .clock (by decide)]
    rfl
  have backed : (s.backed.link l).notices = (s.preset.link l).notices ||| flagIf s.clock.backupLost .clock := by
    rw [State.backed, State.checked, State.notedIf_notices, clock]
    cases l <;> rfl
  rw [backed, preset, tabled, accounted, (s.configured_link l).1]
  simp only [← flagIf_or]
  ac_rfl

theorem State.backed_quiet :
    (s.backed.link l).quiet = { s.link l with rate := (settingsTaken s.store.slots).rateOf l }.quiet :=
  (s.backed_untouched .links (by decide) l).trans (s.configured_link l).2

end

theorem State.backed_account (s : State) :
    s.backed.account =
      { record := recordTaken s.store.slots, warmCount := s.account.warmCount
        status := statusOf (hoursOf (recordTaken s.store.slots).wear) (settingsTaken s.store.slots).lifeLimit
          (settingsTaken s.store.slots).warningMargin } := by
  rw [State.backed, s.preset.deriveLoaded.checked_untouched .account (by decide),
    s.preset.deriveLoaded_untouched .account (by decide), s.preset_untouched .account (by decide),
    s.tabled_untouched .account (by decide)]
  rfl

theorem State.backed_table (s : State) : s.backed.table = (loadedTable s.store.slots).getD [] := by
  rw [State.backed, s.preset.deriveLoaded.checked_untouched .table (by decide),
    s.preset.deriveLoaded_untouched .table (by decide), s.preset_untouched .table (by decide)]
  rfl

theorem State.backed_presets (s : State) :
    s.backed.geometry.presets = (loadedPresets s.store.slots).getD (List.replicate 13 {}) := by
  rw [State.backed, s.preset.deriveLoaded.checked_untouched .geometry (by decide)]
  rfl

theorem State.backed_clock (s : State) :
    s.backed.clock = if s.clock.backupLost then { secondStart := s.now, backupLost := false } else s.clock := by
  have now : s.preset.deriveLoaded.now = s.now := s.preset_frame .time (by decide)
  have clock : s.preset.deriveLoaded.clock = s.clock := by
    rw [s.preset.deriveLoaded_untouched .clock (by decide), s.preset_frame .clock (by decide)]
    rfl
  show (if s.preset.deriveLoaded.clock.backupLost then _ else s.preset.deriveLoaded.clock) = _
  rw [clock, now]

theorem State.backed_lamp (s : State) :
    s.backed.lamp = { s.lamp with
      timerLength := (settingsTaken s.store.slots).cooldown * second
      effective := effectiveLevel s.lamp.requested s.lamp.temp s.backed.account.status } := by
  have account : s.backed.account = s.preset.account :=
    (s.preset.deriveLoaded.checked_untouched .account (by decide)).trans (s.preset.deriveLoaded_untouched .account (by decide))
  have lamp : s.preset.lamp = s.configured.lamp := s.preset_frame .lamp (by decide)
  have derived : s.backed.lamp = { s.preset.lamp with
      effective := effectiveLevel s.preset.lamp.requested s.preset.lamp.temp s.preset.account.status } :=
    s.preset.deriveLoaded.checked_untouched .lamp (by decide)
  rw [derived, account, lamp]
  rfl

theorem State.backed_mute (s : State) : s.backed.pins.mute = s.pins.mute := by
  have pins : s.preset.pins = s.configured.pins := s.preset_frame .pins (by decide)
  have derived : s.backed.pins = s.preset.deriveLoaded.pins := s.preset.deriveLoaded.checked_untouched .pins (by decide)
  have kept : s.preset.deriveLoaded.pins.mute = s.preset.pins.mute := rfl
  rw [derived, kept, pins]
  rfl

end Sys2Proof.Machine
end

section
/-! The first evaluation of the session (R138, R142, R160): with the lamp cooling after a reset and no plate heard, it raises
nothing and reaches no plate. -/

namespace Sys2Proof.Machine

open Sys2Proof.Config

/-! ## A state in which nothing can be raised -/

/-- R42, R87: the lamp cools with the temperature state UNKNOWN, the picture is dark and muted. -/
def Dormant (s : State) : Prop :=
  s.lamp.state = .cooling s.lamp.demand ∧ s.lamp.temp = .unknown ∧ s.lamp.effective = .eco ∧ s.pins.mute = true
    ∧ s.switch.state = .dark

/-- What the first evaluation of the session can touch. -/
def hushBlocks : List Block := [.session, .finder, .lamp, .policy, .switch, .pins]

/-- No notice is raised and no line moves: the links are the same, pending sets and lines included. -/
def Hushed (s t : State) : Prop := (∀ l, t.link l = s.link l) ∧ Untouched hushBlocks s t

theorem Hushed.refl (s : State) : Hushed s s := ⟨fun _ => rfl, .refl _ _⟩

theorem Hushed.trans {s t u : State} (h : Hushed s t) (k : Hushed t u) : Hushed s u :=
  ⟨fun l => (k.1 l).trans (h.1 l), h.2.trans k.2⟩

/-- An update of fields of the blocks named. -/
theorem Hushed.of_fields {A : List Block} {s t : State} (frame : Untouched A s t) (sub : within A hushBlocks = true)
    (engine : t.engine = s.engine) (lectern : t.lectern = s.lectern) (campus : t.campus = s.campus) : Hushed s t :=
  ⟨fun l => by cases l <;> assumption, frame.mono sub⟩

/-- R37: with the temperature state UNKNOWN the effective level is ECO. -/
theorem effectiveLevel_unknown (requested : LampLevel) (status : WearStatus) : effectiveLevel requested .unknown status = .eco := by
  cases requested <;> cases status <;> rfl

/-- R65: with the picture dark MUTE is asserted. -/
theorem muteWanted_dark {w : Switch} (dark : w.state = .dark) (lamp : LampState) : muteWanted w lamp = true := by
  rw [muteWanted, dark]; rfl

theorem State.settleMute_dormant {s : State} (mute : s.pins.mute = true) (dark : s.switch.state = .dark) : s.settleMute = s :=
  s.settleMute_eq (by rw [mute, muteWanted_dark dark])

/-- R40: settling a dormant lamp is a matter of its outputs alone. -/
theorem State.settleLamp_dormant {s : State} (d : Dormant s) {old : Lamp} (state : old.state.noticed = .cooling false)
    (temp : old.temp = .unknown) (effective : old.effective = .eco) : s.settleLamp old = s.driveBallast := by
  obtain ⟨cooling, unknown, eco, mute, dark⟩ := d
  have figure : effectiveLevel s.lamp.requested s.lamp.temp s.account.status = s.lamp.effective := by
    rw [unknown, effectiveLevel_unknown, eco]
  have level : s.deriveLevel = s := by rw [State.deriveLevel, figure]
  have quiet : lampNoticed old s.lamp = false := by
    rw [lampNoticed, state, temp, effective, cooling, unknown, eco]
    rfl
  have same : s.driveBallast.lamp = s.lamp := rfl
  rw [State.settleLamp, level, same, quiet, State.raiseIf_false]
  exact State.settleMute_dormant mute dark

theorem State.driveBallast_hushed (s : State) : Hushed s s.driveBallast :=
  .of_fields (s.pins_update_untouched _) (by rfl) rfl rfl rfl

theorem Dormant.noticed {s : State} (d : Dormant s) : s.lamp.state.noticed = .cooling false := by rw [d.1]; rfl

/-! ## Handing over to a dormant lamp -/

theorem State.setBase_eq {s : State} (d : Dormant s) (level : Level) :
    s.setBase level true = { s with policy := { s.policy with
      base := level, effective := ({ s.policy with base := level } : Policy).derived } } := by
  unfold State.setBase State.deriveEffective
  split
  · rename_i same
    rw [same]
  · refine (State.recheckStrike_idle _ fun b off => ?_).trans rfl
    rw [Bool.not_true, State.raiseIf_false, d.1] at off
    cases off

theorem State.setRequested_dormant {s : State} (d : Dormant s) (level : LampLevel) :
    Hushed s (s.setRequested level) ∧ Dormant (s.setRequested level)
      ∧ (s.setRequested level).lamp = { s.lamp with requested := level } ∧ (s.setRequested level).switch = s.switch
      ∧ (s.setRequested level).session = s.session := by
  unfold State.setRequested
  split
  · rename_i same
    exact ⟨.refl _, d, by rw [← same], rfl, rfl⟩
  · have dormant : Dormant { s with lamp := { s.lamp with requested := level } } := d
    rw [State.settleLamp_dormant dormant d.noticed d.2.1 d.2.2.1]
    have update : Hushed s { s with lamp := { s.lamp with requested := level } } :=
      .of_fields (s.lamp_update_untouched _) (by rfl) rfl rfl rfl
    exact ⟨update.trans (State.driveBallast_hushed _), d, rfl, rfl, rfl⟩

theorem State.setDemand_dormant {s : State} (d : Dormant s) (on : Bool) :
    Hushed s (s.setDemand on) ∧ Dormant (s.setDemand on)
      ∧ (s.setDemand on).lamp = { s.lamp with demand := on, state := .cooling on } ∧ (s.setDemand on).switch = s.switch
      ∧ (s.setDemand on).session = s.session := by
  by_cases same : s.lamp.demand = on
  · rw [State.setDemand_same same]
    exact ⟨.refl _, d, by rw [← same, ← d.1], rfl, rfl⟩
  · have dormant : Dormant { s with lamp := { s.lamp with demand := on, state := .cooling on } } :=
      ⟨rfl, d.2.1, d.2.2.1, d.2.2.2.1, d.2.2.2.2⟩
    have update : Hushed s { s with lamp := { s.lamp with demand := on, state := .cooling on } } :=
      .of_fields (s.lamp_update_untouched _) (by rfl) rfl rfl rfl
    rw [State.setDemand_cooling same d.1,
      State.settleLamp_dormant dormant (old := { s.lamp with demand := on }) d.noticed d.2.1 d.2.2.1]
    exact ⟨update.trans (State.driveBallast_hushed _), dormant, rfl, rfl, rfl⟩

/-- R143: what the handing over of a record leaves of a dormant state. -/
theorem State.handOver_dormant {s : State} (d : Dormant s) :
    Hushed s (s.handOver true)
      ∧ (s.handOver true).lamp = { s.lamp with
          requested := s.session.requested, demand := s.session.demand, state := .cooling s.session.demand }
      ∧ (s.handOver true).switch = { s.switch with bridgeMute := s.session.use.bridgeMute }
      ∧ (s.handOver true).session = s.session := by
  obtain ⟨t, ht⟩ : ∃ t, t = s.setBase s.baseLevel true := ⟨_, rfl⟩
  have based := State.setBase_eq d s.baseLevel
  rw [← ht] at based
  have dormant : Dormant t := by rw [based]; exact d
  have hushed : Hushed s t := by rw [based]; exact .of_fields (s.policy_update_untouched _) (by rfl) rfl rfl rfl
  obtain ⟨hushed', dormant', lamp', switch', session'⟩ := State.setRequested_dormant dormant s.session.requested
  obtain ⟨hushed'', dormant'', lamp'', switch'', session''⟩ := State.setDemand_dormant dormant' s.session.demand
  obtain ⟨u, hu⟩ : ∃ u, u = (t.setRequested s.session.requested).setDemand s.session.demand := ⟨_, rfl⟩
  rw [← hu] at hushed'' dormant'' lamp'' switch'' session''
  have muted : s.handOver true = { u with switch := { u.switch with bridgeMute := s.session.use.bridgeMute } } := by
    rw [State.handOver, ← ht, ← hu]
    exact State.settleMute_dormant dormant''.2.2.2.1 dormant''.2.2.2.2
  rw [muted]
  refine ⟨((hushed.trans hushed').trans hushed'').trans (.of_fields (u.switch_update_untouched _) (by rfl) rfl rfl rfl),
    ?_, ?_, ?_⟩
  · rw [lamp'', lamp', based]
  · dsimp only
    rw [switch'', switch', based]
  · dsimp only
    rw [session'', session', based]

/-! ## The source of a booked start, with no plate heard (R146) -/

/-- R57: no plate can be routed to. -/
def NonePresent (s : State) : Prop := ∀ n, n ≠ 0 → n ≤ 12 → s.available n = false

theorem State.requestSwitch_absent {s : State} (none : NonePresent s) {plate : Nat} (named : plate ≠ 0) (c : Requester) :
    (s.requestSwitch plate c).1 = s := by
  unfold State.requestSwitch
  split
  · rfl
  · rw [none plate named (by omega)]
    rfl

/-- R146: a source of a booking that cannot be had is owed. -/
theorem State.serveSource_started {s : State} (none : NonePresent s) {b : Booking} (booked : s.session.use = .booked b)
    (target : s.switch.target = 0) :
    s.serveSource true = { s with session := { s.session with use := .booked { b with
      owed := if entrySource s.table b.id = 0 then b.owed else some 0 } } } := by
  simp only [State.serveSource, booked, if_true]
  by_cases unnamed : entrySource s.table b.id = 0
  · rw [if_pos unnamed, if_pos unnamed]
    have same : s.session = { s.session with use := .booked { b with owed := b.owed } } := by rw [← booked]
    rw [← same]
  · rw [if_neg unnamed, if_neg unnamed, State.issueSource, State.requestSwitch_absent none unnamed, target,
      if_neg (Ne.symm unnamed)]
    simp only [State.setOwed, booked]

theorem State.serveSource_unstarted {s : State} (idle : ∀ b, s.session.use = .booked b → b.running = false) :
    s.serveSource false = s := by
  unfold State.serveSource
  split
  · rename_i b booked
    simp [idle b booked]
  · rfl

/-! ## The first record (R138, R142, R160) -/

/-- R146: a record just started with its source, if it names one, owed from plate 0. -/
def Session.owingUnheard (table : List Entry) (r : Session) : Session :=
  match r.use with
  | .booked b => { r with use := .booked { b with owed := if entrySource table b.id = 0 then b.owed else some 0 } }
  | _ => r

theorem NonePresent.congr {s t : State} (h : NonePresent s) (scanner : t.scanner = s.scanner) : NonePresent t := by
  intro n named small
  have same : t.available n = s.available n := by simp only [State.available, State.plate, scanner]
  rw [same]
  exact h n named small

/-- R138, R160: what the first evaluation leaves, by the record it gives. -/
theorem State.runner_first {s : State} (d : Dormant s) (absent : NonePresent s) (target : s.switch.target = 0) {r : Session}
    {started : Bool} (run : runRecord s { quiet := true } = (r, started))
    (serves : if started then ∃ b, r.use = .booked b else ∀ b, r.use = .booked b → b.running = false) :
    let t := s.runner { quiet := true }
    Hushed s t ∧ t.session = (if started then r.owingUnheard s.table else r)
      ∧ t.lamp = { s.lamp with requested := r.requested, demand := r.demand, state := .cooling r.demand }
      ∧ t.switch = { s.switch with bridgeMute := r.use.bridgeMute }
      ∧ t.policy = { s.policy with
          base := { s with session := r }.baseLevel
          effective := ({ s.policy with base := { s with session := r }.baseLevel } : Policy).derived } := by
  intro t
  obtain ⟨v, hv⟩ : ∃ v, v = { s with session := r }.handOver true := ⟨_, rfl⟩
  have runner : t = v.serveSource started := by
    rw [hv]
    show (_ : State).serveSource (runRecord s { quiet := true }).2 = _
    rw [run]
  obtain ⟨handed, lamp, switch, session⟩ := State.handOver_dormant (s := { s with session := r }) d
  have policy := State.handOver_policy { s with session := r } true
  rw [State.setBase_policy, ← hv] at policy
  rw [← hv] at handed lamp switch session
  have hushed : Hushed s v :=
    Hushed.trans (.of_fields (s.session_update_untouched r) (by rfl) rfl rfl rfl) handed
  have table : v.table = s.table := hushed.2 .table (by decide)
  rw [runner]
  cases started with
  | false =>
    rw [State.serveSource_unstarted (by rw [session]; exact serves)]
    exact ⟨hushed, session, lamp, switch, policy⟩
  | true =>
    obtain ⟨b, booked⟩ := serves
    have absentNow : NonePresent v := absent.congr (hushed.2 .scanner (by decide))
    have bookedNow : v.session.use = .booked b := by rw [session]; exact booked
    rw [State.serveSource_started absentNow bookedNow (by rw [switch]; exact target)]
    refine ⟨hushed.trans (.of_fields (v.session_update_untouched _) (by rfl) rfl rfl rfl), ?_, lamp, switch, policy⟩
    dsimp only
    rw [session, table, if_pos rfl, Session.owingUnheard, booked]

theorem runRecord_current {s : State} (fresh : s.session = {}) {c : Occurrence} (current : s.finder.current = some c) :
    runRecord s { quiet := true } =
      ({ use := .booked (bookingOf s.table c true), demand := true, requested := entryLamp s.table c.id }, true) := by
  simp only [runRecord, fresh, current]
  rfl

theorem runRecord_later {s : State} (fresh : s.session = {}) (none : s.finder.current = none) :
    runRecord s { quiet := true } = (prewarm s.settings s.table s.finder {}, false) := by
  have same : ∀ r : Session, r = prewarm s.settings s.table s.finder {} → warnWalkup s.clock.minuteCount r.use = r.use := by
    rintro r rfl
    unfold prewarm
    split
    · split <;> rfl
    · rfl
  have run : runRecord s { quiet := true } = ({ prewarm s.settings s.table s.finder {} with
      use := warnWalkup s.clock.minuteCount (prewarm s.settings s.table s.finder {}).use }, false) := by
    simp only [runRecord, fresh, none]
    rfl
  rw [run, same _ rfl]

/-- R144: nothing to pre-warm. -/
theorem prewarm_idle {v : Settings} {table : List Entry} {f : Finder} (far : f.next = none ∨ v.lead < f.lead) :
    prewarm v table f {} = {} := by
  unfold prewarm
  split
  · rename_i x _ next
    rcases far with none | far
    · rw [none] at next; cases next
    · rw [if_neg (by omega)]
  · rfl

/-- R144: the next occurrence within the lead is pre-warmed. -/
theorem prewarm_due {v : Settings} {table : List Entry} {f : Finder} {x : Occurrence} (next : f.next = some x)
    (near : f.lead ≤ v.lead) :
    prewarm v table f {} = { use := .booked (bookingOf table x false), demand := true, requested := .normal } := by
  simp only [prewarm, next, if_pos near]

theorem prewarm_unstarted (v : Settings) (table : List Entry) (f : Finder) (b : Booking)
    (booked : (prewarm v table f {}).use = .booked b) : b.running = false := by
  unfold prewarm at booked
  split at booked
  · split at booked
    · cases booked; rfl
    · cases booked
  · cases booked

end Sys2Proof.Machine
end

section
/-! Start-up whole: the release of the links, the supply, the first cycle, and what START_UP_COMPLETE leaves (R184). -/

namespace Sys2Proof.Machine

open Sys2Proof.Config

/-! ## The state start-up begins in -/

/-- What a reset has left of the blocks that start-up goes by. -/
theorem StartingUp.fields {s : State} (h : StartingUp s) :
    s.session = {} ∧ s.switch = {} ∧ s.policy = {} ∧ s.silence = {} ∧ s.pins.mute = true
      ∧ (s.lamp.state = .cooling false ∧ s.lamp.demand = false ∧ s.lamp.temp = .unknown)
      ∧ s.store.foundBad = ⟨false, false, false, false⟩ := by
  obtain ⟨-, -, before, cause, cut, reset⟩ := h
  have lamp : s.lamp = lampAfterReset before.now := congrArg State.lamp reset
  refine ⟨congrArg State.session reset, congrArg State.switch reset, congrArg State.policy reset,
    congrArg State.silence reset, (congrArg (·.pins.mute) reset).trans rfl, ?_, (congrArg (·.store.foundBad) reset).trans rfl⟩
  rw [lamp]
  exact ⟨rfl, rfl, rfl⟩

/-- The state in which the session is first evaluated. -/
def State.atEvaluation (s : State) : State := { s.backed with finder := found s.backed.table s.backed.clock }

theorem State.evaluateSession_eq (s : State) :
    s.loadRecords.checkBackup.evaluateSession = s.atEvaluation.runner { quiet := true } := by
  rw [State.backed_eq]
  rfl

theorem State.atEvaluation_scanner (s : State) :
    s.atEvaluation.scanner = { s.scanner with
      plates := platesAfterReset (settingsTaken s.store.slots).finalAddress
      finalInForce := (settingsTaken s.store.slots).finalAddress } :=
  s.backed_untouched .scanner (by decide)

theorem platesAfterReset_absent (final : Nat) (n : Nat) : (nth (platesAfterReset final) n {}).state ≠ .present := by
  by_cases inTable : n < 12
  · have plate := platesAfterReset_getElem? final inTable
    rw [nth, List.getD_eq_getElem?_getD, plate]
    simp only [Option.getD_some]
    split <;> decide
  · rw [nth, List.getD_eq_default]
    · decide
    · simpa [platesAfterReset] using inTable

/-- R60: right after start-up no plate has been heard. -/
theorem State.atEvaluation_absent (s : State) : NonePresent s.atEvaluation := by
  intro n named _
  have plate : (s.atEvaluation.plate n).state ≠ .present := by
    rw [State.plate, s.atEvaluation_scanner]
    exact platesAfterReset_absent _ _
  simp [State.available, named, plate]

theorem StartingUp.atEvaluation_dormant {s : State} (h : StartingUp s) : Dormant s.atEvaluation := by
  obtain ⟨-, switch, -, -, mute, ⟨cooling, demand, unknown⟩, -⟩ := h.fields
  have lamp : s.atEvaluation.lamp = _ := s.backed_lamp
  have dark : s.atEvaluation.switch = s.switch := s.backed_untouched .switch (by decide)
  unfold Dormant
  rw [lamp, dark, switch]
  refine ⟨?_, unknown, ?_, s.backed_mute.trans mute, rfl⟩
  · dsimp only
    rw [cooling, demand]
  · dsimp only
    rw [unknown, effectiveLevel_unknown]

theorem StartingUp.atEvaluation_fields {s : State} (h : StartingUp s) :
    s.atEvaluation.session = {} ∧ s.atEvaluation.switch = {} ∧ s.atEvaluation.settings = settingsTaken s.store.slots
      ∧ s.atEvaluation.policy = ⟨(settingsTaken s.store.slots).idleLevel, none, (settingsTaken s.store.slots).idleLevel⟩ := by
  obtain ⟨session, switch, policy, -⟩ := h.fields
  refine ⟨(s.backed_untouched .session (by decide)).trans session, (s.backed_untouched .switch (by decide)).trans switch,
    s.backed_untouched .settings (by decide), (s.backed_untouched .policy (by decide)).trans ?_⟩
  show ({ s.policy with base := _, effective := _ } : Policy) = _
  rw [policy]
  rfl

/-! ## The release of the links (R166, R171, R174) -/

/-- R166, R171: a link as it leaves HELD. -/
def LinkState.released (x : LinkState) (mask : NoticeSet) : LinkState := { x with answering := .ready }.settle mask

theorem State.link_releaseLink_same (s : State) (l : Link) :
    (s.releaseLink l).link l = (s.link l).released (s.settings.maskOf l) := by cases l <;> rfl

theorem State.link_releaseLink_other (s : State) {l k : Link} (other : k ≠ l) : (s.releaseLink l).link k = s.link k := by
  rw [State.releaseLink, State.settleLine, State.link_setLink_other _ _ _ _ other, State.link_setLink_other _ _ _ _ other]

theorem State.releaseLink_settings (s : State) (l : Link) : (s.releaseLink l).settings = s.settings := by
  simp [State.releaseLink]

/-- The links released, before the silence timers start. -/
def State.linksReleased (s : State) : State := ((s.releaseLink .engine).releaseLink .lectern).releaseLink .campus

theorem State.link_linksReleased (s : State) (l : Link) :
    s.linksReleased.link l = (s.link l).released (s.settings.maskOf l) := by
  unfold State.linksReleased
  cases l with
  | engine =>
    rw [State.link_releaseLink_other _ (by decide), State.link_releaseLink_other _ (by decide), State.link_releaseLink_same]
  | lectern =>
    rw [State.link_releaseLink_other _ (by decide), State.link_releaseLink_same, State.link_releaseLink_other _ (by decide),
      State.releaseLink_settings]
  | campus =>
    rw [State.link_releaseLink_same, State.link_releaseLink_other _ (by decide), State.link_releaseLink_other _ (by decide),
      State.releaseLink_settings, State.releaseLink_settings]

theorem State.releaseLink_untouched (s : State) (l : Link) : Untouched [.links, .attention] s (s.releaseLink l) :=
  (State.setLink_untouched_of (by rfl)).andThen (State.settleLine_untouched _ l) (by rfl) (by rfl)

theorem State.linksReleased_untouched (s : State) : Untouched [.links, .attention] s s.linksReleased :=
  ((s.releaseLink_untouched .engine).trans (State.releaseLink_untouched _ .lectern)).trans
    (State.releaseLink_untouched _ .campus)

/-- R93, R174, R184: start-up is over and the silence timers start. -/
def State.timersStarted (s : State) : State :=
  { s with
    startUpDone := true
    silence := { s.silence with since := some s.now }
    geometry := { s.geometry with tiltTimer := some (s.now + staleTime) } }

theorem State.release_eq (s : State) : s.release = s.linksReleased.timersStarted := rfl

theorem State.link_timersStarted (s : State) (l : Link) : s.timersStarted.link l = s.link l := by cases l <;> rfl

theorem State.timersStarted_untouched (s : State) : Untouched [.startUp, .silence, .geometry] s s.timersStarted := by
  intro b outside
  cases b <;> first | rfl | (intro l; cases l <;> rfl) | exact (outside (by simp)).elim

theorem State.release_link (s : State) (l : Link) : s.release.link l = (s.link l).released (s.settings.maskOf l) := by
  rw [State.release_eq, State.link_timersStarted, State.link_linksReleased]

theorem State.release_untouched (s : State) :
    Untouched [.links, .attention, .startUp, .silence, .geometry] s s.release := by
  rw [State.release_eq]
  exact s.linksReleased_untouched.andThen (State.timersStarted_untouched _) rfl rfl

/-! ## The supply and the store (R179, R180) -/

theorem State.startWrite_links (s : State) (l : Link) : s.startWrite.link l = s.link l := by
  cases l <;> simp [State.link]

theorem State.startWrite_foundBad (s : State) : s.startWrite.store.foundBad = s.store.foundBad := by
  unfold State.startWrite
  repeat' split
  all_goals rfl

/-- What the start of a write leaves of the state. -/
def WriteOnly (s t : State) : Prop :=
  Untouched [.store] s t ∧ (∀ l, t.link l = s.link l) ∧ t.store.foundBad = s.store.foundBad

theorem State.startWrite_only (s : State) : WriteOnly s s.startWrite :=
  ⟨s.startWrite_untouched, s.startWrite_links, s.startWrite_foundBad⟩

theorem WriteOnly.trans {s t u : State} (h : WriteOnly s t) (k : WriteOnly t u) : WriteOnly s u :=
  ⟨h.1.trans k.1, fun l => (k.2.1 l).trans (h.2.1 l), k.2.2.trans h.2.2⟩

/-- R180: the supply warning as it is set, before an idle store begins. -/
def State.warned (s : State) : State :=
  { s with
    supply := { s.supply with warning := true }
    account := { s.account with checkpoint := 0 }
    store := { s.store with queue := accountFirst s.store.queue } }

theorem State.warned_untouched (s : State) : Untouched [.supply, .account, .store] s s.warned := by
  intro b outside
  cases b <;> first | rfl | (intro l; cases l <;> rfl) | exact (outside (by simp)).elim

/-- What the watch on the supply and the start of a write leave of the state. -/
theorem State.watchSupply_startWrite (s : State) :
    let t := s.watchSupply.startWrite
    Untouched [.supply, .account, .store] s t ∧ (∀ l, t.link l = s.link l)
      ∧ (t.account.record = s.account.record ∧ t.account.warmCount = s.account.warmCount)
      ∧ t.store.foundBad = s.store.foundBad ∧ (s.supply.senseLow = true → t.supply.warning = true) := by
  intro t
  by_cases low : s.supply.senseLow = true
  · have begun : t = s.warned.startWrite.startWrite := congrArg State.startWrite (if_pos low)
    obtain ⟨frame, links, marks⟩ := s.warned.startWrite_only.trans s.warned.startWrite.startWrite_only
    rw [← begun] at frame links marks
    have account : t.account = s.warned.account := frame .account (by decide)
    have supply : t.supply = s.warned.supply := frame .supply (by decide)
    exact ⟨s.warned_untouched.andThen frame rfl rfl, fun l => (links l).trans (by cases l <;> rfl),
      by rw [account]; exact ⟨rfl, rfl⟩, marks, fun _ => by rw [supply]; rfl⟩
  · have begun : t = s.startWrite := congrArg State.startWrite (if_neg low)
    obtain ⟨frame, links, marks⟩ := s.startWrite_only
    rw [← begun] at frame links marks
    have account : t.account = s.account := frame .account (by decide)
    exact ⟨frame.mono rfl, links, by rw [account]; exact ⟨rfl, rfl⟩, marks, fun h => (low h).elim⟩

/-! ## The first cycle (R45, R56, R60) -/

theorem configurePlates_same {final : Nat} {plates : List Plate} {n : Nat}
    (settled : ∀ i (p : Plate), plates[i]? = some p → p.configured (n + i) final = p) : configurePlates final n plates = plates := by
  induction plates generalizing n with
  | nil => rfl
  | cons p rest ih =>
    have head := settled 0 p rfl
    have tail : configurePlates final (n + 1) rest = rest := ih fun i q at_i => by
      have moved := settled (i + 1) q at_i
      rwa [show n + (i + 1) = n + 1 + i by omega] at moved
    rw [configurePlates, tail]
    exact congrArg (· :: rest) head

/-- R56: the records of start-up stand as the first cycle finds them. -/
theorem configurePlates_afterReset (final : Nat) :
    configurePlates final 1 (platesAfterReset final) = platesAfterReset final := by
  refine configurePlates_same fun i p at_i => ?_
  have inTable : i < 12 := by
    have := (List.getElem?_eq_some_iff.mp at_i).1
    simpa [platesAfterReset] using this
  rw [platesAfterReset_getElem? final inTable] at at_i
  cases at_i
  by_cases reached : i + 1 ≤ final
  · have within : ¬final < 1 + i := by omega
    simp [Plate.configured, reached, within]
  · have beyond : final < 1 + i := by omega
    simp [Plate.configured, reached, beyond]

/-- R45: the first cycle begins with the POLL of plate 1 and changes no record. -/
theorem State.startCycle_afterReset {s : State} (plates : s.scanner.plates = platesAfterReset s.settings.finalAddress) :
    s.startCycle = { s with scanner := { s.scanner with finalInForce := s.settings.finalAddress } }.startPoll 1 := by
  have same : configurePlates s.settings.finalAddress 1 s.scanner.plates = s.scanner.plates := by
    rw [plates, configurePlates_afterReset]
  simp only [State.startCycle, same, bne_self_eq_false, State.raiseIf_false]

end Sys2Proof.Machine
end

section
/-! What START_UP_COMPLETE leaves (R138, R160, R184). -/

namespace Sys2Proof.Machine

open Sys2Proof.Config

/-! ## The settings of a good record (R184) -/

theorem Settings.get_put_same (v w : Settings) (i : SettingId) (n : Nat) : (v.put i n).get i = (w.put i n).get i := by
  cases i with
  | rate l | mask l => cases l <;> rfl
  | _ => rfl

/-- The writes of a list of identifiers, each its own. -/
theorem get_foldl_put_other {ids : List SettingId} {values : List Nat} {i : SettingId} (other : i ∉ ids) (v : Settings) :
    ((ids.zip values).foldl (fun v p => v.put p.1 p.2) v).get i = v.get i := by
  induction ids generalizing values v with
  | nil => rfl
  | cons j ids ih =>
    cases values with
    | nil => rfl
    | cons n values =>
      obtain ⟨differs, rest⟩ := List.ne_and_not_mem_of_not_mem_cons other
      exact (ih rest _).trans (Settings.get_put_other v n differs)

theorem get_foldl_put {ids : List SettingId} (distinct : ids.Nodup) {values : List Nat} {i : SettingId} {n : Nat}
    (write : (i, n) ∈ ids.zip values) (v : Settings) :
    ((ids.zip values).foldl (fun v p => v.put p.1 p.2) v).get i = (({} : Settings).put i n).get i := by
  induction ids generalizing values v with
  | nil => cases write
  | cons j ids ih =>
    obtain ⟨fresh, distinct⟩ := List.nodup_cons.mp distinct
    cases values with
    | nil => cases write
    | cons m values =>
      rcases List.mem_cons.mp write with here | later
      · cases here
        exact (get_foldl_put_other fresh _).trans (Settings.get_put_same _ _ _ _)
      · exact ih distinct later _

theorem settingsOf_get {values : List Nat} {i : SettingId} {n : Nat} (write : (i, n) ∈ allSettings.zip values) :
    (settingsOf values).get i = (({} : Settings).put i n).get i :=
  get_foldl_put (by decide) write {}

/-! ## The presets of a good record (R89) -/

theorem StoredPreset.taken_eq (q : StoredPreset) :
    q.taken = { mode := if q.mode = 1 then .auto else .manual, vManual := max (-40) (min 40 q.vManual)
                h := max (-30) (min 30 q.h), vTrim := max (-10) (min 10 q.vTrim) } := by
  have mode : (modeOfCode q.mode.toNat).getD .manual = if q.mode = 1 then .auto else .manual := by
    by_cases auto : q.mode = 1
    · rw [if_pos auto, auto]
      rfl
    · have code : q.mode.toNat ≠ 1 := fun same => auto (BitVec.eq_of_toNat_eq same)
      rw [if_neg auto]
      generalize q.mode.toNat = n at code
      rcases n with _ | _ | n
      · rfl
      · exact (code rfl).elim
      · rfl
  rw [StoredPreset.taken, mode]
  rfl

theorem takePresets_eq {p : List StoredPreset} (thirteen : p.length = 13) : takePresets p = p.map StoredPreset.taken := by
  apply List.ext_getElem?
  intro i
  by_cases inTable : i < 13
  · have plate : p[i]? = some p[i] := List.getElem?_eq_getElem (by omega)
    simp [takePresets, inTable, plate]
  · simp [takePresets, inTable, thirteen]

/-! ## The steps after the session's evaluation -/

/-- The state once the session is evaluated. -/
def State.evaluated (s : State) : State := s.atEvaluation.runner { quiet := true }

/-- The state in which the first cycle begins. -/
def State.watched (s : State) : State := s.evaluated.release.watchSupply.startWrite

/-- What start-up can touch after the session's evaluation. -/
def releaseBlocks : List Block := [.links, .attention, .startUp, .silence, .geometry, .supply, .account, .store]

theorem State.watched_untouched (s : State) : Untouched releaseBlocks s.evaluated s.watched :=
  s.evaluated.release_untouched.andThen s.evaluated.release.watchSupply_startWrite.1 rfl rfl

section
variable {s : State} (h : StartingUp s)
include h

/-- R138: the first record is a booked start, a pre-warm or idle. -/
theorem StartingUp.firstRecord_serves :
    if (runRecord s.atEvaluation { quiet := true }).2
    then ∃ b, (runRecord s.atEvaluation { quiet := true }).1.use = .booked b
    else ∀ b, (runRecord s.atEvaluation { quiet := true }).1.use = .booked b → b.running = false := by
  obtain ⟨fresh, -⟩ := h.atEvaluation_fields
  cases current : s.atEvaluation.finder.current with
  | some c =>
    rw [runRecord_current fresh current]
    exact ⟨_, rfl⟩
  | none =>
    rw [runRecord_later fresh current]
    exact prewarm_unstarted _ _ _

/-- What the first evaluation leaves, by its record. -/
theorem StartingUp.evaluated_spec {r : Session} {started : Bool}
    (run : runRecord s.atEvaluation { quiet := true } = (r, started)) :
    Hushed s.atEvaluation s.evaluated
      ∧ s.evaluated.session = (if started then r.owingUnheard s.atEvaluation.table else r)
      ∧ s.evaluated.lamp = { s.atEvaluation.lamp with
          requested := r.requested, demand := r.demand, state := .cooling r.demand }
      ∧ s.evaluated.switch = { s.atEvaluation.switch with bridgeMute := r.use.bridgeMute }
      ∧ s.evaluated.policy = { s.atEvaluation.policy with
          base := { s.atEvaluation with session := r }.baseLevel
          effective := ({ s.atEvaluation.policy with base := { s.atEvaluation with session := r }.baseLevel } : Policy).derived } := by
  have serves := h.firstRecord_serves
  rw [run] at serves
  refine State.runner_first h.atEvaluation_dormant s.atEvaluation_absent ?_ run serves
  rw [h.atEvaluation_fields.2.1]

theorem StartingUp.evaluated_hushed : Hushed s.atEvaluation s.evaluated := (h.evaluated_spec rfl).1

theorem StartingUp.watched_scanner : s.watched.scanner = s.atEvaluation.scanner :=
  (s.watched_untouched .scanner (by decide)).trans (h.evaluated_hushed.2 .scanner (by decide))

theorem StartingUp.watched_settings : s.watched.settings = settingsTaken s.store.slots :=
  ((s.watched_untouched .settings (by decide)).trans (h.evaluated_hushed.2 .settings (by decide))).trans
    h.atEvaluation_fields.2.2.1

/-- R184: start-up ends with the first POLL. -/
theorem StartingUp.startUp_eq :
    s.startUp = { s.watched with scanner := { s.watched.scanner with
      finalInForce := s.watched.settings.finalAddress } }.startPoll 1 := by
  have runs : s.startUp = s.watched.startCycle := by
    rw [State.startUp, if_neg (by rw [h.1]; decide), State.evaluateSession_eq]
    rfl
  have plates : s.watched.scanner.plates = platesAfterReset s.watched.settings.finalAddress := by
    rw [h.watched_scanner, s.atEvaluation_scanner, h.watched_settings]
  rw [runs, State.startCycle_afterReset plates]

theorem StartingUp.startUp_untouched : Untouched [.scanner, .pins] s.watched s.startUp := by
  rw [h.startUp_eq]
  exact (s.watched.scanner_update_untouched _).andThen (State.startPoll_untouched _ _) rfl rfl

/-- What start-up leaves as the first evaluation found it. -/
theorem StartingUp.startUp_frame : Untouched (.scanner :: .pins :: releaseBlocks) s.evaluated s.startUp :=
  s.watched_untouched.andThen h.startUp_untouched rfl rfl

theorem StartingUp.startUp_kept :
    Untouched ([.session, .lamp, .policy, .switch, .scanner, .pins, .finder] ++ releaseBlocks) s.backed s.startUp :=
  (((s.backed.finder_update_untouched _).andThen h.evaluated_hushed.2 (C := hushBlocks) rfl rfl).andThen h.startUp_frame
    rfl rfl)

end

end Sys2Proof.Machine
end

section
/-! START_UP_COMPLETE, field by field (R138, R160, R184). -/

namespace Sys2Proof.Machine

open Sys2Proof.Config

section
variable {s : State} (h : StartingUp s)
include h

theorem StartingUp.startUp_settings : s.startUp.settings = settingsTaken s.store.slots :=
  (h.startUp_kept .settings (by decide)).trans (s.backed_untouched .settings (by decide))

theorem StartingUp.startUp_table : s.startUp.table = (loadedTable s.store.slots).getD [] :=
  (h.startUp_kept .table (by decide)).trans s.backed_table

theorem StartingUp.startUp_clock :
    s.startUp.clock = if s.clock.backupLost then { secondStart := s.now, backupLost := false } else s.clock :=
  (h.startUp_kept .clock (by decide)).trans s.backed_clock

theorem StartingUp.startUp_finder : s.startUp.finder = found s.startUp.table s.startUp.clock := by
  have evaluated : s.evaluated.finder = s.atEvaluation.finder := State.runner_untouched _ _ .finder (by decide)
  rw [h.startUp_frame .finder (by decide), evaluated, h.startUp_kept .table (by decide), h.startUp_kept .clock (by decide)]
  rfl

theorem StartingUp.startUp_account :
    s.startUp.account.record = recordTaken s.store.slots ∧ s.startUp.account.warmCount = s.account.warmCount := by
  obtain ⟨record, warm⟩ := s.evaluated.release.watchSupply_startWrite.2.2.1
  have account : s.startUp.account = s.watched.account := h.startUp_untouched .account (by decide)
  have released : s.evaluated.release.account = s.backed.account :=
    (s.evaluated.release_untouched .account (by decide)).trans (h.evaluated_hushed.2 .account (by decide))
  have loaded := s.backed_account
  rw [account]
  exact ⟨record.trans (by rw [released, loaded]), warm.trans (by rw [released, loaded])⟩

theorem StartingUp.startUp_foundBad : s.startUp.store.foundBad = marksOf s.store.slots := by
  obtain ⟨-, -, -, -, -, -, clear⟩ := h.fields
  have marks : s.watched.store.foundBad = s.evaluated.release.store.foundBad :=
    s.evaluated.release.watchSupply_startWrite.2.2.2.1
  have released : s.evaluated.release.store = s.backed.store :=
    (s.evaluated.release_untouched .store (by decide)).trans (h.evaluated_hushed.2 .store (by decide))
  rw [h.startUp_untouched .store (by decide), marks, released, State.backed_store clear]

/-- The links as start-up leaves them. -/
theorem StartingUp.startUp_link (l : Link) :
    s.startUp.link l = (s.backed.link l).released (s.startUp.settings.maskOf l) := by
  have started : s.startUp.link l = s.watched.link l := by rw [h.startUp_eq]; cases l <;> rfl
  have watched : s.watched.link l = s.evaluated.release.link l := s.evaluated.release.watchSupply_startWrite.2.1 l
  have evaluated : s.evaluated.link l = s.backed.link l := (h.evaluated_hushed.1 l).trans (by cases l <;> rfl)
  have settings : s.evaluated.settings = s.startUp.settings := (h.startUp_frame .settings (by decide)).symm
  rw [started, watched, State.release_link, evaluated, settings]

theorem StartingUp.startUp_quiet (l : Link) :
    (s.startUp.link l).quiet = { s.link l with answering := .ready, rate := s.startUp.settings.rateOf l }.quiet := by
  have loaded := s.backed_quiet l
  rw [← h.startUp_settings] at loaded
  have ready : ((s.backed.link l).released (s.startUp.settings.maskOf l)).quiet
      = { (s.backed.link l).quiet with answering := .ready } := rfl
  rw [h.startUp_link, ready, loaded]
  rfl

theorem StartingUp.startUp_attention (l : Link) :
    (s.startUp.link l).attention = ((s.startUp.link l).notices &&& s.startUp.settings.maskOf l != 0) := by
  rw [h.startUp_link]
  rfl

/-- R169, R184: the notices of start-up. -/
theorem StartingUp.startUp_notices (l : Link) :
    (s.startUp.link l).notices = (s.link l).notices
      ||| (if s.startUp.store.foundBad = ⟨false, false, false, false⟩ then 0 else Notice.store.flag)
      ||| (if s.startUp.store.foundBad.account then Notice.account.flag else 0)
      ||| (if s.clock.backupLost then Notice.clock.flag else 0) := by
  have kept : (s.startUp.link l).notices = (s.backed.link l).notices := (congrArg LinkState.notices (h.startUp_link l)).trans rfl
  rw [kept, s.backed_notices, h.startUp_foundBad]
  have store : flagIf ((loadedSettings s.store.slots).isNone || (loadedAccount s.store.slots).isNone
      || (loadedTable s.store.slots).isNone || (loadedPresets s.store.slots).isNone) .store
      = if marksOf s.store.slots = ⟨false, false, false, false⟩ then 0 else Notice.store.flag := by
    unfold marksOf
    cases (loadedSettings s.store.slots).isNone <;> cases (loadedAccount s.store.slots).isNone <;>
      cases (loadedTable s.store.slots).isNone <;> cases (loadedPresets s.store.slots).isNone <;> rfl
  rw [store]
  rfl

/-- R184: a record found bad has STORE pending. -/
theorem StartingUp.startUp_pending_store (bad : s.startUp.store.foundBad ≠ ⟨false, false, false, false⟩) :
    Pending .store s.startUp := by
  intro l
  rw [h.startUp_notices, if_neg bad]
  generalize (if s.startUp.store.foundBad.account = true then Notice.account.flag else 0) = a
  generalize (if s.clock.backupLost = true then Notice.clock.flag else 0) = c
  ext i hi
  simp only [BitVec.getElem_and, BitVec.getElem_or]
  cases Notice.store.flag[i] <;> simp

theorem StartingUp.startUp_pending_account (bad : s.startUp.store.foundBad.account = true) : Pending .account s.startUp := by
  intro l
  rw [h.startUp_notices, if_pos bad]
  generalize (if s.clock.backupLost = true then Notice.clock.flag else 0) = c
  ext i hi
  simp only [BitVec.getElem_and, BitVec.getElem_or]
  cases Notice.account.flag[i] <;> simp

theorem StartingUp.startUp_pending_clock (lost : s.clock.backupLost = true) : Pending .clock s.startUp := by
  intro l
  rw [h.startUp_notices, if_pos lost]
  ext i hi
  simp only [BitVec.getElem_and, BitVec.getElem_or]
  cases Notice.clock.flag[i] <;> simp

/-- R93: the geometry as loaded, and the tilt-silence timer. -/
theorem StartingUp.startUp_geometry :
    s.startUp.geometry = { s.backed.geometry with tiltTimer := some (s.now + 5000000) } := by
  have watched : s.startUp.geometry = s.evaluated.release.geometry :=
    (h.startUp_untouched .geometry (by decide)).trans (s.evaluated.release.watchSupply_startWrite.1 .geometry (by decide))
  have released : s.evaluated.linksReleased.geometry = s.backed.geometry :=
    (s.evaluated.linksReleased_untouched .geometry (by decide)).trans (h.evaluated_hushed.2 .geometry (by decide))
  have now : s.evaluated.linksReleased.now = s.now :=
    ((s.evaluated.linksReleased_untouched .time (by decide)).trans (h.evaluated_hushed.2 .time (by decide))).trans
      (s.backed_untouched .time (by decide))
  rw [watched, State.release_eq, State.timersStarted, released, now]
  rfl

/-- R174: the silence count starts. -/
theorem StartingUp.startUp_silence : s.startUp.silence = { since := some s.now, flag := false } := by
  obtain ⟨-, -, -, fresh, -⟩ := h.fields
  have watched : s.startUp.silence = s.evaluated.release.silence :=
    (h.startUp_untouched .silence (by decide)).trans (s.evaluated.release.watchSupply_startWrite.1 .silence (by decide))
  have released : s.evaluated.linksReleased.silence = s.silence :=
    ((s.evaluated.linksReleased_untouched .silence (by decide)).trans (h.evaluated_hushed.2 .silence (by decide))).trans
      (s.backed_untouched .silence (by decide))
  have now : s.evaluated.linksReleased.now = s.now :=
    ((s.evaluated.linksReleased_untouched .time (by decide)).trans (h.evaluated_hushed.2 .time (by decide))).trans
      (s.backed_untouched .time (by decide))
  rw [watched, State.release_eq, State.timersStarted, released, now, fresh]

theorem StartingUp.startUp_done : s.startUp.receiversOn = true ∧ s.startUp.startUpDone = true := by
  refine ⟨(h.startUp_kept .receivers (by decide)).trans (s.backed_untouched .receivers (by decide)), ?_⟩
  rw [h.startUp_untouched .startUp (by decide), State.watched,
    s.evaluated.release.watchSupply_startWrite.1 .startUp (by decide)]
  rfl

theorem StartingUp.startUp_warning (low : s.supply.senseLow = true) : s.startUp.supply.warning = true := by
  have supply : s.evaluated.release.supply = s.supply :=
    ((s.evaluated.release_untouched .supply (by decide)).trans (h.evaluated_hushed.2 .supply (by decide))).trans
      (s.backed_untouched .supply (by decide))
  rw [h.startUp_untouched .supply (by decide)]
  exact s.evaluated.release.watchSupply_startWrite.2.2.2.2 (by rw [supply]; exact low)

/-- R45, R60: the plate records, the final address in force and the first POLL. -/
theorem StartingUp.startUp_scanner :
    s.startUp.scanner.finalInForce = s.startUp.settings.finalAddress
      ∧ s.startUp.scanner.plates = platesAfterReset s.startUp.settings.finalAddress
      ∧ s.startUp.scanner.slot = .polling 1 (s.startUp.pollFrame 1) (s.now + 240) ∧ s.startUp.pins.busDe = true := by
  have plates : s.watched.scanner.plates = platesAfterReset (settingsTaken s.store.slots).finalAddress := by
    rw [h.watched_scanner, s.atEvaluation_scanner]
  have now : s.watched.now = s.now :=
    ((s.watched_untouched .time (by decide)).trans (h.evaluated_hushed.2 .time (by decide))).trans
      (s.backed_untouched .time (by decide))
  have settings := h.watched_settings
  rw [h.startUp_settings, h.startUp_eq, ← now]
  refine ⟨?_, plates, rfl, rfl⟩
  show s.watched.settings.finalAddress = _
  rw [settings]

/-! ## The session as start-up leaves it -/

/-- R138, R160: the session, the lamp, the switch sequencer and the policy unit, by the first record. -/
theorem StartingUp.startUp_session {r : Session} {started : Bool}
    (run : runRecord s.atEvaluation { quiet := true } = (r, started)) :
    s.startUp.session = (if started then r.owingUnheard s.startUp.table else r)
      ∧ s.startUp.lamp = { s.backed.lamp with requested := r.requested, demand := r.demand, state := .cooling r.demand }
      ∧ s.startUp.switch = { bridgeMute := r.use.bridgeMute }
      ∧ s.startUp.policy.base = { s.atEvaluation with session := r }.baseLevel
      ∧ s.startUp.policy.effective = s.startUp.policy.base := by
  obtain ⟨-, session, lamp, switch, policy⟩ := h.evaluated_spec run
  have fresh := h.atEvaluation_fields
  have table : s.atEvaluation.table = s.startUp.table := (h.startUp_kept .table (by decide)).symm
  rw [table] at session
  rw [fresh.2.1] at switch
  rw [fresh.2.2.2] at policy
  rw [h.startUp_frame .session (by decide), h.startUp_frame .lamp (by decide), h.startUp_frame .switch (by decide),
    h.startUp_frame .policy (by decide), session, lamp, switch, policy]
  exact ⟨rfl, rfl, rfl, rfl, rfl⟩

end

/-! ## A booked start's record, by its entry (R145, R146) -/

theorem bookingOf_entry {table : List Entry} {o : Occurrence} {e : Entry} (entry : entryOf table o.id = some e) (running : Bool) :
    bookingOf table o running =
      { id := o.id, date := o.date, running := running, start := o.date.number * 1440 + o.start
        stop := o.date.number * 1440 + o.stop, label := e.label, owed := none } := by
  simp only [bookingOf, entryLabel, entry]
  rfl

theorem prewarm_kinds (v : Settings) (table : List Entry) (f : Finder) :
    (prewarm v table f {}).use = .none ∨ ∃ b, (prewarm v table f {}).use = .booked b := by
  unfold prewarm
  split
  · split
    · exact .inr ⟨_, rfl⟩
    · exact .inl rfl
  · exact .inl rfl

theorem entryLevel_entry {table : List Entry} {id : Nat} {e : Entry} {terms : Terms} (entry : entryOf table id = some e)
    (fields : e.terms = some terms) (idle : Level) : entryLevel table id idle = terms.level := by
  simp [entryLevel, entry, fields]

theorem entrySource_entry {table : List Entry} {id : Nat} {e : Entry} {terms : Terms} (entry : entryOf table id = some e)
    (fields : e.terms = some terms) : entrySource table id = terms.source := by
  simp [entrySource, entry, fields]

theorem entryLamp_entry {table : List Entry} {id : Nat} {e : Entry} {terms : Terms} (entry : entryOf table id = some e)
    (fields : e.terms = some terms) : entryLamp table id = terms.lamp := by
  simp [entryLamp, entry, fields]

section
variable {s : State} (h : StartingUp s)
include h

theorem StartingUp.atEvaluation_finder : s.atEvaluation.finder = s.startUp.finder := by
  have evaluated : s.evaluated.finder = s.atEvaluation.finder := State.runner_untouched _ _ .finder (by decide)
  rw [h.startUp_frame .finder (by decide), evaluated]

/-- R138, R145, R146: an occurrence that is current at start-up is started, its source owed. -/
theorem StartingUp.startUp_started {c : Occurrence} {e : Entry} {terms : Terms}
    (current : s.startUp.finder.current = some c) (entry : entryOf s.startUp.table c.id = some e)
    (fields : e.terms = some terms) : StartedFor c e terms true s s.startUp ∧ s.startUp.switch.routed = 0 := by
  have table : s.atEvaluation.table = s.startUp.table := (h.startUp_kept .table (by decide)).symm
  have finder := h.atEvaluation_finder
  have run := runRecord_current h.atEvaluation_fields.1 (finder ▸ current)
  obtain ⟨session, lamp, switch, base, -⟩ := h.startUp_session run
  obtain ⟨-, before, -⟩ := h.fields
  rw [table, bookingOf_entry entry, entryLamp_entry entry fields] at session
  rw [table, entryLamp_entry entry fields] at lamp
  have source := entrySource_entry entry fields
  have level : s.startUp.policy.base = terms.level := by
    rw [base]
    have called : ({ s.atEvaluation with session :=
        { use := .booked (bookingOf s.atEvaluation.table c true), demand := true, requested := entryLamp s.atEvaluation.table c.id } } :
          State).baseLevel = entryLevel s.atEvaluation.table c.id s.atEvaluation.settings.idleLevel := rfl
    rw [called, table, entryLevel_entry entry fields]
  refine ⟨⟨if terms.source = 0 then none else some 0, ?_, level, by rw [lamp], by rw [lamp], by rw [switch]; rfl,
    fun unnamed => ⟨if_pos unnamed, by rw [switch, before]⟩, fun named reached => ?_, fun named _ => ?_⟩, by rw [switch]⟩
  · rw [session, if_pos rfl]
    simp only [Session.owingUnheard, source]
  · rw [switch] at reached
    exact (named reached.symm).elim
  · rw [if_neg named, switch]

/-- R138, R144, R160: with nothing current at start-up the record is the pre-warm's, at the idle level. -/
theorem StartingUp.startUp_later (none : s.startUp.finder.current = none) :
    let r := prewarm s.startUp.settings s.startUp.table s.startUp.finder {}
    s.startUp.session = r ∧ s.startUp.switch.bridgeMute = r.use.bridgeMute
      ∧ s.startUp.policy.base = s.startUp.settings.idleLevel := by
  intro r
  have table : s.atEvaluation.table = s.startUp.table := (h.startUp_kept .table (by decide)).symm
  have settings : s.atEvaluation.settings = s.startUp.settings := (h.startUp_kept .settings (by decide)).symm
  have finder := h.atEvaluation_finder
  have run := runRecord_later h.atEvaluation_fields.1 (finder ▸ none)
  rw [settings, table, finder] at run
  obtain ⟨session, -, switch, base, -⟩ := h.startUp_session run
  refine ⟨session, by rw [switch], base.trans ?_⟩
  have level : ({ s.atEvaluation with session := r } : State).baseLevel = s.atEvaluation.settings.idleLevel := by
    have unstarted := prewarm_unstarted s.startUp.settings s.startUp.table s.startUp.finder
    have kinds := prewarm_kinds s.startUp.settings s.startUp.table s.startUp.finder
    rcases kinds with idle | ⟨b, booked⟩
    · simp only [State.baseLevel, r, idle]
    · simp only [State.baseLevel, r, booked, unstarted b booked, Bool.false_eq_true, if_false]
  rw [level, settings]

/-- R41, R42: the lamp as start-up leaves it. -/
theorem StartingUp.startUp_lamp :
    s.startUp.lamp.demand = s.startUp.session.demand ∧ s.startUp.lamp.state = .cooling s.startUp.session.demand
      ∧ s.startUp.lamp.timerStart = s.lamp.timerStart
      ∧ s.startUp.lamp.timerLength = s.startUp.settings.cooldown * 1000000
      ∧ s.startUp.policy.effective = s.startUp.policy.base := by
  obtain ⟨session, lamp, -, -, policy⟩ := h.startUp_session (r := (runRecord s.atEvaluation { quiet := true }).1)
    (started := (runRecord s.atEvaluation { quiet := true }).2) rfl
  have demand : s.startUp.session.demand = (runRecord s.atEvaluation { quiet := true }).1.demand := by
    rw [session]
    split
    · unfold Session.owingUnheard
      split <;> rfl
    · rfl
  rw [demand, h.startUp_settings, lamp, s.backed_lamp]
  exact ⟨rfl, rfl, rfl, rfl, policy⟩

end

/-! ## The records, by what their slots hold (R184) -/

section
variable {x : PerKind StoreSlot}

theorem loadedSettings_good {v : List Nat} (good : x.settings.good = some (.settings v)) :
    loadedSettings x = some (settingsOf v) := by simp only [loadedSettings, good]

theorem loadedSettings_bad (bad : x.settings.good = none) : loadedSettings x = none := by simp only [loadedSettings, bad]

theorem loadedAccount_good {r : AccountRecord} (good : x.account.good = some (.account r)) :
    loadedAccount x = some (clampRecord r) := by simp only [loadedAccount, good]

theorem loadedAccount_bad (bad : x.account.good = none) : loadedAccount x = none := by simp only [loadedAccount, bad]

theorem loadedTable_good {r : List RawEntry} (good : x.schedule.good = some (.schedule r)) :
    loadedTable x = tableOfStored r := by simp only [loadedTable, good]

theorem loadedTable_bad (bad : x.schedule.good = none) : loadedTable x = none := by simp only [loadedTable, bad]

theorem loadedPresets_good {p : List StoredPreset} (good : x.presets.good = some (.presets p)) :
    loadedPresets x = some (takePresets p) := by simp only [loadedPresets, good]

theorem loadedPresets_bad (bad : x.presets.good = none) : loadedPresets x = none := by simp only [loadedPresets, bad]

end

/-- R138: a stored table that fails a check gives none. -/
theorem tableOfStored_refused {r : List RawEntry} (refused : ∀ e, entriesOfRaw r = some e → tableTaken e = false) :
    tableOfStored r = none := by
  unfold tableOfStored
  split
  · rename_i e entries
    rw [refused e entries]
    rfl
  · rfl

theorem tableOfStored_taken {r : List RawEntry} {e : List Entry} (entries : entriesOfRaw r = some e)
    (taken : tableTaken e = true) : tableOfStored r = some (inIdOrder e) := by
  simp only [tableOfStored, entries, taken, if_true]

section
variable {s : State} (h : StartingUp s)
include h

/-- R184: a kind found bad is marked, and STORE is pending. -/
theorem StartingUp.startUp_bad (k : Kind) (bad : (marksOf s.store.slots).get k = true) :
    s.startUp.store.foundBad.get k = true ∧ Pending .store s.startUp := by
  have marks := h.startUp_foundBad
  refine ⟨by rw [marks]; exact bad, h.startUp_pending_store fun clear => ?_⟩
  rw [← marks, clear] at bad
  cases k <;> cases bad

/-- R138, R184: a schedule that is not taken leaves the empty table. -/
theorem StartingUp.startUp_untabled (bad : loadedTable s.store.slots = none) :
    s.startUp.table = [] ∧ s.startUp.store.foundBad.schedule = true ∧ Pending .store s.startUp := by
  have marked : (marksOf s.store.slots).get .schedule = true := by
    show (loadedTable s.store.slots).isNone = true
    rw [bad]
    rfl
  obtain ⟨mark, raised⟩ := h.startUp_bad .schedule marked
  exact ⟨by rw [h.startUp_table, bad]; rfl, mark, raised⟩

end

/-- Settles O21: start-up's steps, each by the lemma of the block it leaves. -/
theorem startUpLoadsTheRecordsAndReleasesTheLinks : Obligations.StartUpLoadsTheRecordsAndReleasesTheLinks := by
  refine ⟨fun s h => ⟨s.startUp, rfl, ?_⟩, fun s done => congrArg Host.Outcome.next (if_pos done)⟩
  have settings := h.startUp_settings
  have marks := h.startUp_foundBad
  obtain ⟨record, warm⟩ := h.startUp_account
  have table := h.startUp_table
  have geometry := h.startUp_geometry
  have presets : s.startUp.geometry.presets = _ := (congrArg Geometry.presets geometry).trans s.backed_presets
  have clock := h.startUp_clock
  obtain ⟨final, plates, slot, busDe⟩ := h.startUp_scanner
  obtain ⟨demand, state, start, length, effective⟩ := h.startUp_lamp
  refine ⟨fun v good => ?_, fun bad => ?_, fun r good => ?_, fun bad => ?_, fun r e good entries taken => ?_,
    fun r good refused => ?_, fun bad => ?_, fun bad => ?_, fun p good thirteen => ?_, fun lost => ?_, fun kept => ?_,
    h.startUp_finder, h.startUp_quiet, h.startUp_attention, final, ?_, fun n inTable => ?_, warm,
    h.startUp_notices, h.startUp_done.1, h.startUp_done.2, fun none far => ?_, fun c e terms => h.startUp_started,
    fun x e none next near entry => ?_, effective, demand, state, h.startUp_silence, ?_, start, length, slot, busDe,
    h.startUp_warning⟩
  · have loaded := loadedSettings_good good
    refine ⟨by rw [marks, marksOf, loaded]; rfl, fun i n write => ?_⟩
    rw [settings, settingsTaken, loaded]
    exact settingsOf_get write
  · have loaded := loadedSettings_bad bad
    exact ⟨by rw [settings, settingsTaken, loaded]; rfl,
      h.startUp_bad .settings (by simp only [PerKind.get, marksOf, loaded, Option.isNone_none])⟩
  · rw [record, recordTaken, loadedAccount_good good]
    rfl
  · have loaded := loadedAccount_bad bad
    obtain ⟨mark, raised⟩ := h.startUp_bad .account (by simp only [PerKind.get, marksOf, loaded, Option.isNone_none])
    refine ⟨?_, mark, raised, h.startUp_pending_account mark⟩
    rw [record, recordTaken, loaded, settings]
    rfl
  · have loaded : loadedTable s.store.slots = some (inIdOrder e) :=
      (loadedTable_good good).trans (tableOfStored_taken entries taken)
    exact ⟨by rw [table, loaded]; rfl, by rw [marks, marksOf, loaded]; rfl⟩
  · exact h.startUp_untabled ((loadedTable_good good).trans (tableOfStored_refused refused))
  · exact h.startUp_untabled (loadedTable_bad bad)
  · have loaded := loadedPresets_bad bad
    exact ⟨by rw [presets, loaded]; rfl,
      h.startUp_bad .presets (by simp only [PerKind.get, marksOf, loaded, Option.isNone_none])⟩
  · have loaded := loadedPresets_good good
    refine ⟨?_, by rw [marks, marksOf, loaded]; rfl⟩
    rw [presets, loaded, takePresets_eq thirteen]
    exact List.map_congr_left fun q _ => q.taken_eq
  · exact ⟨by rw [clock, if_pos lost], h.startUp_pending_clock lost⟩
  · rw [clock, if_neg (by rw [kept]; decide)]
  · rw [plates]
    simp [platesAfterReset]
  · rw [plates]
    exact platesAfterReset_getElem? _ inTable
  · obtain ⟨session, -, base⟩ := h.startUp_later none
    rw [prewarm_idle far] at session
    exact ⟨session, base⟩
  · obtain ⟨session, mute, base⟩ := h.startUp_later none
    rw [prewarm_due next near, bookingOf_entry entry] at session mute
    exact ⟨session, mute, base⟩
  · rw [geometry]

end Sys2Proof.Machine
end

section
/-! Laws 1, 2 and 5: demand follows the lamp state, the ballast outputs follow both, and nothing burns at HOT (R20, R36 to
R39). -/

namespace Sys2Proof.Machine

open Sys2Proof.Config

/-! ## The invariant, part by part -/

/-- R20: whether demand is on in a lamp state. -/
def LampState.demanded : LampState → Bool
  | .off blocked => blocked != .none
  | .cooling pendingStrike => pendingStrike
  | _ => true

/-- R20, R36: what an operation of the lamp controller owes before the outputs are settled. -/
def Lamp.coherent (x : Lamp) : Prop := x.demand = x.state.demanded ∧ (x.temp = .hot → x.state.burning = false)

/-- The four outputs that the lamp controller drives: LAMP_EN, IGNITE, LEVEL and FAN. -/
def Pins.ballast (p : Pins) : Bool × Bool × LampLevel × Bool := (p.lampEn, p.ignite, p.level, p.fan)

/-- R20, R38, R39: the ballast outputs that a lamp calls for. -/
def Lamp.outputs (x : Lamp) : Bool × Bool × LampLevel × Bool :=
  (lampEnDriven x.state, igniteDriven x.state, levelDriven x.state x.temp x.effective, fanDriven x.state x.temp)

theorem LampState.demanded_of_other {x : LampState} (notOff : ∀ b, x ≠ .off b) (notCooling : ∀ p, x ≠ .cooling p) :
    x.demanded = true := by
  cases x with
  | off b => exact (notOff b rfl).elim
  | cooling p => exact (notCooling p rfl).elim
  | _ => rfl

theorem lampEnDriven_eq (x : LampState) : lampEnDriven x = (x == .striking .attempt || x == .warming || x == .lit) := by
  cases x with
  | striking phase => cases phase <;> rfl
  | _ => rfl

theorem LampLevel.lesser_eco (x : LampLevel) : x.lesser .eco = .eco := by cases x <;> rfl

theorem LampLevel.eco_lesser (x : LampLevel) : LampLevel.eco.lesser x = .eco := by cases x <;> rfl

/-- R37: the lowest of the three limits. -/
theorem effectiveLevel_eq (requested : LampLevel) (temp : TempState) (status : WearStatus) :
    effectiveLevel requested temp status =
      (if temp ≠ .normal ∨ requested = .eco then .eco
       else if requested = .boost ∧ status = .good then .boost else .normal) := by
  cases temp with
  | normal => cases requested <;> cases status <;> rfl
  | warm | hot | unknown => simp [effectiveLevel, thermalCap, LampLevel.lesser_eco, LampLevel.eco_lesser]

theorem levelDriven_eq (x : LampState) (temp : TempState) (effective : LampLevel) :
    levelDriven x temp effective = (if x = .lit then effective else if temp = .normal then .normal else .eco) := by
  unfold levelDriven
  cases temp <;> rfl

theorem fanDriven_eq (x : LampState) (temp : TempState) :
    fanDriven x temp = (match x with
      | .off _ => temp != .normal
      | .failed => temp != .normal
      | _ => true) := by cases x <;> rfl

theorem LampState.burning_eq_false (x : LampState) :
    x.burning = false ↔ x ≠ .striking .attempt ∧ x ≠ .striking .retryWait ∧ x ≠ .warming ∧ x ≠ .lit := by
  cases x with
  | striking phase => cases phase <;> simp [LampState.burning]
  | _ => simp [LampState.burning]

theorem State.lampFollows_iff (s : State) :
    s.lampFollows ↔ s.lamp.coherent
      ∧ s.lamp.effective = effectiveLevel s.lamp.requested s.lamp.temp s.account.status
      ∧ s.pins.ballast = s.lamp.outputs := by
  simp only [Lamp.outputs, Pins.ballast, Prod.mk.injEq]
  constructor
  · rintro ⟨demand, effective, lampEn, ignite, level, fan, cool⟩
    exact ⟨⟨demand, fun hot => (LampState.burning_eq_false _).mpr (cool hot)⟩,
      effective.trans (effectiveLevel_eq _ _ _).symm, lampEn.trans (lampEnDriven_eq _).symm, ignite,
      level.trans (levelDriven_eq _ _ _).symm, fan.trans (fanDriven_eq _ _).symm⟩
  · rintro ⟨⟨demand, cool⟩, effective, lampEn, ignite, level, fan⟩
    exact ⟨demand, effective.trans (effectiveLevel_eq _ _ _), lampEn.trans (lampEnDriven_eq _), ignite,
      level.trans (levelDriven_eq _ _ _), fan.trans (fanDriven_eq _ _),
      fun hot => (LampState.burning_eq_false _).mp (cool hot)⟩

theorem State.lampFollows.coherent {s : State} (h : s.lampFollows) : s.lamp.coherent := ((State.lampFollows_iff s).mp h).1

/-- What the invariant reads: the lamp controller, the account's status and the four outputs. -/
theorem State.lampFollows.of_same {s t : State} (h : s.lampFollows) (lamp : t.lamp = s.lamp)
    (status : t.account.status = s.account.status) (ballast : t.pins.ballast = s.pins.ballast) : t.lampFollows := by
  rw [State.lampFollows_iff] at h ⊢
  rw [lamp, status, ballast]
  exact h

/-- An operation that drives other pins alone keeps the invariant. -/
theorem Untouched.lampFollows_of_ballast {A : List Block} {s t : State} (h : Untouched A s t)
    (apart : [Block.lamp, .account].all (fun b => decide (b ∉ A)) = true) (ballast : t.pins.ballast = s.pins.ballast)
    (f : s.lampFollows) : t.lampFollows := by
  simp only [List.all_cons, List.all_nil, Bool.and_true, Bool.and_eq_true, decide_eq_true_eq] at apart
  obtain ⟨noLamp, noAccount⟩ := apart
  have account : t.account = s.account := h .account noAccount
  exact f.of_same (h .lamp noLamp) (congrArg _ account) ballast

/-- An operation that touches neither lamp, account nor pins keeps the invariant. -/
theorem Untouched.lampFollows {A : List Block} {s t : State} (h : Untouched A s t)
    (apart : [Block.lamp, .account, .pins].all (fun b => decide (b ∉ A)) = true) (f : s.lampFollows) : t.lampFollows := by
  simp only [List.all_cons, List.all_nil, Bool.and_true, Bool.and_eq_true, decide_eq_true_eq] at apart
  obtain ⟨noLamp, noAccount, noPins⟩ := apart
  have pins : t.pins = s.pins := h .pins noPins
  exact h.lampFollows_of_ballast (by simp [noLamp, noAccount]) (congrArg _ pins) f

/-! ## Other drivers of pins leave the ballast outputs as they are -/

@[simp] theorem Pins.mute_ballast (p : Pins) (on : Bool) : { p with mute := on }.ballast = p.ballast := rfl

@[simp] theorem State.settleMute_ballast (s : State) : s.settleMute.pins.ballast = s.pins.ballast := by
  rw [State.settleMute_pins, Pins.mute_ballast]

@[simp] theorem State.routingAction_ballast (s : State) (n : Nat) : (s.routingAction n).pins.ballast = s.pins.ballast := by
  simp only [State.routingAction, State.settleMute_ballast, State.installPreset, State.putGeometry_pins]
  rfl

@[simp] theorem State.enterSeeking_ballast (s : State) (r : Option Nat) :
    (s.enterSeeking r).pins.ballast = s.pins.ballast := by simp [State.enterSeeking]

@[simp] theorem State.enterSettled_ballast (s : State) (x : SwitchState) :
    (s.enterSettled x).pins.ballast = s.pins.ballast := by simp [State.enterSettled]

@[simp] theorem State.enterMuting_ballast (s : State) : s.enterMuting.pins.ballast = s.pins.ballast := by
  simp only [State.enterMuting]
  split <;> simp

@[simp] theorem State.requestSwitch_ballast (s : State) (n : Nat) (c : Requester) :
    (s.requestSwitch n c).1.pins.ballast = s.pins.ballast := by
  simp only [State.requestSwitch, State.requestSettled, State.requestInTransit]
  repeat' split
  all_goals simp

@[simp] theorem State.loseSync_ballast (s : State) (r : Option Nat) : (s.loseSync r).pins.ballast = s.pins.ballast := by
  simp [State.loseSync]

theorem State.judgeSeeking_ballast (s : State) (i : Nat) : (s.judgeSeeking i).pins.ballast = s.pins.ballast := by
  simp only [State.judgeSeeking, State.becomeStable]
  repeat' split
  all_goals simp

theorem State.judgeShowing_ballast (s : State) (i : Nat) : (s.judgeShowing i).pins.ballast = s.pins.ballast := by
  simp only [State.judgeShowing, State.restartWatch]
  repeat' split
  all_goals simp

theorem State.vsync_ballast (s : State) (e : SyncEdge) : (s.vsync e).pins.ballast = s.pins.ballast := by
  simp only [State.vsync, State.takeEdge, State.restartWatch]
  repeat' split
  all_goals simp [State.judgeSeeking_ballast, State.judgeShowing_ballast]

theorem State.muteLeadEnds_ballast (s : State) : s.muteLeadEnds.pins.ballast = s.pins.ballast := by
  unfold State.muteLeadEnds
  split <;> simp

theorem State.maskEnds_ballast (s : State) : s.maskEnds.pins.ballast = s.pins.ballast := by
  simp only [State.maskEnds]
  repeat' split
  all_goals simp

theorem State.seekEnds_ballast (s : State) : s.seekEnds.pins.ballast = s.pins.ballast := by
  simp only [State.seekEnds]
  repeat' split
  all_goals simp

theorem State.confirmEnds_ballast (s : State) : s.confirmEnds.pins.ballast = s.pins.ballast := by
  unfold State.confirmEnds
  split <;> simp

theorem State.watchEnds_ballast (s : State) : s.watchEnds.pins.ballast = s.pins.ballast := by
  unfold State.watchEnds
  split <;> simp

theorem State.serveSource_ballast (s : State) (started : Bool) :
    (s.serveSource started).pins.ballast = s.pins.ballast := by
  have owed : ∀ (t : State) (o : Option Nat), (t.setOwed o).pins = t.pins :=
    fun t o => t.setOwed_untouched o .pins (by decide)
  simp only [State.serveSource, State.issueSource]
  repeat' split
  all_goals simp [owed]

@[simp] theorem State.startPoll_ballast (s : State) (n : Nat) : (s.startPoll n).pins.ballast = s.pins.ballast := rfl

@[simp] theorem State.endSlot_ballast (s : State) (n : Nat) : (s.endSlot n).pins.ballast = s.pins.ballast := by
  unfold State.endSlot
  split <;> rfl

@[simp] theorem State.startCycle_ballast (s : State) : s.startCycle.pins.ballast = s.pins.ballast := by
  simp [State.startCycle]

@[simp] theorem State.slotFails_ballast (s : State) (n : Nat) (bad : Bool) :
    (s.slotFails n bad).pins.ballast = s.pins.ballast := by simp [State.slotFails]

@[simp] theorem State.goodReply_ballast (s : State) (n : Nat) (r : Reply) :
    (s.goodReply n r).pins.ballast = s.pins.ballast := by
  simp only [State.goodReply, State.plateRequest]
  repeat' split
  all_goals simp

theorem State.busByte_ballast (s : State) (b : Byte) : (s.busByte b).pins.ballast = s.pins.ballast := by
  simp only [State.busByte, State.judgeReply]
  repeat' split
  all_goals simp

theorem State.pollEnds_ballast (s : State) : s.pollEnds.pins.ballast = s.pins.ballast := by
  unfold State.pollEnds
  split <;> rfl

theorem State.windowEnds_ballast (s : State) : s.windowEnds.pins.ballast = s.pins.ballast := by
  unfold State.windowEnds
  split <;> simp

theorem State.cycleGapEnds_ballast (s : State) : s.cycleGapEnds.pins.ballast = s.pins.ballast := by
  unfold State.cycleGapEnds
  split <;> simp

/-! ## The lamp controller -/

/-- R37 to R39: settling a coherent lamp establishes the invariant, whatever the outputs were. -/
theorem State.settleLamp_lampFollows {s : State} (h : s.lamp.coherent) (old : Lamp) : (s.settleLamp old).lampFollows := by
  rw [State.lampFollows_iff, State.settleLamp_lamp, State.settleLamp_account, State.settleLamp_pins]
  exact ⟨h, rfl, rfl⟩

/-- R24: an attempt that starts on demand and not at HOT. -/
theorem State.startAttempt_lampFollows {s : State} (demand : s.lamp.demand = true) (cool : s.lamp.temp ≠ .hot)
    (first : Bool) : (s.startAttempt first).lampFollows := by
  refine State.settleLamp_lampFollows ?_ _
  rw [State.chargeStrike_lamp]
  exact ⟨demand, fun hot => (cool hot).elim⟩

theorem State.blockCause_ne_none (s : State) : s.blockCause ≠ .none := by
  unfold State.blockCause
  split <;> decide

/-- R33: a strike on demand that is held. -/
theorem State.holdStrike_lampFollows {s : State} (demand : s.lamp.demand = true) {cause : Blocked} (held : cause ≠ .none) :
    (s.holdStrike cause).lampFollows := by
  have settled := State.settleLamp_lampFollows
    (s := { s with lamp := { s.lamp with state := .off cause, litHold := none } })
    ⟨by simpa [LampState.demanded, demand] using held, fun _ => rfl⟩ s.lamp
  exact (State.raiseIf_untouched _ _ _).lampFollows rfl settled

/-- R23, R33: a strike on demand passes the gate or is held, and in either case the invariant holds. -/
theorem State.gate_lampFollows {s : State} (demand : s.lamp.demand = true) (first : Bool) :
    (if s.gatePasses then s.startAttempt first else s.holdStrike s.blockCause).lampFollows := by
  split
  · rename_i passes
    exact State.startAttempt_lampFollows demand ((State.gatePasses_iff s).mp passes).1 first
  · exact State.holdStrike_lampFollows demand s.blockCause_ne_none

theorem State.strikeOrHold_lampFollows {s : State} (demand : s.lamp.demand = true) : s.strikeOrHold.lampFollows :=
  State.gate_lampFollows demand true

theorem State.recheckStrike_lampFollows {s : State} (h : s.lampFollows) : s.recheckStrike.lampFollows := by
  unfold State.recheckStrike
  split
  · exact h
  · rename_i b held off
    have demand : s.lamp.demand = true := by
      rw [h.coherent.1, off]
      simpa [LampState.demanded] using held
    split
    · rename_i passes
      exact State.startAttempt_lampFollows demand ((State.gatePasses_iff s).mp passes).1 _
    · split
      · exact h
      · exact State.holdStrike_lampFollows demand s.blockCause_ne_none
  · exact h

/-- R10, R33: a rewritten account, once handed over, has the level and the outputs follow its status. -/
theorem State.handAccount_lampFollows {s t : State} (h : s.lampFollows) (lamp : t.lamp = s.lamp) (pins : t.pins = s.pins) :
    (t.handAccount s.account).lampFollows := by
  unfold State.handAccount
  split
  · rename_i same
    exact h.of_same lamp same.1.symm (congrArg _ pins)
  · refine State.recheckStrike_lampFollows (State.settleLamp_lampFollows ?_ _)
    rw [lamp]
    exact h.coherent

/-- R30, R31, R36: a lamp put out cools with its strike pending as demand stands, whatever state it was in. -/
theorem State.extinguish_lampFollows (s : State) (outage : Bool) : (s.extinguish outage).lampFollows := by
  refine State.settleLamp_lampFollows ?_ _
  simp only [State.endBurn, State.queueKind_lamp]
  exact ⟨rfl, fun _ => rfl⟩

/-- R20, R22: a change of demand in each lamp state. -/
theorem State.setDemand_lampFollows {s : State} (h : s.lampFollows) (on : Bool) : (s.setDemand on).lampFollows := by
  obtain ⟨demand, _⟩ := h.coherent
  simp only [State.setDemand]
  split
  · exact h
  · rename_i change
    split
    · exact State.strikeOrHold_lampFollows rfl
    · exact State.settleLamp_lampFollows ⟨rfl, fun _ => rfl⟩ _
    · exact State.settleLamp_lampFollows ⟨rfl, fun _ => rfl⟩ _
    · exact State.settleLamp_lampFollows ⟨rfl, fun _ => rfl⟩ _
    · rename_i failed
      rw [failed] at demand
      exact (change demand).elim
    · rename_i notOff notCooling _
      exact (change (demand.trans (LampState.demanded_of_other notOff notCooling))).elim
    · exact State.extinguish_lampFollows _ _

theorem State.setRequested_lampFollows {s : State} (h : s.lampFollows) (level : LampLevel) :
    (s.setRequested level).lampFollows := by
  unfold State.setRequested
  split
  · exact h
  · exact State.settleLamp_lampFollows (s := { s with lamp := { s.lamp with requested := level } }) h.coherent _

/-- R34 to R36: HOT puts out every burn and strike; at any other temperature state the lamp stays coherent. -/
theorem State.setTemp_lampFollows {s : State} (h : s.lampFollows) (t : TempState) : (s.setTemp t).lampFollows := by
  by_cases same : s.lamp.temp = t
  · rw [State.setTemp_same same]
    exact h
  · rw [State.setTemp_eq same]
    split
    · exact State.extinguish_lampFollows _ _
    · rename_i calm
      have coherent : Lamp.coherent { s.lamp with temp := t } :=
        ⟨h.coherent.1, fun hot => by simpa [show t = .hot from hot] using calm⟩
      exact State.recheckStrike_lampFollows (State.settleLamp_lampFollows coherent _)

/-- R26: a series that goes on or has failed still has its demand, and a strike is never under way at HOT. -/
theorem State.strikeWindowEnds_lampFollows {s : State} (h : s.lampFollows) : s.strikeWindowEnds.lampFollows := by
  unfold State.strikeWindowEnds
  split
  · rename_i attempt
    obtain ⟨demand, cool⟩ := h.coherent
    rw [attempt] at demand cool
    have notHot : s.lamp.temp = .hot → (LampState.striking .retryWait).burning = false := fun hot => (by cases cool hot)
    dsimp only
    split
    · exact State.settleLamp_lampFollows ⟨demand, notHot⟩ _
    · exact State.settleLamp_lampFollows ⟨demand, fun _ => rfl⟩ _
  · exact h

theorem State.retryWaitEnds_lampFollows {s : State} (h : s.lampFollows) : s.retryWaitEnds.lampFollows := by
  by_cases waiting : s.lamp.state = .striking .retryWait
  · have demand : s.lamp.demand = true := by rw [h.coherent.1, waiting]; rfl
    rw [State.retryWaitEnds_waiting waiting]
    exact State.gate_lampFollows (s := s.reach s.lamp.timerEnd) demand false
  · rw [State.retryWaitEnds_none waiting]
    exact h

theorem State.warmUpEnds_lampFollows {s : State} (h : s.lampFollows) : s.warmUpEnds.lampFollows := by
  unfold State.warmUpEnds
  split
  · rename_i warming
    obtain ⟨demand, cool⟩ := h.coherent
    rw [warming] at demand cool
    exact State.settleLamp_lampFollows ⟨demand, fun hot => by cases cool hot⟩ _
  · exact h

/-- R32: a cooldown ends with demand off, or in the strike that was pending. -/
theorem State.cooldownEnds_lampFollows {s : State} (h : s.lampFollows) : s.cooldownEnds.lampFollows := by
  unfold State.cooldownEnds
  split
  · rename_i strike cooling _
    have demand : s.lamp.demand = strike := by rw [h.coherent.1, cooling]; rfl
    cases strike with
    | true =>
      refine State.strikeOrHold_lampFollows ?_
      rw [State.settleLamp_lamp]
      exact demand
    | false => exact State.settleLamp_lampFollows ⟨demand, fun _ => rfl⟩ _
  · exact h

/-- R25: a confirmed attempt leaves STRIKING, which nothing is in at HOT, for a state that has its demand too. -/
theorem State.litConfirms_lampFollows {s : State} (h : s.lampFollows) : s.litConfirms.lampFollows := by
  unfold State.litConfirms
  split
  · rename_i attempt _
    obtain ⟨demand, cool⟩ := h.coherent
    rw [attempt] at demand cool
    split
    · rename_i rise _ _
      have lamp : (s.reach (rise + litHold)).countIgnition.lamp = s.lamp :=
        State.countIgnition_untouched _ .lamp (by decide)
      refine State.settleLamp_lampFollows ?_ _
      rw [lamp]
      refine ⟨?_, fun hot => by cases cool hot⟩
      dsimp only
      split <;> exact demand
    · exact h
  · exact h

theorem State.outageFalls_lampFollows {s : State} (h : s.lampFollows) : s.outageFalls.lampFollows := by
  unfold State.outageFalls
  split
  · split
    · exact State.extinguish_lampFollows _ _
    · exact h
  · exact h

/-- R25, R31: LIT is an input; watching it moves the 100 ms alone. -/
theorem State.litChanges_lampFollows {s : State} (h : s.lampFollows) (high : Bool) : (s.litChanges high).lampFollows := by
  simp only [State.litChanges]
  split
  · exact h
  · split <;> exact h

/-- R3: a charged second that changes the status hands it over. -/
theorem State.chargeSecond_lampFollows {s : State} (h : s.lampFollows) : s.chargeSecond.lampFollows := by
  unfold State.chargeSecond
  split
  · obtain ⟨t, charged⟩ : ∃ t : State, t = State.deriveStatus
        { s with account := s.account.chargeSecond (secondWeight s.lamp.state s.pins.level) } := ⟨_, rfl⟩
    have handed : (t.handAccount s.account).lampFollows :=
      State.handAccount_lampFollows h (by rw [charged, State.deriveStatus_lamp]) (by rw [charged, State.deriveStatus_pins])
    rw [← charged]
    unfold State.checkpointIfDue
    split
    · exact (State.queueKind_untouched _ _).lampFollows rfl
        (handed.of_same (t := { t.handAccount s.account with account := _ }) rfl rfl rfl)
    · exact handed
  · exact h

theorem State.accountSecond_lampFollows {s : State} (h : s.lampFollows) : s.accountSecond.lampFollows :=
  (State.chargeSecond_lampFollows h).of_same rfl rfl rfl

/-! ## The policy unit and the session controller -/

theorem State.deriveEffective_lampFollows {s : State} (h : s.lampFollows) (q : Bool) :
    (s.deriveEffective q).lampFollows := by
  unfold State.deriveEffective
  split
  · exact h
  · exact State.recheckStrike_lampFollows ((State.raiseIf_untouched _ _ _).lampFollows rfl
      ((s.policy_update_untouched _).lampFollows rfl h))

theorem State.setOverride_lampFollows {s : State} (h : s.lampFollows) (o : Option Override) :
    (s.setOverride o).lampFollows :=
  State.deriveEffective_lampFollows ((s.policy_update_untouched _).lampFollows rfl h) _

theorem State.setBase_lampFollows {s : State} (h : s.lampFollows) (level : Level) (q : Bool) :
    (s.setBase level q).lampFollows :=
  State.deriveEffective_lampFollows ((s.policy_update_untouched _).lampFollows rfl h) _

theorem State.handOver_lampFollows {s : State} (h : s.lampFollows) (q : Bool) : (s.handOver q).lampFollows :=
  (State.setBridgeMute_untouched _ _).lampFollows_of_ballast rfl (State.settleMute_ballast _)
    (State.setDemand_lampFollows (State.setRequested_lampFollows (State.setBase_lampFollows h _ _) _) _)

theorem State.putSession_lampFollows {s : State} (h : s.lampFollows) (r : Session) : (s.putSession r).lampFollows :=
  (State.raiseIf_untouched _ _ _).lampFollows rfl
    (State.handOver_lampFollows ((s.session_update_untouched r).lampFollows rfl h) _)

theorem State.runner_lampFollows {s : State} (h : s.lampFollows) (ev : RunnerEvent) : (s.runner ev).lampFollows :=
  (State.raiseIf_untouched _ _ _).lampFollows rfl
    ((State.serveSource_untouched _ _).lampFollows_of_ballast rfl (State.serveSource_ballast _ _)
      (State.handOver_lampFollows ((s.session_update_untouched _).lampFollows rfl h) _))

theorem State.minuteEvent_lampFollows {s : State} (h : s.lampFollows) (wrapped : Bool) :
    (s.minuteEvent wrapped).lampFollows :=
  State.runner_lampFollows ((s.recompute_untouched false).lampFollows rfl h) _

theorem State.takeMinute_lampFollows {s : State} (h : s.lampFollows) (wrapped first : Bool) :
    (s.takeMinute wrapped first).lampFollows := by
  unfold State.takeMinute
  split
  · exact h
  · split
    · exact State.minuteEvent_lampFollows (State.setOverride_lampFollows h _) _
    · exact State.setOverride_lampFollows (State.minuteEvent_lampFollows h _) _

theorem State.secondPasses_lampFollows {s : State} (h : s.lampFollows) (chargeFirst countdownFirst : Bool) :
    (s.secondPasses chargeFirst countdownFirst).lampFollows := by
  have clock := s.advanceClock_untouched.lampFollows rfl h
  simp only [State.secondPasses]
  split
  · exact State.accountSecond_lampFollows clock
  · split
    · exact State.takeMinute_lampFollows (State.accountSecond_lampFollows clock) _ _
    · exact State.accountSecond_lampFollows (State.takeMinute_lampFollows clock _ _)

theorem State.changeTable_lampFollows {s : State} (h : s.lampFollows) (table : List Entry) (replaced : Option Nat) :
    (s.changeTable table replaced).lampFollows := by
  have stored := ((s.table_update_untouched table).andThen (State.raise_untouched _ .schedule)
    (C := [.table, .notice .schedule, .attention, .store]) rfl rfl).andThen (State.queueKind_untouched _ .schedule)
    (C := [.table, .notice .schedule, .attention, .store]) rfl rfl
  exact State.runner_lampFollows ((State.recompute_untouched _ false).lampFollows rfl (stored.lampFollows rfl h)) _

/-! ## The requests -/

/-- R12, R13: a service operation hands over whatever it changes of the status. -/
theorem State.serviceAccount_lampFollows {s : State} (h : s.lampFollows) (a : Account) : (s.serviceAccount a).lampFollows :=
  State.handAccount_lampFollows h (by simp) (by simp)

theorem answerSession_lampFollows {s : State} (h : s.lampFollows) (r : Session × Status) :
    (answerSession s r).state.lampFollows := by
  simp only [answerSession]
  split
  · split
    · exact h
    · exact State.putSession_lampFollows h _
  · exact h

theorem State.settingWritten_lampFollows {s : State} (h : s.lampFollows) (i : SettingId) :
    (s.settingWritten i).lampFollows := by
  cases i with
  | lifeLimit | warningMargin =>
    exact State.handAccount_lampFollows h s.deriveStatus_lamp s.deriveStatus_pins
  | missLimit => exact s.missLimitWritten_untouched.lampFollows rfl h
  | panelWidth | panelHeight => exact (s.putGeometry_untouched _).lampFollows rfl h
  | tiltGain | tiltAveraging => exact s.tiltSettingWritten_untouched.lampFollows rfl h
  | idleLevel | walkupLevel => exact State.setBase_lampFollows h _ _
  | rate l => exact (s.rateWritten_untouched l).lampFollows rfl h
  | mask l => exact (s.settleLine_untouched l).lampFollows rfl h
  | _ => exact h

theorem State.putEntry_lampFollows {s : State} (h : s.lampFollows) (e : Entry) : (s.putEntry e).state.lampFollows := by
  unfold State.putEntry
  split
  · exact h
  · dsimp only
    split
    · exact h
    · exact State.changeTable_lampFollows h _ _

/-- Every owner of a request keeps the invariant. -/
theorem Owned.lampFollows {l : Link} {own : State → Answer} (owned : Owned l own) {s : State} (h : s.lampFollows) :
    (own s).state.lampFollows := by
  cases owned with
  | roomRead | countersRead | lampRead | sourceRead | plateRead | lockoutRead | clockRead | entryList | occurrenceRead
  | countersClear | restart => exact h
  | noticeRead => simpa [ownNoticeRead, State.lampFollows] using h
  | sessionStart | sessionEnd | sessionExtend | lampLevel => exact answerSession_lampFollows h _
  | lampReplaced =>
    unfold ownLampReplaced
    split
    · exact State.serviceAccount_lampFollows h _
    · exact h
  | accountSet hours =>
    unfold ownAccountSet
    split
    · exact State.serviceAccount_lampFollows h _
    · exact h
  | sourceSelect plate =>
    exact (s.requestSwitch_untouched _ _).lampFollows_of_ballast rfl (s.requestSwitch_ballast _ _) h
  | pictureMute onOff =>
    unfold ownPictureMute
    split
    · exact h
    · exact (State.settleMute_untouched _).lampFollows_of_ballast rfl (State.settleMute_ballast _)
        ((s.switch_update_untouched _).lampFollows rfl h)
  | geometrySet mode v hor trim =>
    unfold ownGeometrySet
    split
    · exact h
    · exact (s.putGeometry_untouched _).lampFollows rfl h
  | geometryTrim => exact (s.putGeometry_untouched _).lampFollows rfl h
  | presetStore =>
    exact (State.queueKind_untouched _ _).lampFollows rfl ((s.geometry_update_untouched _).lampFollows rfl h)
  | geometryRead plate =>
    cases plate with
    | none => exact h
    | some plate =>
      simp only [ownGeometryRead]
      split <;> exact h
  | tiltReport tilt => exact (s.putGeometry_untouched _).lampFollows rfl h
  | engineReport temperature =>
    unfold ownEngineReport
    split
    · exact h
    · exact State.setTemp_lampFollows h _
  | overrideSet level minutes =>
    unfold ownOverrideSet
    split
    · exact h
    · split
      · exact h
      · exact State.setOverride_lampFollows h _
  | overrideClear => exact State.setOverride_lampFollows h _
  | clockSet date hour minute =>
    unfold ownClockSet
    split
    · exact h
    · rename_i c _
      have set := (s.clock_update_untouched c).andThen (State.raise_untouched _ .clock)
        (C := [.clock, .notice .clock, .attention]) rfl rfl
      exact State.runner_lampFollows ((State.recompute_untouched _ _).lampFollows rfl (set.lampFollows rfl h)) _
  | entryPut raw =>
    unfold ownEntryPut
    split
    · exact h
    · split
      · exact State.putEntry_lampFollows h _
      · exact h
  | entryDelete id =>
    unfold ownEntryDelete
    split
    · exact State.changeTable_lampFollows h _ _
    · exact h
  | entryRead id =>
    unfold ownEntryRead
    split <;> exact h
  | scheduleClear =>
    unfold ownScheduleClear
    split
    · exact h
    · exact State.changeTable_lampFollows h _ _
  | settingWrite id value =>
    unfold ownSettingWrite
    split
    · exact h
    · exact (State.queueKind_untouched _ _).lampFollows rfl
        (State.settingWritten_lampFollows ((s.settings_update_untouched _).lampFollows rfl h) _)
  | settingRead id =>
    unfold ownSettingRead
    split <;> exact h

theorem lampFollows_keptByRequests : KeptByRequests State.lampFollows where
  line h := h.lampFollows rfl
  owner _ owned := owned.lampFollows

/-! ## The store and the supply -/

/-- What the completion of a write can touch (R179). -/
def writeBlocks : List Block := [.time, .store, .notice .store, .attention]

theorem State.completeWrite_untouched (s : State) (readBack : SlotLeft) :
    Untouched writeBlocks s (s.completeWrite readBack) := by
  have due := fun (till : Nat) (x : Store) => (s.reach_untouched till).andThen (State.store_update_untouched _ x)
    (C := writeBlocks) rfl rfl
  simp only [State.completeWrite]
  split
  · exact .refl _ _
  · split
    · exact (due _ _).andThen (State.startWrite_untouched _) rfl rfl
    · split
      · exact ((due _ _).andThen (State.raise_untouched _ _) (C := writeBlocks) rfl rfl).andThen
          (State.startWrite_untouched _) rfl rfl
      · exact due _ _

/-- R180: the supply warning moves the checkpoint count and the store alone. -/
theorem State.warnSupply_lampFollows {s : State} (h : s.lampFollows) : s.warnSupply.lampFollows :=
  (State.startWrite_untouched _).lampFollows rfl
    (h.of_same (t := { s with supply := _, account := _, store := _ }) rfl rfl rfl)

theorem State.watchSupply_lampFollows {s : State} (h : s.lampFollows) : s.watchSupply.lampFollows := by
  unfold State.watchSupply
  split
  · exact State.warnSupply_lampFollows h
  · exact h

/-! ## Resets and start-up -/

/-- R42: the lamp cools after any reset, with demand off, the temperature state UNKNOWN and FAN on. -/
theorem State.afterReset_lampFollows (s : State) (cause : Cause) (cut : SlotLeft) : (s.afterReset cause cut).lampFollows :=
  (State.lampFollows_iff _).mpr ⟨⟨rfl, fun _ => rfl⟩, rfl, rfl⟩

/-- R37, R184: once the records are loaded, level and outputs are derived from the account they give. -/
theorem State.backed_lampFollows {s : State} (h : s.lampFollows) : s.backed.lampFollows := by
  have lamp := s.backed_lamp
  have pins : s.backed.pins = s.preset.deriveLoaded.pins := s.preset.deriveLoaded.checked_untouched .pins (by decide)
  have derived : s.backed.lamp = s.preset.deriveLoaded.lamp := s.preset.deriveLoaded.checked_untouched .lamp (by decide)
  refine (State.lampFollows_iff _).mpr ⟨?_, ?_, ?_⟩
  · rw [lamp]
    exact h.coherent
  · rw [lamp]
  · rw [pins, derived]
    rfl

theorem State.startUp_lampFollows {s : State} (h : s.lampFollows) : s.startUp.lampFollows := by
  unfold State.startUp
  split
  · exact h
  · rw [State.backed_eq]
    have recomputed := (s.backed.recompute_untouched true).lampFollows rfl (State.backed_lampFollows h)
    have evaluated : s.backed.evaluateSession.lampFollows := State.runner_lampFollows recomputed _
    have watched := State.watchSupply_lampFollows ((State.release_untouched _).lampFollows rfl evaluated)
    exact (State.startCycle_untouched _).lampFollows_of_ballast rfl (State.startCycle_ballast _)
      ((State.startWrite_untouched _).lampFollows rfl watched)

theorem State.responseSent_lampFollows {s : State} (h : s.lampFollows) (l : Link) (cut : SlotLeft) :
    (s.responseSent l cut).lampFollows := by
  unfold State.responseSent
  split
  · split
    · exact State.afterReset_lampFollows _ _ _
    · exact (s.finishResponse_untouched l).lampFollows rfl h
  · exact h

theorem State.silenceFound_lampFollows {s : State} (h : s.lampFollows) : s.silenceFound.lampFollows := by
  unfold State.silenceFound
  split
  · exact h
  · exact State.setTemp_lampFollows ((s.reach_untouched _).lampFollows rfl h) .unknown

/-! ## Every step -/

theorem exec_lampFollows (c : Instr) {s t : State} (h : s.lampFollows) (taken : exec c s = .next t) : t.lampFollows := by
  cases c
  case powerOn cut backup => cases taken; exact State.afterReset_lampFollows _ _ _
  case resetPin cut => cases taken; exact State.afterReset_lampFollows _ _ _
  case supplyDrop cut => cases taken; exact State.afterReset_lampFollows _ _ _
  case startUpComplete => cases taken; exact State.startUp_lampFollows h
  case receiveByte l b => cases taken; exact (s.byteArrives_untouched l b).lampFollows rfl h
  case gap l => cases taken; exact (s.gapExpires_untouched l).lampFollows rfl h
  case frameTake l => cases taken; exact lampFollows_keptByRequests.takeNext l h
  case responseSent l cut => cases taken; exact State.responseSent_lampFollows h l cut
  case engineSilence => cases taken; exact State.silenceFound_lampFollows h
  case secondEvent => cases taken; exact State.secondPasses_lampFollows h _ _
  case litChange high dt =>
    cases taken
    exact State.litChanges_lampFollows ((s.elapse_untouched dt).lampFollows rfl h) high
  case litConfirmed => cases taken; exact State.litConfirms_lampFollows h
  case outage => cases taken; exact State.outageFalls_lampFollows h
  case strikeWindowExpiry => cases taken; exact State.strikeWindowEnds_lampFollows h
  case retryWaitExpiry => cases taken; exact State.retryWaitEnds_lampFollows h
  case warmUpExpiry => cases taken; exact State.warmUpEnds_lampFollows h
  case cooldownExpiry => cases taken; exact State.cooldownEnds_lampFollows h
  case pollSent => cases taken; exact s.pollEnds_untouched.lampFollows_of_ballast rfl s.pollEnds_ballast h
  case busByteReceived b => cases taken; exact (s.busByte_untouched b).lampFollows_of_ballast rfl (s.busByte_ballast b) h
  case replyWindowExpiry => cases taken; exact s.windowEnds_untouched.lampFollows_of_ballast rfl s.windowEnds_ballast h
  case cycleGapExpiry => cases taken; exact s.cycleGapEnds_untouched.lampFollows_of_ballast rfl s.cycleGapEnds_ballast h
  case vsyncEdge edge dt =>
    cases taken
    exact ((s.elapse dt).vsync_untouched edge).lampFollows_of_ballast rfl (State.vsync_ballast _ edge)
      ((s.elapse_untouched dt).lampFollows rfl h)
  case muteLeadExpiry => cases taken; exact s.muteLeadEnds_untouched.lampFollows_of_ballast rfl s.muteLeadEnds_ballast h
  case maskExpiry => cases taken; exact s.maskEnds_untouched.lampFollows_of_ballast rfl s.maskEnds_ballast h
  case seekWindowExpiry => cases taken; exact s.seekEnds_untouched.lampFollows_of_ballast rfl s.seekEnds_ballast h
  case confirmDelayExpiry => cases taken; exact s.confirmEnds_untouched.lampFollows_of_ballast rfl s.confirmEnds_ballast h
  case syncWatchExpiry => cases taken; exact s.watchEnds_untouched.lampFollows_of_ballast rfl s.watchEnds_ballast h
  case tiltSilenceExpiry => cases taken; exact s.tiltGoesSilent_untouched.lampFollows rfl h
  case writeComplete readBack => cases taken; exact (s.completeWrite_untouched readBack).lampFollows rfl h
  case supplyWarning =>
    cases taken
    split
    · exact State.warnSupply_lampFollows (s := { s with supply := _ }) h
    · exact h
  case supplyRecover => cases taken; exact h
  all_goals
    rw [exec_request rfl] at taken
    cases taken
    exact lampFollows_keptByRequests.takeRequest _ _ _ h

/-- Settles O5: every operation of the lamp controller leaves a coherent lamp and settles its outputs, and every other one
leaves lamp, status and ballast outputs alone. -/
theorem lampOutputsFollowTheLampState : Obligations.LampOutputsFollowTheLampState :=
  keptByEveryStep_of_exec (fun frame => frame.lampFollows rfl) exec_lampFollows

end Sys2Proof.Machine
end

section
/-! The timers of a link: the gap in a frame, the end of a response, the engine's silence (R163, R166, R174, R175). -/

namespace Sys2Proof.Machine

open Sys2Proof.Config

@[simp] theorem State.link_reach (s : State) (d : Nat) (l : Link) : (s.reach d).link l = s.link l := by cases l <;> rfl

theorem OtherLinksSame.trans {l : Link} {s t u : State} (h : OtherLinksSame l s t) (k : OtherLinksSame l t u) :
    OtherLinksSame l s u := fun m other => (k m other).trans (h m other)

theorem State.reach_otherLinks (s : State) (d : Nat) (l : Link) : OtherLinksSame l s (s.reach d) :=
  fun k _ => s.link_reach d k

/-- A write of one link that keeps its pending set and its attention line touches the interface alone. -/
theorem State.setLink_untouched_links {s : State} {l : Link} {x : LinkState} (notices : x.notices = (s.link l).notices)
    (attention : x.attention = (s.link l).attention) : Untouched [.links] s (s.setLink l x) := by
  intro b outside
  cases b with
  | attention =>
    intro k
    by_cases same : k = l
    · rw [same, State.link_setLink_same, attention]
    · rw [State.link_setLink_other _ _ _ _ same]
  | links => exact (outside (by simp)).elim
  | _ => exact State.setLink_untouched_of notices _ (by simp)

/-! ## The gap (R163) -/

/-- What the abandoning of a frame leaves, its count aside. -/
def State.abandoned (s : State) (l : Link) : State :=
  (s.reach ((s.link l).lastByteAt + gapLimit)).setLink l { s.link l with collecting := none }

theorem State.gapExpires_collecting {s : State} {l : Link} {bytes : List Byte}
    (collecting : (s.link l).collecting = some bytes) :
    s.gapExpires l = (s.abandoned l).countError l .gap := by
  simp [State.gapExpires, State.abandoned, collecting]

theorem State.gapExpires_none {s : State} {l : Link} (hunt : (s.link l).collecting = none) : s.gapExpires l = s := by
  simp [State.gapExpires, hunt]

theorem State.abandoned_untouched (s : State) (l : Link) : Untouched [.time, .links] s (s.abandoned l) :=
  (s.reach_untouched _).andThen (State.setLink_untouched_links (by simp) (by simp)) rfl rfl

/-! ## The end of a response (R161, R166, R175) -/

/-- R166: a link as its response has been sent. -/
def LinkState.answeredOut (x : LinkState) : LinkState := { x with inHand := none, response := [], answering := .ready }

/-- R161: a rate that waits is applied once a link is READY. -/
theorem LinkState.applyRate_ready {x : LinkState} (ready : x.answering = .ready) (rate : Nat) :
    x.applyRate rate =
      if x.rateDue then { x with rate := rate, rateDue := false, collecting := none, frames := [] } else x := by
  simp [LinkState.applyRate, ready]

theorem LinkState.applyRate_attention (x : LinkState) (rate : Nat) : (x.applyRate rate).attention = x.attention := by
  unfold LinkState.applyRate
  split <;> rfl

theorem State.finishResponse_eq (s : State) (l : Link) :
    s.finishResponse l =
      (s.reach (s.link l).sendEnd).setLink l ((s.link l).answeredOut.applyRate (s.settings.rateOf l)) := by
  simp [State.finishResponse, LinkState.answeredOut]

theorem State.finishResponse_untouched_links (s : State) (l : Link) : Untouched [.time, .links] s (s.finishResponse l) := by
  rw [State.finishResponse_eq]
  have notices := (s.link l).answeredOut.applyRate_notices (s.settings.rateOf l)
  have attention := (s.link l).answeredOut.applyRate_attention (s.settings.rateOf l)
  exact (s.reach_untouched _).andThen
    (State.setLink_untouched_links (by simpa [LinkState.answeredOut] using notices)
      (by simpa [LinkState.answeredOut] using attention)) rfl rfl

theorem State.responseSent_idle {s : State} {l : Link} (idle : (s.link l).answering ≠ .sending) (cut : SlotLeft) :
    s.responseSent l cut = s := by
  unfold State.responseSent
  split
  · rename_i sending; exact (idle sending).elim
  · rfl

theorem State.responseSent_finishes {s : State} {l : Link} (sending : (s.link l).answering = .sending)
    (stays : s.restartArmed = false ∨ l ≠ .campus) (cut : SlotLeft) : s.responseSent l cut = s.finishResponse l := by
  have no : (s.restartArmed && l == .campus) = false := by rcases stays with h | h <;> simp [h]
  simp [State.responseSent, sending, no]

theorem State.responseSent_resets {s : State} (sending : s.campus.answering = .sending) (armed : s.restartArmed = true)
    (cut : SlotLeft) : s.responseSent .campus cut = (s.reach s.campus.sendEnd).afterReset .restart cut := by
  simp [State.responseSent, State.link, sending, armed]

/-! ## The engine's silence (R35, R174) -/

theorem State.silence_update_untouched (s : State) (x : Silence) : Untouched [.silence] s { s with silence := x } := by
  intro b outside
  cases b with
  | silence => exact (outside (by simp)).elim
  | links | notice _ | attention => intro l; cases l <;> rfl
  | _ => rfl

theorem State.silenceFound_none {s : State} (stopped : s.silence.since = none) : s.silenceFound = s := by
  simp [State.silenceFound, stopped]

/-- R36: a temperature state other than HOT ends no burn. -/
theorem State.setTemp_untouched_cool (s : State) {t : TempState} (cool : t ≠ .hot) :
    Untouched strikeBlocks s (s.setTemp t) := by
  by_cases same : s.lamp.temp = t
  · rw [State.setTemp_same same]
    exact .refl _ _
  · rw [State.setTemp_eq same, if_neg fun hot => cool hot.1]
    exact (s.tempTaken_untouched t).andThen (State.recheckStrike_untouched _) rfl rfl

/-- R35, R174: what the finding of the silence leaves. -/
theorem State.silenceFound_running {s : State} {since : Nat} (running : s.silence.since = some since) :
    let t := s.silenceFound
    t.now = max s.now (since + 10000000) ∧ t.silence = { since := none, flag := true } ∧ t.lamp.temp = .unknown
      ∧ (s.lamp.temp = .unknown → Untouched [.time, .silence] s t) ∧ (s.lamp.temp ≠ .unknown → Pending .lamp t)
      ∧ Untouched (.time :: .silence :: strikeBlocks) s t := by
  obtain ⟨u, taken⟩ : ∃ u, u = (s.reach (since + silenceTime)).setTemp .unknown := ⟨_, rfl⟩
  have found : s.silenceFound = { u with silence := { since := none, flag := true } } := by
    rw [taken]
    simp [State.silenceFound, running]
  have due := s.reach_untouched (since + silenceTime)
  have heated : Untouched strikeBlocks (s.reach (since + silenceTime)) u := by
    rw [taken]
    exact State.setTemp_untouched_cool _ (by decide)
  have flagged := u.silence_update_untouched { since := none, flag := true }
  rw [← found] at flagged
  refine ⟨?_, ?_, ?_, fun same => ?_, fun change => ?_,
    (due.andThen heated (C := .time :: .silence :: strikeBlocks) rfl rfl).andThen flagged rfl rfl⟩
  · exact (flagged .time (by decide)).trans (heated .time (by decide))
  · rw [found]
  · rw [found, taken]
    exact State.setTemp_temp _ _
  · have kept : u = s.reach (since + silenceTime) := taken.trans (State.setTemp_same same)
    rw [kept] at flagged
    exact due.andThen flagged rfl rfl
  · have raised : Pending .lamp u := by
      rw [taken]
      exact State.setTemp_raises change
    rw [found]
    exact KeepsNotices.ofLinks (fun l => by cases l <;> rfl) _ raised

/-- Settles O19: each timer by the one event it drives, running or not. -/
theorem linkTimersExpire : Obligations.LinkTimersExpire := by
  refine ⟨fun l s => ⟨fun bytes collecting => ?_, fun hunt => congrArg _ (State.gapExpires_none hunt)⟩,
    fun l cut s => ⟨fun idle => congrArg _ (State.responseSent_idle idle cut), fun sending stays => ?_, ?_⟩,
    fun s => ⟨fun since running => ?_, fun stopped => congrArg _ (State.silenceFound_none stopped)⟩⟩
  · have counted := (s.abandoned l).countError_counted l .gap
    have abandoned : (s.abandoned l).link l = { s.link l with collecting := none } := State.link_setLink_same _ _ _
    rw [abandoned] at counted
    refine ⟨_, congrArg Host.Outcome.next (State.gapExpires_collecting collecting), by simp [State.abandoned, gapLimit],
      counted, ?_, ?_⟩
    · exact ((s.reach_otherLinks _ l).trans (State.setLink_otherLinks _ _ _)).trans (State.countError_otherLinks _ _ _)
    · exact (s.abandoned_untouched l).andThen (State.countError_untouched _ _ _) rfl rfl
  · have finished := s.finishResponse_eq l
    refine ⟨_, congrArg Host.Outcome.next (State.responseSent_finishes sending stays cut), by simp [finished], ?_, ?_,
      s.finishResponse_untouched_links l⟩
    · rw [finished, State.link_setLink_same, LinkState.applyRate_ready rfl]
      rfl
    · rw [finished]
      exact (s.reach_otherLinks _ l).trans (State.setLink_otherLinks _ _ _)
  · rintro sending armed rfl
    exact ⟨_, congrArg Host.Outcome.next (State.responseSent_resets sending armed cut), rfl, rfl, rfl, rfl⟩
  · exact ⟨_, rfl, State.silenceFound_running running⟩

end Sys2Proof.Machine
end

section
/-! Frames of the owners of requests and of the timed events that never reach the room bus. -/

namespace Sys2Proof.Machine

open Sys2Proof.Config

/-! ## Owners of requests -/

theorem State.changeTable_untouched (s : State) (table : List Entry) (replaced : Option Nat) :
    Untouched (.table :: .finder :: .notice .schedule :: runnerBlocks) s (s.changeTable table replaced) :=
  ((((s.table_update_untouched table).andThen (State.raise_untouched _ _)
    (C := .table :: .finder :: .notice .schedule :: runnerBlocks) rfl rfl).andThen (State.queueKind_untouched _ _)
    (C := .table :: .finder :: .notice .schedule :: runnerBlocks) rfl rfl).andThen (State.recompute_untouched _ _)
    (C := .table :: .finder :: .notice .schedule :: runnerBlocks) rfl rfl).andThen (State.runner_untouched _ _) rfl rfl

theorem State.putSession_untouched (s : State) (r : Session) :
    Untouched (.session :: .notice .session :: handOverBlocks) s (s.putSession r) :=
  ((s.session_update_untouched r).andThen (State.handOver_untouched _ _)
    (C := .session :: .notice .session :: handOverBlocks) rfl rfl).andThen (State.raiseIf_untouched _ _ _) rfl rfl

theorem answerSession_untouched (s : State) (r : Session × Status) :
    Untouched (.session :: .notice .session :: handOverBlocks) s (answerSession s r).state := by
  simp only [answerSession]
  split
  · split
    · exact .refl _ _
    · exact s.putSession_untouched _
  · exact .refl _ _

theorem State.serviceAccount_untouched (s : State) (a : Account) : Untouched burnBlocks s (s.serviceAccount a) :=
  ((((s.account_update_untouched _).andThen (State.deriveStatus_untouched _) (C := burnBlocks) rfl rfl).andThen
    (State.raiseIf_untouched _ _ _) (C := burnBlocks) rfl rfl).andThen (State.queueKind_untouched _ _)
    (C := burnBlocks) rfl rfl).andThen (State.handAccount_untouched _ _) rfl rfl

theorem State.putEntry_untouched (s : State) (e : Entry) :
    Untouched (.table :: .finder :: .notice .schedule :: runnerBlocks) s (s.putEntry e).state := by
  unfold State.putEntry
  split
  · exact .refl _ _
  · dsimp only
    split
    · exact .refl _ _
    · exact s.changeTable_untouched _ _

/-! ## Timed events -/

theorem State.silenceFound_untouched (s : State) : Untouched (.time :: .silence :: burnBlocks) s s.silenceFound := by
  cases running : s.silence.since with
  | none =>
    rw [State.silenceFound_none running]
    exact .refl _ _
  | some since =>
    obtain ⟨_, _, _, _, _, frame⟩ := State.silenceFound_running running
    exact frame.mono rfl

/-- R121: what the passes of any second can touch. -/
theorem State.secondPasses_frame (s : State) (a b : Bool) :
    Untouched (.time :: .clock :: .notice .clock :: .finder :: .notice .schedule :: runnerBlocks) s (s.secondPasses a b) := by
  simp only [State.secondPasses]
  split
  · exact s.advanceClock_untouched.andThen (State.accountSecond_untouched _) rfl rfl
  · rename_i minute
    have passes : Untouched (.finder :: .notice .schedule :: runnerBlocks) s.advanceClock
        (if a = true then s.advanceClock.accountSecond.takeMinute (s.clock.tickKind == .wrap) b
         else (s.advanceClock.takeMinute (s.clock.tickKind == .wrap) b).accountSecond) := by
      split
      · exact (State.accountSecond_untouched _).andThen (State.takeMinute_untouched _ _ _) rfl rfl
      · exact (State.takeMinute_untouched _ _ _).andThen (State.accountSecond_untouched _) rfl rfl
    exact s.advanceClock_untouched.andThen passes rfl rfl

theorem State.litConfirms_untouched (s : State) : Untouched (.time :: burnBlocks) s s.litConfirms := by
  unfold State.litConfirms
  split
  · split
    · exact (((s.reach_untouched _).andThen (State.countIgnition_untouched _) (C := .time :: burnBlocks) rfl rfl).andThen
        (State.lamp_update_untouched _ _) (C := .time :: burnBlocks) rfl rfl).andThen (State.settleLamp_untouched _ _) rfl rfl
    · exact .refl _ _
  · exact .refl _ _

theorem State.outageFalls_untouched (s : State) : Untouched (.time :: burnBlocks) s s.outageFalls := by
  unfold State.outageFalls
  split
  · split
    · exact (s.reach_untouched _).andThen (State.extinguish_untouched _ _) rfl rfl
    · exact .refl _ _
  · exact .refl _ _

theorem State.strikeWindowEnds_untouched (s : State) : Untouched (.time :: burnBlocks) s s.strikeWindowEnds := by
  by_cases attempt : s.lamp.state = .striking .attempt
  · obtain ⟨_, _, _, _, _, _, _, _, frame⟩ := State.strikeWindowEnds_attempt attempt
    exact frame.mono rfl
  · rw [State.strikeWindowEnds_none attempt]
    exact .refl _ _

theorem State.retryWaitEnds_untouched (s : State) : Untouched (.time :: burnBlocks) s s.retryWaitEnds := by
  by_cases waiting : s.lamp.state = .striking .retryWait
  · obtain ⟨_, _, _, _, frame⟩ := State.retryWaitEnds_ends waiting
    exact frame.mono rfl
  · rw [State.retryWaitEnds_none waiting]
    exact .refl _ _

theorem State.warmUpEnds_untouched (s : State) : Untouched (.time :: burnBlocks) s s.warmUpEnds := by
  by_cases warming : s.lamp.state = .warming
  · obtain ⟨_, _, _, _, _, frame⟩ := State.warmUpEnds_warming warming
    exact frame.mono rfl
  · rw [State.warmUpEnds_none warming]
    exact .refl _ _

theorem State.cooldownEnds_untouched (s : State) : Untouched (.time :: burnBlocks) s s.cooldownEnds := by
  unfold State.cooldownEnds
  split
  · have off := ((s.reach_untouched s.lamp.timerEnd).andThen
      (State.lamp_update_untouched _ { s.lamp with state := .off .none }) (C := .time :: burnBlocks) rfl rfl).andThen
      (State.settleLamp_untouched _ s.lamp) (C := .time :: burnBlocks) rfl rfl
    dsimp only
    split
    · exact off.andThen (State.strikeOrHold_untouched _) rfl rfl
    · exact off
  · exact .refl _ _

end Sys2Proof.Machine
end

section
/-! The records, the counters and the slot of the room bus (R45 to R58): what each operation of the plate scanner leaves. -/

namespace Sys2Proof.Machine

open Sys2Proof.Config

/-! ## The records at a cycle start (R56) -/

/-- R56: the cycle start takes the records one by one, each with its own address. -/
theorem configurePlates_eq_mapIdx (final n : Nat) (plates : List Plate) :
    configurePlates final n plates = plates.mapIdx fun i p => p.configured (n + i) final := by
  induction plates generalizing n with
  | nil => rfl
  | cons p rest ih =>
    rw [configurePlates, ih, List.mapIdx_cons]
    simp only [Nat.add_zero, Nat.add_assoc, Nat.add_comm 1]

/-! ## The slot of an address ends (R45) -/

@[simp] theorem State.endSlot_plates (s : State) (n : Nat) : (s.endSlot n).scanner.plates = s.scanner.plates := by
  unfold State.endSlot
  split <;> rfl

@[simp] theorem State.endSlot_badReplies (s : State) (n : Nat) :
    (s.endSlot n).scanner.badReplies = s.scanner.badReplies := by
  unfold State.endSlot
  split <;> rfl

@[simp] theorem State.endSlot_misses (s : State) (n : Nat) : (s.endSlot n).scanner.misses = s.scanner.misses := by
  unfold State.endSlot
  split <;> rfl

/-- R45, R46: the POLL that follows shows the sequencer and the level as they stand. -/
theorem State.endSlot_slotAfter (s : State) (n : Nat) : SlotAfter n s (s.endSlot n) := by
  unfold SlotAfter State.endSlot
  split <;> exact ⟨rfl, rfl⟩

/-! ## What becomes of the plate records -/

/-- R50, R51: a good reply's record is in place before the request it makes, which no plate record hears of. -/
def State.heard (s : State) (n : Nat) (r : Reply) : State :=
  (s.setPlate n r.record).raiseIf (platesNoticed (s.plate n) r.record) .plates

/-- R51, R52: the request that a good reply makes, if any, is passed on. -/
def State.answerPlate (s : State) (n : Nat) : Option Requester → State
  | some c => s.plateRequest n c
  | none => s

theorem State.goodReply_eq (s : State) (n : Nat) (r : Reply) :
    s.goodReply n r = ((s.heard n r).answerPlate n (r.request (s.plate n) s.settings.follow)).endSlot n := by
  simp only [State.goodReply]
  cases r.request (s.plate n) s.settings.follow <;> rfl

theorem State.answerPlate_untouched (s : State) (n : Nat) (c : Option Requester) :
    Untouched routeBlocks s (s.answerPlate n c) := by
  cases c with
  | none => exact .refl _ _
  | some c => exact s.plateRequest_untouched n c

theorem State.heard_untouched (s : State) (n : Nat) (r : Reply) :
    Untouched [.scanner, .notice .plates, .attention] s (s.heard n r) :=
  (s.setPlate_untouched _ _).andThen (State.raiseIf_untouched _ _ _) rfl rfl

@[simp] theorem State.heard_plates (s : State) (n : Nat) (r : Reply) :
    (s.heard n r).scanner.plates = s.scanner.plates.set (n - 1) r.record := by
  simp [State.heard, State.setPlate]

@[simp] theorem State.goodReply_plates (s : State) (n : Nat) (r : Reply) :
    (s.goodReply n r).scanner.plates = s.scanner.plates.set (n - 1) r.record := by
  have scanner : ((s.heard n r).answerPlate n (r.request (s.plate n) s.settings.follow)).scanner = (s.heard n r).scanner :=
    State.answerPlate_untouched _ _ _ .scanner (by decide)
  rw [State.goodReply_eq, State.endSlot_plates, scanner, State.heard_plates]

@[simp] theorem State.slotFails_plates (s : State) (n : Nat) (bad : Bool) :
    (s.slotFails n bad).scanner.plates = s.scanner.plates.set (n - 1) ((s.plate n).failed s.settings.missLimit) := by
  cases bad <;> simp [State.slotFails, State.setPlate]

@[simp] theorem State.startCycle_plates (s : State) :
    s.startCycle.scanner.plates = configurePlates s.settings.finalAddress 1 s.scanner.plates := by
  simp [State.startCycle, State.startPoll]

/-- R47: a byte on the bus leaves the plate records alone, or replaces the one of the address whose window is open, by a failed
slot or by a good reply. -/
theorem State.busByte_plates (s : State) (b : Byte) :
    (s.busByte b).scanner.plates = s.scanner.plates
      ∨ ∃ n p, (s.busByte b).scanner.plates = s.scanner.plates.set (n - 1) p
          ∧ (p = (s.plate n).failed s.settings.missLimit ∨ ∃ r : Reply, p = r.record) := by
  unfold State.busByte
  split
  · unfold State.judgeReply
    split
    · split
      · exact .inr ⟨_, _, s.slotFails_plates _ _, .inl rfl⟩
      · split
        · exact .inr ⟨_, _, s.goodReply_plates _ _, .inr ⟨_, rfl⟩⟩
        · exact .inl rfl
    · exact .inl rfl
  · exact .inl rfl

end Sys2Proof.Machine
end

section
/-! Law 10: a PRESENT plate's miss streak lies below the miss limit (R44, R54, R55, R60). -/

namespace Sys2Proof.Machine

open Sys2Proof.Config

/-! ## One record -/

/-- R54, R55: the record of a PRESENT plate has a miss streak below the limit. -/
def Plate.within (p : Plate) (limit : Nat) : Prop := p.state = .present → p.missStreak < limit

/-- R54, R55: judging a record makes it LOST at the limit, whatever its streak was. -/
theorem Plate.judged_within (p : Plate) (limit : Nat) : (p.judged limit).within limit := by
  unfold Plate.judged Plate.within
  split
  · rintro ⟨⟩
  · rename_i below
    exact fun present => Nat.not_le.mp fun reached => below ⟨present, reached⟩

theorem Plate.failed_within (p : Plate) (limit : Nat) : (p.failed limit).within limit := Plate.judged_within _ limit

/-- R50: a good reply clears the streak. -/
theorem Reply.record_within (r : Reply) {limit : Nat} (positive : 1 ≤ limit) : r.record.within limit := fun _ => positive

/-- R56: a cycle start makes no plate PRESENT. -/
theorem Plate.configured_within {p : Plate} {limit : Nat} (h : p.within limit) (n final : Nat) :
    (p.configured n final).within limit := by
  unfold Plate.configured
  split
  · split
    · exact h
    · rintro ⟨⟩
  · split
    · rintro ⟨⟩
    · exact h

/-- R60: no plate is PRESENT after a reset. -/
theorem platesAfterReset_within (final limit : Nat) : ∀ p ∈ platesAfterReset final, p.within limit := by
  intro p member
  obtain ⟨i, _, rfl⟩ := List.mem_map.mp member
  intro present
  split at present <;> cases present

/-! ## The invariant and what keeps it -/

theorem State.platesHeard_iff (s : State) :
    s.platesHeard ↔ s.scanner.plates.length = 12 ∧ 1 ≤ s.settings.missLimit
      ∧ ∀ p ∈ s.scanner.plates, p.within s.settings.missLimit := Iff.rfl

theorem State.platesHeard.limit_pos {s : State} (h : s.platesHeard) : 1 ≤ s.settings.missLimit := h.2.1

theorem State.platesHeard.within {s : State} (h : s.platesHeard) :
    ∀ p ∈ s.scanner.plates, p.within s.settings.missLimit := h.2.2

/-- The invariant reads the plate records and the miss limit. -/
theorem State.platesHeard.congr {s t : State} (h : s.platesHeard) (plates : t.scanner.plates = s.scanner.plates)
    (limit : t.settings.missLimit = s.settings.missLimit) : t.platesHeard := by
  rw [State.platesHeard, plates, limit]
  exact h

/-- An operation that touches neither settings nor scanner keeps the invariant. -/
theorem Untouched.platesHeard {A : List Block} {s t : State} (h : Untouched A s t)
    (apart : [Block.settings, .scanner].all (fun b => decide (b ∉ A)) = true) (f : s.platesHeard) : t.platesHeard := by
  simp only [List.all_cons, List.all_nil, Bool.and_true, Bool.and_eq_true, decide_eq_true_eq] at apart
  obtain ⟨noSettings, noScanner⟩ := apart
  have settings : t.settings = s.settings := h .settings noSettings
  have scanner : t.scanner = s.scanner := h .scanner noScanner
  exact f.congr (by rw [scanner]) (by rw [settings])

/-- A table of twelve records in which each record lies within the limit, the settings being those of before. -/
theorem State.platesHeard.replace {s t : State} (h : s.platesHeard) (settings : t.settings = s.settings)
    (length : t.scanner.plates.length = s.scanner.plates.length)
    (within : ∀ p ∈ t.scanner.plates, p.within s.settings.missLimit) : t.platesHeard := by
  obtain ⟨twelve, positive, _⟩ := h
  rw [State.platesHeard_iff, settings]
  exact ⟨length.trans twelve, positive, within⟩

theorem State.platesHeard.set {s t : State} (h : s.platesHeard) (settings : t.settings = s.settings) {i : Nat} {p : Plate}
    (plates : t.scanner.plates = s.scanner.plates.set i p) (within : p.within s.settings.missLimit) : t.platesHeard := by
  refine h.replace settings (by rw [plates, List.length_set]) fun q member => ?_
  rw [plates] at member
  rcases List.mem_or_eq_of_mem_set member with old | rfl
  · exact h.within q old
  · exact within

/-! ## The room bus -/

theorem State.slotFails_platesHeard {s : State} (h : s.platesHeard) (n : Nat) (bad : Bool) :
    (s.slotFails n bad).platesHeard :=
  h.set (s.slotFails_untouched n bad .settings (by decide)) (s.slotFails_plates n bad) (Plate.failed_within _ _)

theorem State.busByte_platesHeard {s : State} (h : s.platesHeard) (b : Byte) : (s.busByte b).platesHeard := by
  have settings : (s.busByte b).settings = s.settings := s.busByte_untouched b .settings (by decide)
  rcases s.busByte_plates b with plates | ⟨n, p, plates, rfl | ⟨r, rfl⟩⟩
  · exact h.congr plates (by rw [settings])
  · exact h.set settings plates (Plate.failed_within _ _)
  · exact h.set settings plates (r.record_within h.limit_pos)

theorem State.startCycle_platesHeard {s : State} (h : s.platesHeard) : s.startCycle.platesHeard := by
  have plates := s.startCycle_plates
  rw [configurePlates_eq_mapIdx] at plates
  refine h.replace (s.startCycle_untouched .settings (by decide)) (by rw [plates, List.length_mapIdx]) fun q member => ?_
  rw [plates] at member
  obtain ⟨i, inTable, rfl⟩ := List.mem_mapIdx.mp member
  exact Plate.configured_within (h.within _ (List.getElem_mem inTable)) _ _

theorem State.pollEnds_platesHeard {s : State} (h : s.platesHeard) : s.pollEnds.platesHeard := by
  unfold State.pollEnds
  split <;> exact h

theorem State.windowEnds_platesHeard {s : State} (h : s.platesHeard) : s.windowEnds.platesHeard := by
  unfold State.windowEnds
  split
  · exact State.slotFails_platesHeard ((s.reach_untouched _).platesHeard rfl h) _ _
  · exact h

theorem State.cycleGapEnds_platesHeard {s : State} (h : s.platesHeard) : s.cycleGapEnds.platesHeard := by
  unfold State.cycleGapEnds
  split
  · exact State.startCycle_platesHeard ((s.reach_untouched _).platesHeard rfl h)
  · exact h

/-! ## The settings (R55, R181) -/

/-- R181: the miss limit is changed by its own write alone. -/
theorem Settings.put_missLimit (v : Settings) {i : SettingId} (other : i ≠ .missLimit) (n : Nat) :
    (v.put i n).missLimit = v.missLimit := v.get_put_other (j := .missLimit) n other.symm

/-- R55, R181: the miss limit stays at least 1. -/
theorem Settings.put_missLimit_pos {v : Settings} (h : 1 ≤ v.missLimit) (i : SettingId) (n : Nat) :
    1 ≤ (v.put i n).missLimit := by
  by_cases own : i = .missLimit
  · subst own
    exact le_max_left 1 _
  · rwa [v.put_missLimit own]

/-- R184: the settings of a loaded record hold a miss limit of at least 1, each value being clamped. -/
theorem settingsOf_missLimit_pos (values : List Nat) : 1 ≤ (settingsOf values).missLimit := by
  unfold settingsOf
  refine List.foldlRecOn (motive := fun v : Settings => 1 ≤ v.missLimit) _ _ (by decide) fun v h p _ => ?_
  exact Settings.put_missLimit_pos h p.1 p.2

/-- R55: a new miss limit judges every plate again, so it need not have held before. -/
theorem State.missLimitWritten_platesHeard {s : State} (twelve : s.scanner.plates.length = 12)
    (positive : 1 ≤ s.settings.missLimit) : s.missLimitWritten.platesHeard := by
  have settings : s.missLimitWritten.settings = s.settings := s.missLimitWritten_untouched .settings (by decide)
  have plates : s.missLimitWritten.scanner.plates = s.scanner.plates.map (·.judged s.settings.missLimit) :=
    s.missLimitWritten_plates
  rw [State.platesHeard_iff, settings, plates]
  refine ⟨by rw [List.length_map, twelve], positive, fun q member => ?_⟩
  obtain ⟨p, _, rfl⟩ := List.mem_map.mp member
  exact p.judged_within _

/-- R181: what the owner of another setting does leaves the plates alone. -/
theorem State.settingWritten_platesHeard {s : State} (h : s.platesHeard) {i : SettingId} (other : i ≠ .missLimit) :
    (s.settingWritten i).platesHeard := by
  cases i with
  | missLimit => exact (other rfl).elim
  | lifeLimit | warningMargin => exact s.limitWritten_untouched.platesHeard rfl h
  | panelWidth | panelHeight => exact (s.putGeometry_untouched _).platesHeard rfl h
  | tiltGain | tiltAveraging => exact s.tiltSettingWritten_untouched.platesHeard rfl h
  | idleLevel | walkupLevel => exact (s.setBase_untouched _ _).platesHeard rfl h
  | rate l => exact (s.rateWritten_untouched l).platesHeard rfl h
  | mask l => exact (s.settleLine_untouched l).platesHeard rfl h
  | _ => exact h

theorem ownSettingWrite_platesHeard {s : State} (h : s.platesHeard) (id : Byte) (value : BitVec 32) :
    (ownSettingWrite id value s).state.platesHeard := by
  unfold ownSettingWrite
  split
  · exact h
  · rename_i i _
    refine (State.queueKind_untouched _ _).platesHeard rfl ?_
    by_cases own : i = .missLimit
    · subst own
      exact State.missLimitWritten_platesHeard h.1 (Settings.put_missLimit_pos h.limit_pos .missLimit value.toNat)
    · exact State.settingWritten_platesHeard (s := s.settingPut i value.toNat)
        (h.congr rfl (s.settings.put_missLimit own _)) own

/-! ## The requests -/

/-- Every owner of a request keeps the invariant: the setting's writer by R55, COUNTERS_CLEAR by leaving the records alone, and
every other by touching neither settings nor scanner. -/
theorem Owned.platesHeard {l : Link} {own : State → Answer} (owned : Owned l own) {s : State} (h : s.platesHeard) :
    (own s).state.platesHeard := by
  cases owned with
  | settingWrite id value => exact ownSettingWrite_platesHeard h id value
  | roomRead | countersRead | lampRead | sourceRead | plateRead | lockoutRead | clockRead | entryList | occurrenceRead
  | countersClear | restart => exact h
  | noticeRead =>
    exact h.congr (congrArg Scanner.plates (State.setLink_scanner s l _))
      (congrArg Settings.missLimit (State.setLink_settings s l _))
  | sessionStart | sessionEnd | sessionExtend | lampLevel => exact (answerSession_untouched s _).platesHeard rfl h
  | lampReplaced =>
    unfold ownLampReplaced
    split
    · exact (s.serviceAccount_untouched _).platesHeard rfl h
    · exact h
  | accountSet hours =>
    unfold ownAccountSet
    split
    · exact (s.serviceAccount_untouched _).platesHeard rfl h
    · exact h
  | sourceSelect plate => exact (s.requestSwitch_untouched _ _).platesHeard rfl h
  | pictureMute onOff =>
    unfold ownPictureMute
    split
    · exact h
    · exact (State.settleMute_untouched _).platesHeard rfl h
  | geometrySet mode v hor trim =>
    unfold ownGeometrySet
    split
    · exact h
    · exact (s.putGeometry_untouched _).platesHeard rfl h
  | geometryTrim | tiltReport => exact (s.putGeometry_untouched _).platesHeard rfl h
  | presetStore => exact (State.queueKind_untouched _ _).platesHeard rfl h
  | geometryRead plate =>
    cases plate with
    | none => exact h
    | some plate =>
      simp only [ownGeometryRead]
      split <;> exact h
  | engineReport temperature =>
    unfold ownEngineReport
    split
    · exact h
    · exact (s.setTemp_untouched _).platesHeard rfl h
  | overrideSet level minutes =>
    unfold ownOverrideSet
    split
    · exact h
    · split
      · exact h
      · exact (s.setOverride_untouched _).platesHeard rfl h
  | overrideClear => exact (s.setOverride_untouched _).platesHeard rfl h
  | clockSet date hour minute =>
    unfold ownClockSet
    split
    · exact h
    · exact (State.runner_untouched _ _).platesHeard rfl ((State.recompute_untouched _ _).platesHeard rfl h)
  | entryPut raw =>
    unfold ownEntryPut
    split
    · exact h
    · split
      · exact (s.putEntry_untouched _).platesHeard rfl h
      · exact h
  | entryDelete id =>
    unfold ownEntryDelete
    split
    · exact (s.changeTable_untouched _ _).platesHeard rfl h
    · exact h
  | entryRead id =>
    unfold ownEntryRead
    split <;> exact h
  | scheduleClear =>
    unfold ownScheduleClear
    split
    · exact h
    · exact (s.changeTable_untouched _ _).platesHeard rfl h
  | settingRead id =>
    unfold ownSettingRead
    split <;> exact h

theorem platesHeard_keptByRequests : KeptByRequests State.platesHeard where
  line h := h.platesHeard rfl
  owner _ owned := owned.platesHeard

/-! ## Resets and start-up -/

theorem State.afterReset_platesHeard (s : State) (cause : Cause) (cut : SlotLeft) :
    (s.afterReset cause cut).platesHeard := ⟨rfl, show 1 ≤ 3 by decide, platesAfterReset_within 4 3⟩

theorem settingsTaken_missLimit_pos (x : PerKind StoreSlot) : 1 ≤ (settingsTaken x).missLimit := by
  unfold settingsTaken loadedSettings
  split
  · exact settingsOf_missLimit_pos _
  · decide

/-- R60, R184: start-up begins the table again, whatever it held. -/
theorem State.startUp_platesHeard {s : State} (h : s.platesHeard) : s.startUp.platesHeard := by
  unfold State.startUp
  split
  · exact h
  · rw [State.backed_eq]
    have configured : s.configured.platesHeard :=
      ⟨rfl, settingsTaken_missLimit_pos _, platesAfterReset_within _ _⟩
    have recomputed := (s.backed.recompute_untouched true).platesHeard rfl (s.backed_untouched.platesHeard rfl configured)
    have evaluated : s.backed.evaluateSession.platesHeard := (State.runner_untouched _ _).platesHeard rfl recomputed
    have released := (State.release_untouched _).platesHeard rfl evaluated
    exact State.startCycle_platesHeard ((State.watchSupply_startWrite _).1.platesHeard rfl released)

theorem State.responseSent_platesHeard {s : State} (h : s.platesHeard) (l : Link) (cut : SlotLeft) :
    (s.responseSent l cut).platesHeard := by
  unfold State.responseSent
  split
  · split
    · exact State.afterReset_platesHeard _ _ _
    · exact (s.finishResponse_untouched l).platesHeard rfl h
  · exact h

/-! ## Every step -/

theorem exec_platesHeard (c : Instr) {s t : State} (h : s.platesHeard) (taken : exec c s = .next t) : t.platesHeard := by
  cases c
  case powerOn cut backup => cases taken; exact State.afterReset_platesHeard _ _ _
  case resetPin cut => cases taken; exact State.afterReset_platesHeard _ _ _
  case supplyDrop cut => cases taken; exact State.afterReset_platesHeard _ _ _
  case startUpComplete => cases taken; exact State.startUp_platesHeard h
  case receiveByte l b => cases taken; exact (s.byteArrives_untouched l b).platesHeard rfl h
  case gap l => cases taken; exact (s.gapExpires_untouched l).platesHeard rfl h
  case frameTake l => cases taken; exact platesHeard_keptByRequests.takeNext l h
  case responseSent l cut => cases taken; exact State.responseSent_platesHeard h l cut
  case engineSilence => cases taken; exact s.silenceFound_untouched.platesHeard rfl h
  case secondEvent => cases taken; exact (s.secondPasses_frame _ _).platesHeard rfl h
  case litChange high dt => cases taken; exact ((s.elapse dt).litChanges_untouched high).platesHeard rfl h
  case litConfirmed => cases taken; exact s.litConfirms_untouched.platesHeard rfl h
  case outage => cases taken; exact s.outageFalls_untouched.platesHeard rfl h
  case strikeWindowExpiry => cases taken; exact s.strikeWindowEnds_untouched.platesHeard rfl h
  case retryWaitExpiry => cases taken; exact s.retryWaitEnds_untouched.platesHeard rfl h
  case warmUpExpiry => cases taken; exact s.warmUpEnds_untouched.platesHeard rfl h
  case cooldownExpiry => cases taken; exact s.cooldownEnds_untouched.platesHeard rfl h
  case pollSent => cases taken; exact State.pollEnds_platesHeard h
  case busByteReceived b => cases taken; exact State.busByte_platesHeard h b
  case replyWindowExpiry => cases taken; exact State.windowEnds_platesHeard h
  case cycleGapExpiry => cases taken; exact State.cycleGapEnds_platesHeard h
  case vsyncEdge edge dt => cases taken; exact ((s.elapse dt).vsync_untouched edge).platesHeard rfl h
  case muteLeadExpiry => cases taken; exact s.muteLeadEnds_untouched.platesHeard rfl h
  case maskExpiry => cases taken; exact s.maskEnds_untouched.platesHeard rfl h
  case seekWindowExpiry => cases taken; exact s.seekEnds_untouched.platesHeard rfl h
  case confirmDelayExpiry => cases taken; exact s.confirmEnds_untouched.platesHeard rfl h
  case syncWatchExpiry => cases taken; exact s.watchEnds_untouched.platesHeard rfl h
  case tiltSilenceExpiry => cases taken; exact s.tiltGoesSilent_untouched.platesHeard rfl h
  case writeComplete readBack => cases taken; exact (s.completeWrite_untouched readBack).platesHeard rfl h
  case supplyWarning =>
    cases taken
    split
    · exact (State.startWrite_untouched _).platesHeard rfl h
    · exact h
  case supplyRecover => cases taken; exact h
  all_goals
    rw [exec_request rfl] at taken
    cases taken
    exact platesHeard_keptByRequests.takeRequest _ _ _ h

/-- Settles O10: the operations that put a record in place or change the limit leave every PRESENT plate below it, and every
other one touches neither settings nor scanner. -/
theorem presentPlatesLieBelowTheMissLimit : Obligations.PresentPlatesLieBelowTheMissLimit :=
  keptByEveryStep_of_exec (fun frame => frame.platesHeard rfl) exec_platesHeard

end Sys2Proof.Machine
end

section
/-! PLATE_READ and COUNTERS_READ, COUNTERS_CLEAR and RESTART (R58, R59, R173, R175, R183). -/

namespace Sys2Proof.Machine

open Sys2Proof.Config

/-! ## Blocks of one length in a payload -/

theorem take_drop_flatMap {α β : Type} {f : α → List β} {k : Nat} (uniform : ∀ a, (f a).length = k) {xs : List α} {n : Nat}
    {a : α} (at_n : xs[n]? = some a) : ((xs.flatMap f).drop (k * n)).take k = f a := by
  induction xs generalizing n with
  | nil => cases at_n
  | cons x rest ih =>
    cases n with
    | zero =>
      cases at_n
      exact List.take_left' (uniform _)
    | succ n =>
      rw [List.flatMap_cons, Nat.mul_succ, Nat.add_comm, ← List.drop_drop, List.drop_left' (uniform x)]
      exact ih at_n

theorem length_flatMap_uniform {α β : Type} {f : α → List β} {k : Nat} (uniform : ∀ a, (f a).length = k) (xs : List α) :
    (xs.flatMap f).length = k * xs.length := by
  rw [List.length_flatMap, List.map_congr_left fun a _ => uniform a, List.map_const', List.sum_replicate, smul_eq_mul,
    Nat.mul_comm]

/-! ## PLATE_READ (R59) -/

theorem answered_plateRead {l : Link} {s : State} (h : Listening l s) :
    exec (.plateRead l) s = answered .plateRead l (s.hearing (.plateRead l)) .ok
      (byte s.scanner.finalInForce :: s.scanner.plates.flatMap Plate.bytes) := by
  have scanner : (s.hearing (.plateRead l)).scanner = s.scanner := s.hearing_untouched _ .scanner (by decide)
  rw [← scanner]
  exact exec_admitted (i := .plateRead l) rfl (admitted_of_enquiry h rfl rfl) (Nat.zero_le _) rfl

/-- 11, PLATE_READ ANSWER: the three fields that an address without a heard plate does not have. -/
theorem Plate.bytes_fields (q : Plate) : ∃ kind signal edge : Byte,
    q.bytes = [byte q.state.code, kind, signal, edge, byte q.connects, byte q.buttons, byte q.missStreak]
      ∧ (q.kind = none → kind = 0xFF) ∧ (∀ k, q.kind = some k → kind = byte k.code)
      ∧ (q.signal = none → signal = 0xFF) ∧ (∀ a, q.signal = some a → signal = if a then 1 else 0)
      ∧ (q.syncEdge = none → edge = 0xFF) ∧ (q.syncEdge = some .rising → edge = 0)
      ∧ (q.syncEdge = some .falling → edge = 1) := by
  refine ⟨_, _, _, rfl, ?_, ?_, ?_, ?_, ?_, ?_, ?_⟩
  · intro absent; rw [absent]; rfl
  · intro k held; rw [held]; rfl
  · intro absent; rw [absent]; rfl
  · intro a held; rw [held]; cases a <;> rfl
  · intro absent; rw [absent]; rfl
  · intro held; rw [held]; rfl
  · intro held; rw [held]; rfl

/-! ## COUNTERS_READ (R58, R173) -/

theorem answered_countersRead {l : Link} {s : State} (h : Listening l s) :
    exec (.countersRead l) s = answered .countersRead l (s.hearing (.countersRead l)) .ok
      (s.hearing (.countersRead l)).counterBytes :=
  exec_admitted (i := .countersRead l) rfl (admitted_of_enquiry h rfl rfl) (Nat.zero_le _) rfl

/-- A frame on a link moves no counter. -/
theorem State.hearing_counterBytes (s : State) (i : Instr) (k : Link) :
    ((s.hearing i).link k).counterBytes = (s.link k).counterBytes := by
  unfold State.hearing
  split
  · rename_i l c row
    cases l <;> cases k <;> rfl
  · rfl

/-- 11, COUNTERS_READ ANSWER: the link counters and the silence flag. -/
def State.linkCounters (s : State) : List Byte :=
  s.engine.counterBytes ++ s.lectern.counterBytes ++ s.campus.counterBytes ++ [byte (bit s.silence.flag 0)]

/-- 11, COUNTERS_READ ANSWER: the two bus counters of an address. -/
def State.busCounters (s : State) (i : Nat) : List Byte :=
  [byte (nth s.scanner.badReplies i 0), byte (nth s.scanner.misses i 0)]

theorem State.counterBytes_eq (s : State) :
    s.counterBytes = s.linkCounters ++ (List.range 12).flatMap s.busCounters := rfl

theorem State.linkCounters_length (s : State) : s.linkCounters.length = 10 := rfl

theorem State.linkCounters_heard {s t : State} (links : ∀ k, (t.link k).counterBytes = (s.link k).counterBytes) :
    t.linkCounters = [byte s.engine.badCrc, byte s.engine.gaps, byte s.engine.overruns, byte s.lectern.badCrc,
      byte s.lectern.gaps, byte s.lectern.overruns, byte s.campus.badCrc, byte s.campus.gaps, byte s.campus.overruns,
      if t.silence.flag then 1 else 0] := by
  have engine : t.engine.counterBytes = s.engine.counterBytes := links .engine
  have lectern : t.lectern.counterBytes = s.lectern.counterBytes := links .lectern
  have campus : t.campus.counterBytes = s.campus.counterBytes := links .campus
  rw [State.linkCounters, engine, lectern, campus]
  cases t.silence.flag <;> rfl

/-- Settles O26: the blocks of each payload, and each field in its block. -/
theorem plateAndCounterReadsReportTheBusAndTheLinks : Obligations.PlateAndCounterReadsReportTheBusAndTheLinks := by
  intro l s h
  refine ⟨⟨_, answered_plateRead h, rfl, ?_, fun n q at_n => ?_⟩, _, answered_countersRead h, ?_, ?_, ?_⟩
  · rw [List.length_cons, length_flatMap_uniform (k := 7) fun _ => rfl, Nat.add_comm]
  · have block := take_drop_flatMap (f := Plate.bytes) (k := 7) (fun _ => rfl) at_n
    rw [Nat.add_comm 1, List.drop_succ_cons, block]
    exact q.bytes_fields
  · rfl
  · rw [State.counterBytes_eq, List.take_left' (State.linkCounters_length _),
      State.linkCounters_heard (s.hearing_counterBytes _), s.hearing_silence rfl]
  · intro n bad miss within bad_n miss_n
    have scanner : (s.hearing (.countersRead l)).scanner = s.scanner := s.hearing_untouched _ .scanner (by decide)
    have block := take_drop_flatMap (f := (s.hearing (.countersRead l)).busCounters) (k := 2) (fun _ => rfl)
      (List.getElem?_range within)
    rw [State.counterBytes_eq, ← List.drop_drop, List.drop_left' (State.linkCounters_length _), block, State.busCounters,
      scanner]
    simp [nth, bad_n, miss_n]

/-! ## COUNTERS_CLEAR and RESTART (R58, R173, R175, R183) -/

theorem ownCountersClear_untouched (s : State) :
    Untouched [.links, .scanner, .supply] s (ownCountersClear s).state := by
  intro b outside
  cases b with
  | links | scanner | supply => exact (outside (by simp)).elim
  | notice _ | attention => intro l; cases l <;> rfl
  | _ => rfl

/-- Settles O48: the owner of each command, on the state that heard the frame. -/
theorem countersClearAndRestart : Obligations.CountersClearAndRestart := by
  refine fun l s => ⟨fun h => ?_, fun h => exec_admitted (i := .restart l) rfl h (Nat.zero_le _) rfl⟩
  have frame := s.hearing_untouched (.countersClear l)
  have scanner : (s.hearing (.countersClear l)).scanner = s.scanner := frame .scanner (by decide)
  have supply : (s.hearing (.countersClear l)).supply = s.supply := frame .supply (by decide)
  refine ⟨_, exec_admitted (i := .countersClear l) rfl h (Nat.zero_le _) rfl, fun k => ?_, ?_, ?_,
    ownCountersClear_untouched _⟩
  · cases k <;> rfl
  · rw [← scanner]; rfl
  · rw [← supply]; rfl

end Sys2Proof.Machine
end

section
/-! The poll cycle: the POLL, the reply window, the cycle gap (R43, R45 to R47, R54, R56). -/

namespace Sys2Proof.Machine

open Sys2Proof.Config

/-! ## The slot that follows -/

/-- R45: the slot that follows goes by the final address in force, the time and BUS_DE alone. -/
theorem SlotAfter.congr {n : Nat} {s s' t : State} (h : SlotAfter n s t)
    (final : s'.scanner.finalInForce = s.scanner.finalInForce) (now : s'.now = s.now) (busDe : s'.pins.busDe = s.pins.busDe) :
    SlotAfter n s' t := by
  unfold SlotAfter
  rw [final, now, busDe]
  exact h

theorem State.endSlot_keeps (s : State) (n : Nat) : KeepsNotices s (s.endSlot n) := .ofLinks fun l => by
  unfold State.endSlot
  split <;> cases l <;> rfl

/-! ## A failed slot (R54) -/

theorem State.plate_eq {s : State} {n : Nat} {p : Plate} (at_n : s.scanner.plates[n - 1]? = some p) : s.plate n = p := by
  simp [State.plate, nth, at_n]

theorem Plate.failed_eq (p : Plate) (limit : Nat) : p.failed limit =
    if p.state = .present ∧ limit ≤ min 7 (p.missStreak + 1) then
      { p with missStreak := min 7 (p.missStreak + 1), state := .lost }
    else { p with missStreak := min 7 (p.missStreak + 1) } := rfl

/-- R54, R58: the scanner as a failed slot leaves it, its slot not yet ended. -/
def State.failedAt (s : State) (n : Nat) (bad : Bool) : State :=
  ({ s with scanner :=
      if bad then { s.scanner with badReplies := bumpAt s.scanner.badReplies n }
      else { s.scanner with misses := bumpAt s.scanner.misses n } }.setPlate n
    ((s.plate n).failed s.settings.missLimit)).raiseIf
    (((s.plate n).failed s.settings.missLimit).state != (s.plate n).state) .plates

theorem State.slotFails_eq (s : State) (n : Nat) (bad : Bool) : s.slotFails n bad = (s.failedAt n bad).endSlot n := rfl

theorem State.failedAt_untouched (s : State) (n : Nat) (bad : Bool) :
    Untouched [.scanner, .notice .plates, .attention] s (s.failedAt n bad) :=
  ((s.scanner_update_untouched _).andThen (State.setPlate_untouched _ _ _) (C := [.scanner]) rfl rfl).andThen
    (State.raiseIf_untouched _ _ _) rfl rfl

/-- R54: what a failed slot leaves: the record, the counter, the notice, and the slot that follows. -/
theorem State.slotFails_spec (s : State) {n : Nat} {p : Plate} (at_n : s.scanner.plates[n - 1]? = some p) (bad : Bool) :
    let t := s.slotFails n bad
    t.scanner.plates = s.scanner.plates.set (n - 1) (p.failed s.settings.missLimit)
      ∧ t.scanner.badReplies = (if bad then bumpAt s.scanner.badReplies n else s.scanner.badReplies)
      ∧ t.scanner.misses = (if bad then s.scanner.misses else bumpAt s.scanner.misses n)
      ∧ ((p.failed s.settings.missLimit).state ≠ p.state → Pending .plates t)
      ∧ SlotAfter n s t ∧ Untouched [.scanner, .pins, .notice .plates, .attention] s t := by
  have frame := s.failedAt_untouched n bad
  have now : s.now = (s.failedAt n bad).now := (frame .time (by decide)).symm
  have pins : s.pins = (s.failedAt n bad).pins := (frame .pins (by decide)).symm
  rw [State.slotFails_eq]
  refine ⟨?_, ?_, ?_, fun changed => State.endSlot_keeps _ _ _ (Pending.of_raiseIf ?_ _),
    (State.endSlot_slotAfter _ n).congr ?_ now (congrArg Pins.busDe pins),
    frame.andThen (State.endSlot_untouched _ _) rfl rfl⟩
  · rw [← s.slotFails_eq, s.slotFails_plates, State.plate_eq at_n]
  · cases bad <;> simp [State.failedAt, State.setPlate]
  · cases bad <;> simp [State.failedAt, State.setPlate]
  · rw [State.plate_eq at_n]
    exact bne_iff_ne.mpr changed
  · cases bad <;> simp [State.failedAt, State.setPlate]

/-! ## The events of the poll cycle -/

theorem State.pollEnds_polling {s : State} {address till : Nat} {frame : List Byte}
    (polling : s.scanner.slot = .polling address frame till) :
    s.pollEnds = { s.reach till with
      scanner := { s.scanner with slot := .window address [] (max s.now till + replyWindow) }
      pins := { s.pins with busDe := false } } := by
  simp only [State.pollEnds, polling]
  rfl

theorem State.pollEnds_none {s : State} (h : ∀ address frame till, s.scanner.slot ≠ .polling address frame till) :
    s.pollEnds = s := by
  unfold State.pollEnds
  split
  · rename_i polling; exact (h _ _ _ polling).elim
  · rfl

theorem State.windowEnds_window {s : State} {address till : Nat} {bytes : List Byte}
    (window : s.scanner.slot = .window address bytes till) : s.windowEnds = (s.reach till).slotFails address false := by
  simp only [State.windowEnds, window]

theorem State.windowEnds_none {s : State} (h : ∀ address bytes till, s.scanner.slot ≠ .window address bytes till) :
    s.windowEnds = s := by
  unfold State.windowEnds
  split
  · rename_i window; exact (h _ _ _ window).elim
  · rfl

theorem State.cycleGapEnds_gap {s : State} {till : Nat} (gap : s.scanner.slot = .cycleGap till) :
    s.cycleGapEnds = (s.reach till).startCycle := by
  simp only [State.cycleGapEnds, gap]

theorem State.cycleGapEnds_none {s : State} (h : ∀ till, s.scanner.slot ≠ .cycleGap till) : s.cycleGapEnds = s := by
  unfold State.cycleGapEnds
  split
  · rename_i gap; exact (h _ gap).elim
  · rfl

/-- R45, R56: what a cycle start leaves. -/
theorem State.startCycle_spec (s : State) :
    let t := s.startCycle
    t.scanner.finalInForce = s.settings.finalAddress
      ∧ t.scanner.plates = configurePlates s.settings.finalAddress 1 s.scanner.plates
      ∧ (t.scanner.plates ≠ s.scanner.plates → Pending .plates t)
      ∧ t.scanner.slot = .polling 1 (t.pollFrame 1) (s.now + pollTime) ∧ t.pins = { s.pins with busDe := true }
      ∧ Untouched [.scanner, .pins, .notice .plates, .attention] s t := by
  refine ⟨by simp [State.startCycle, State.startPoll], s.startCycle_plates, fun changed => ?_, ?_, ?_,
    ((s.scanner_update_untouched _).andThen (State.raiseIf_untouched _ _ _)
      (C := [.scanner, .pins, .notice .plates, .attention]) rfl rfl).andThen (State.startPoll_untouched _ _) rfl rfl⟩
  · rw [s.startCycle_plates] at changed
    refine KeepsNotices.ofLinks (fun l => by cases l <;> rfl) _ (Pending.of_raiseIf (bne_iff_ne.mpr changed) _)
  · simp [State.startCycle, State.startPoll, State.pollFrame, State.onAir]
  · simp [State.startCycle, State.startPoll]

/-! ## The POLL's bytes (R46, R116) -/

theorem selectable_eq (level : Level) : selectable level = (level == .openRoom || level == .present) := by
  cases level <;> decide

/-- 11, ROOM-BUS FRAMES: the flags byte of a POLL. -/
theorem byte_of_two_flags (a b : Bool) :
    let x := byte (bit a 0 + bit b 1)
    x.getLsbD 0 = a ∧ x.getLsbD 1 = b ∧ x.toNat < 4 := by
  revert a b
  decide

/-- Settles O55: each event in its own phase and in no other, and the bytes of a POLL. -/
theorem pollCycleVisitsTheAddresses : Obligations.PollCycleVisitsTheAddresses := by
  refine ⟨fun s => ⟨fun address frame till polling => ?_, fun address bytes till p window _ at_n => ?_, fun till gap => ?_,
    fun h => congrArg _ (State.pollEnds_none h), fun h => congrArg _ (State.windowEnds_none h),
    fun h => congrArg _ (State.cycleGapEnds_none h)⟩, fun address s => ?_⟩
  · have window := (s.reach_untouched till).andThen (State.scanner_update_untouched _
      { s.scanner with slot := .window address [] (max s.now till + replyWindow) }) (C := [.time, .scanner]) rfl rfl
    refine ⟨_, congrArg Host.Outcome.next (State.pollEnds_polling polling), rfl, rfl, rfl, ?_⟩
    exact window.andThen (State.pins_update_untouched _ _) rfl rfl
  · obtain ⟨plates, badReplies, misses, raised, slot, frame⟩ := (s.reach till).slotFails_spec at_n false
    have now : ((s.reach till).slotFails address false).now = max s.now till := frame .time (by decide)
    refine ⟨_, _, congrArg Host.Outcome.next (State.windowEnds_window window), now, p.failed_eq s.settings.missLimit, plates,
      misses, badReplies, raised, ?_, (s.reach_untouched till).andThen frame rfl rfl⟩
    rw [now]
    exact slot
  · obtain ⟨final, plates, raised, slot, pins, frame⟩ := (s.reach till).startCycle_spec
    have now : (s.reach till).startCycle.now = max s.now till := frame .time (by decide)
    rw [configurePlates_eq_mapIdx] at plates
    refine ⟨_, congrArg Host.Outcome.next (State.cycleGapEnds_gap gap), now, final, by rw [plates, List.length_mapIdx]; rfl,
      fun n p at_n => ?_, raised, ?_, pins, (s.reach_untouched till).andThen frame rfl rfl⟩
    · rw [plates, List.getElem?_mapIdx, Nat.add_comm 1 n]
      exact congrArg (Option.map _) at_n
    · rw [now]
      exact slot
  · refine ⟨_, rfl, ?_⟩
    rw [← selectable_eq]
    exact byte_of_two_flags (s.onAir address) (selectable s.policy.effective)

end Sys2Proof.Machine
end

section
/-! Requests to the switch sequencer in each of its states (R64, R68 to R70, R72, R74). -/

namespace Sys2Proof.Machine

open Sys2Proof.Config

/-! ## What the sequencer's actions leave -/

/-- R64: the routing action, in the statements' terms; the origin is the one it finds. -/
theorem State.routingAction_routedTo (s : State) (n : Nat) : RoutedTo n s.switch.origin s (s.routingAction n) := by
  refine ⟨?_, ?_, ?_, s.routingAction_untouched n⟩
  · simp only [State.routingAction, State.settleMute_switch, State.installPreset, State.putGeometry_switch]
    rfl
  · simp [State.routingAction, State.installPreset, muteWanted]
  · simp only [State.routingAction, State.settleMute_geometry, State.installPreset, State.putGeometry_geometry]

/-- R74: the entry to SEEKING, in the statements' terms. -/
theorem State.enterSeeking_seekingFrom (s : State) (r : Option Nat) :
    SeekingFrom r s.switch.origin s (s.enterSeeking r) := by
  refine ⟨?_, ?_, s.enterSeeking_untouched r⟩
  · simp only [State.enterSeeking, State.settleMute_switch]
    rfl
  · simp [State.enterSeeking, muteWanted]

/-- R72: MUTING as it is entered, the mute lead not yet judged. -/
def State.mutingBegun (s : State) : State :=
  { s with switch := { s.switch with
      state := .muting, ring := [], streak := 0, missMark := false
      timerEnd := s.now + s.settings.muteLead * millisecond } }.settleMute

theorem State.enterMuting_eq (s : State) : s.enterMuting =
    if s.settings.muteLead = 0 then s.mutingBegun.routingAction s.switch.target else s.mutingBegun := by
  simp only [State.enterMuting, State.settleMute_switch]
  rfl

theorem State.mutingBegun_switch (s : State) : s.mutingBegun.switch = { s.switch with
    state := .muting, ring := [], streak := 0, missMark := false, timerEnd := s.now + s.settings.muteLead * 1000 } :=
  State.settleMute_switch _

theorem State.mutingBegun_pins (s : State) : s.mutingBegun.pins = { s.pins with mute := true } := by
  simp [State.mutingBegun, muteWanted]

theorem State.mutingBegun_untouched (s : State) : Untouched (.switch :: muteBlocks) s s.mutingBegun :=
  (s.switch_update_untouched _).andThen (State.settleMute_untouched _) rfl rfl

/-! ## A request taken -/

/-- R69, R70: the target and the origin of a request that is taken. -/
def State.taking (s : State) (n : Nat) (c : Requester) : State :=
  { s with switch := { s.switch with target := n, origin := some (.by c) } }

/-- R64, R69, R70: the routing action of a request that is taken. -/
theorem State.taking_routedTo (s : State) (n : Nat) (c : Requester) :
    RoutedTo n (some (.by c)) s ((s.taking n c).routingAction n) := by
  obtain ⟨switch, pins, geometry, frame⟩ := (s.taking n c).routingAction_routedTo n
  exact ⟨switch, pins, geometry, (s.switch_update_untouched _).andThen frame rfl rfl⟩

/-- R72: with a mute lead of 0 the routing action follows the entry to MUTING, which leaves no trace. -/
theorem State.taking_enterMuting_routedTo {s : State} (noLead : s.settings.muteLead = 0) (n : Nat) (c : Requester) :
    RoutedTo n (some (.by c)) s (s.taking n c).enterMuting := by
  have muted := (s.taking n c).mutingBegun_untouched
  obtain ⟨switch, pins, geometry, frame⟩ := (s.taking n c).mutingBegun.routingAction_routedTo n
  have begun : (s.taking n c).enterMuting = (s.taking n c).mutingBegun.routingAction n :=
    (State.enterMuting_eq _).trans (if_pos noLead)
  have now : (s.taking n c).mutingBegun.now = s.now := muted .time (by decide)
  have settings : (s.taking n c).mutingBegun.settings = s.settings := muted .settings (by decide)
  have before : (s.taking n c).mutingBegun.geometry = s.geometry := muted .geometry (by decide)
  rw [State.mutingBegun_switch, now, settings] at switch
  rw [State.mutingBegun_pins] at pins
  rw [before, settings] at geometry
  rw [begun]
  exact ⟨switch, pins, geometry, ((s.switch_update_untouched _).andThen muted (C := .switch :: muteBlocks) rfl rfl).andThen
    frame rfl rfl⟩

/-! ## Which requests are taken (R68 to R70) -/

section
variable {s : State} {n : Nat} (c : Requester)

theorem State.requestSwitch_settled (inTable : n ≤ 12) (available : s.available n = true)
    (settled : s.switch.state.settled = true) : s.requestSwitch n c = s.requestSettled n c := by
  simp [State.requestSwitch, available, settled, Nat.not_lt.mpr inTable]

theorem State.requestSwitch_inTransit (inTable : n ≤ 12) (available : s.available n = true)
    (inTransit : s.switch.state.settled = false) : s.requestSwitch n c = s.requestInTransit n c := by
  simp [State.requestSwitch, available, inTransit, Nat.not_lt.mpr inTable]

/-- R69: the routed plate is asked for again, and is shown or stays dark. -/
theorem State.requestSettled_same (same : n = s.switch.routed) (sync : s.switch.state ≠ .noSignal) :
    s.requestSettled n c = (s, .ok) := by
  simp only [State.requestSettled, if_pos same, if_neg sync]

/-- R69: in NO_SIGNAL the routed plate is sought again. -/
theorem State.requestSettled_seeks (same : n = s.switch.routed) (lost : s.switch.state = .noSignal) :
    s.requestSettled n c
      = ({ s with switch := { s.switch with origin := some (.by c) } }.enterSeeking none, .accepted) := by
  simp only [State.requestSettled, if_pos same, if_pos lost]

/-- R69, R72: a picture that shows is muted first. -/
theorem State.requestSettled_mutes (other : n ≠ s.switch.routed) (showing : s.switch.state = .showing)
    (seen : s.pins.mute = false) : s.requestSettled n c = ((s.taking n c).enterMuting, .accepted) := by
  simp [State.requestSettled, State.taking, other, showing, seen]

/-- R69: what is not seen is switched at once. -/
theorem State.requestSettled_routes (other : n ≠ s.switch.routed) (unseen : s.switch.state ≠ .showing ∨ s.pins.mute = true) :
    s.requestSettled n c = ((s.taking n c).routingAction n, .accepted) := by
  rcases unseen with dark | muted
  · simp [State.requestSettled, State.taking, other, dark]
  · simp [State.requestSettled, State.taking, other, muted]

/-- R70: a FOLLOW request is dropped in the switch of another origin, and the target's own request changes nothing. -/
theorem State.requestInTransit_dropped
    (dropped : (c = .follow ∧ s.switch.origin ≠ some (.by .follow)) ∨ n = s.switch.target) :
    s.requestInTransit n c = (s, .ok) := by
  rcases dropped with ⟨follow, origin⟩ | same
  · simp [State.requestInTransit, follow, origin]
  · simp [State.requestInTransit, same]

/-- R70: MUTING takes the new target and goes on. -/
theorem State.requestInTransit_retargets (taken : ¬(c = .follow ∧ s.switch.origin ≠ some (.by .follow)))
    (other : n ≠ s.switch.target) (muting : s.switch.state = .muting) :
    s.requestInTransit n c = (s.taking n c, .accepted) := by
  have notDropped : ¬(decide (c = .follow) && s.switch.origin != some (.by .follow)) = true := by simpa using taken
  simp only [State.requestInTransit, if_neg notDropped, if_neg other, if_pos muting]
  rfl

/-- R70: behind MUTING the switch begins again. -/
theorem State.requestInTransit_reroutes (taken : ¬(c = .follow ∧ s.switch.origin ≠ some (.by .follow)))
    (other : n ≠ s.switch.target) (routed : s.switch.state ≠ .muting) :
    s.requestInTransit n c = ((s.taking n c).routingAction n, .accepted) := by
  have notDropped : ¬(decide (c = .follow) && s.switch.origin != some (.by .follow)) = true := by simpa using taken
  simp only [State.requestInTransit, if_neg notDropped, if_neg other, if_neg routed]
  rfl

end

end Sys2Proof.Machine
end

section
/-! Replies on the room bus and the requests they make (R47, R49 to R54, R58). -/

namespace Sys2Proof.Machine

open Sys2Proof.Config

/-! ## A group of five bytes is judged (R47) -/

theorem State.busByte_outside {s : State} (h : ∀ address bytes till, s.scanner.slot ≠ .window address bytes till) (b : Byte) :
    s.busByte b = s := by
  unfold State.busByte
  split
  · rename_i window; exact (h _ _ _ window).elim
  · rfl

section
variable {s : State} {address till : Nat}

theorem State.busByte_collects {bytes : List Byte} (window : s.scanner.slot = .window address bytes till)
    (short : bytes.length ≠ 4) (b : Byte) :
    s.busByte b = { s with scanner := { s.scanner with slot := .window address (bytes ++ [b]) till } } := by
  simp only [State.busByte, window]
  unfold State.judgeReply
  split
  · rename_i five
    have length := congrArg List.length five
    simp only [List.length_append, List.length_cons, List.length_nil] at length
    omega
  · rfl

variable {who flags connects buttons b : Byte} (window : s.scanner.slot = .window address [who, flags, connects, buttons] till)
include window

theorem State.busByte_bad (bad : crc8 [who, flags, connects, buttons] ≠ b) : s.busByte b = s.slotFails address true := by
  simp [State.busByte, window, State.judgeReply, bad]

theorem State.busByte_other (good : crc8 [who, flags, connects, buttons] = b) (other : who.toNat ≠ address) :
    s.busByte b = { s with scanner := { s.scanner with slot := .window address [] till } } := by
  simp [State.busByte, window, State.judgeReply, good, other]

theorem State.busByte_good (good : crc8 [who, flags, connects, buttons] = b) (own : who.toNat = address) :
    s.busByte b = s.goodReply address (replyOf flags connects buttons) := by
  simp [State.busByte, window, State.judgeReply, good, own]

end

/-! ## A good reply (R50, R51) -/

theorem Plate.failed_eq_update (p : Plate) (limit : Nat) : p.failed limit = { p with
    missStreak := min 7 (p.missStreak + 1)
    state := if p.state = .present ∧ limit ≤ min 7 (p.missStreak + 1) then .lost else p.state } := by
  rw [Plate.failed_eq]
  split <;> rfl

/-- R50, R51: a plate that was not PRESENT, or whose two counts have not moved, makes no request. -/
theorem Reply.request_none {r : Reply} {p : Plate} (follow : Bool)
    (quiet : p.state ≠ .present ∨ (p.connects = r.connects ∧ p.buttons = r.buttons)) : r.request p follow = none := by
  rcases quiet with absent | ⟨connects, buttons⟩
  · simp [Reply.request, absent]
  · simp [Reply.request, connects, buttons]

/-- R51: the request of a PRESENT plate: PLATE on a press, FOLLOW on a connect with signal while follow is set. -/
theorem Reply.request_eq_some {r : Reply} {p : Plate} (present : p.state = .present) (follow : Bool) (c : Requester) :
    r.request p follow = some c ↔
      (p.buttons ≠ r.buttons ∧ c = .plate)
        ∨ ((p.buttons = r.buttons ∧ p.connects ≠ r.connects ∧ r.signal = true ∧ follow = true) ∧ c = .follow) := by
  have request : r.request p follow =
      if p.buttons ≠ r.buttons then some .plate
      else if p.connects ≠ r.connects ∧ r.signal = true ∧ follow = true then some .follow else none := by
    simp [Reply.request, present, and_assoc]
  rw [request]
  by_cases press : p.buttons ≠ r.buttons
  · rw [if_pos press]
    constructor
    · rintro ⟨⟩
      exact .inl ⟨press, rfl⟩
    · rintro (⟨_, rfl⟩ | ⟨⟨same, _⟩, _⟩)
      · rfl
      · exact (press same).elim
  · rw [if_neg press]
    have same : p.buttons = r.buttons := not_not.mp press
    by_cases connect : p.connects ≠ r.connects ∧ r.signal = true ∧ follow = true
    · rw [if_pos connect]
      constructor
      · rintro ⟨⟩
        exact .inr ⟨⟨same, connect⟩, rfl⟩
      · rintro (⟨changed, _⟩ | ⟨_, rfl⟩)
        · exact (press changed).elim
        · rfl
    · rw [if_neg connect]
      constructor
      · rintro ⟨⟩
      · rintro (⟨changed, _⟩ | ⟨⟨_, connected⟩, _⟩)
        · exact (press changed).elim
        · exact (connect connected).elim

theorem platesNoticed_iff (old new : Plate) :
    platesNoticed old new = true ↔ old.state ≠ new.state ∨ old.kind ≠ new.kind ∨ old.signal ≠ new.signal := by
  simp [platesNoticed, or_assoc]

section
variable (s : State) (n : Nat) (r : Reply)

/-- R51, R52: the state in which the reply's request, if any, has been made, its slot not yet ended. -/
def State.replied : State := (s.heard n r).answerPlate n (r.request (s.plate n) s.settings.follow)

theorem State.goodReply_endSlot : s.goodReply n r = (s.replied n r).endSlot n := s.goodReply_eq n r

theorem State.replied_untouched : Untouched (.scanner :: .notice .plates :: routeBlocks) s (s.replied n r) :=
  (s.heard_untouched n r).andThen (State.answerPlate_untouched _ _ _) rfl rfl

theorem State.replied_finalInForce : (s.replied n r).scanner.finalInForce = s.scanner.finalInForce := by
  have scanner : (s.replied n r).scanner = (s.heard n r).scanner := State.answerPlate_untouched _ _ _ .scanner (by decide)
  rw [scanner]
  simp [State.heard, State.setPlate]

/-- R51: a reply without a request leaves the plate's record and its notice. -/
theorem State.replied_quiet (quiet : r.request (s.plate n) s.settings.follow = none) : s.replied n r = s.heard n r := by
  rw [State.replied, quiet]
  rfl

/-- R50: the notice of a change stays pending through the request and the end of the slot. -/
theorem State.goodReply_raises
    (changed : (s.plate n).state ≠ .present ∨ (s.plate n).kind ≠ some r.kind ∨ (s.plate n).signal ≠ some r.signal) :
    Pending .plates (s.goodReply n r) := by
  have raised : Pending .plates (s.heard n r) := Pending.of_raiseIf ((platesNoticed_iff _ _).mpr changed) _
  rw [State.goodReply_endSlot]
  refine State.endSlot_keeps _ _ _ ?_
  unfold State.replied State.answerPlate
  split
  · unfold State.plateRequest
    split
    · exact State.requestSwitch_keeps _ _ _ _ raised
    · exact raised
  · exact raised

/-- R45, R46: the slot that follows a good reply, BUS_DE aside. -/
theorem State.goodReply_slot :
    let t := s.goodReply n r
    if n < s.scanner.finalInForce then t.scanner.slot = .polling (n + 1) (t.pollFrame (n + 1)) (s.now + 240)
    else t.scanner.slot = .cycleGap (s.now + 50000) := by
  have now : s.now = (s.replied n r).now := (s.replied_untouched n r .time (by decide)).symm
  have slot := (s.replied n r).endSlot_slotAfter n
  unfold SlotAfter at slot
  rw [s.replied_finalInForce, ← now, ← s.goodReply_endSlot] at slot
  split
  · rename_i more
    rw [if_pos more] at slot
    exact slot.1
  · rename_i last
    rw [if_neg last] at slot
    exact slot.1

/-- R50: a reply without a request touches the scanner, the notice and the slot that follows. -/
theorem State.goodReply_quiet (quiet : r.request (s.plate n) s.settings.follow = none) :
    SlotAfter n s (s.goodReply n r) ∧ Untouched [.scanner, .pins, .notice .plates, .attention] s (s.goodReply n r) := by
  have frame := s.heard_untouched n r
  have now : s.now = (s.heard n r).now := (frame .time (by decide)).symm
  have pins : s.pins = (s.heard n r).pins := (frame .pins (by decide)).symm
  have final : s.scanner.finalInForce = (s.heard n r).scanner.finalInForce := by simp [State.heard, State.setPlate]
  rw [State.goodReply_endSlot, s.replied_quiet n r quiet]
  exact ⟨(State.endSlot_slotAfter _ n).congr final now (congrArg Pins.busDe pins),
    frame.andThen (State.endSlot_untouched _ _) rfl rfl⟩

/-! ## The sequencer after a good reply -/

/-- The sequencer, SRCSEL, MUTE and the geometry in two states. -/
def SameRoute (s t : State) : Prop :=
  t.switch = s.switch ∧ t.pins.srcSel = s.pins.srcSel ∧ t.pins.mute = s.pins.mute ∧ t.geometry = s.geometry

theorem State.endSlot_sameRoute : SameRoute s (s.endSlot n) := by
  unfold State.endSlot
  split <;> exact ⟨rfl, rfl, rfl, rfl⟩

theorem State.heard_sameRoute : SameRoute s (s.heard n r) := by
  have pins : (s.heard n r).pins = s.pins := s.heard_untouched n r .pins (by decide)
  exact ⟨s.heard_untouched n r .switch (by decide), by rw [pins], by rw [pins], s.heard_untouched n r .geometry (by decide)⟩

/-- R51, R52: without a request that the level permits, the sequencer is left alone. -/
theorem State.goodReply_unrequested
    (unrequested : ∀ c, r.request (s.plate n) s.settings.follow = some c → permits .sourceSelect c s.policy.effective = false) :
    (s.goodReply n r).switch = s.switch ∧ (s.goodReply n r).pins.srcSel = s.pins.srcSel := by
  have policy : (s.heard n r).policy = s.policy := s.heard_untouched n r .policy (by decide)
  have kept : s.replied n r = s.heard n r := by
    unfold State.replied State.answerPlate
    split
    · rename_i c made
      rw [State.plateRequest, policy, if_neg (by simp [unrequested c made])]
    · rfl
  obtain ⟨switch, srcSel, _⟩ := (s.heard n r).endSlot_sameRoute n
  obtain ⟨switch', srcSel', _⟩ := s.heard_sameRoute n r
  rw [State.goodReply_endSlot, kept]
  exact ⟨switch.trans switch', srcSel.trans srcSel'⟩

/-- R51, R52: a permitted request is the sequencer's, on the state that has heard the reply. -/
theorem State.goodReply_requests {c : Requester} (request : r.request (s.plate n) s.settings.follow = some c)
    (permitted : permits .sourceSelect c s.policy.effective = true) :
    SameRoute ((s.heard n r).requestSwitch n c).1 (s.goodReply n r) := by
  have policy : (s.heard n r).policy = s.policy := s.heard_untouched n r .policy (by decide)
  have made : s.replied n r = ((s.heard n r).requestSwitch n c).1 := by
    rw [State.replied, request, State.answerPlate, State.plateRequest, policy, if_pos permitted]
  rw [State.goodReply_endSlot, made]
  exact State.endSlot_sameRoute _ n

theorem State.heard_plate (inTable : n - 1 < s.scanner.plates.length) : (s.heard n r).plate n = r.record :=
  State.plate_eq (by rw [State.heard_plates, List.getElem?_set_self inTable])

end

/-- R57, R68: the plate that has just been heard is available. -/
theorem State.heard_available {s : State} {n : Nat} (last : n ≤ 12) (inTable : n - 1 < s.scanner.plates.length) (r : Reply) :
    (s.heard n r).available n = true := by
  simp [State.available, s.heard_plate n r inTable, Reply.record, last]

end Sys2Proof.Machine
end

section
/-! A plate's press or connect at the switch sequencer, in each of its states (R51, R52, R69, R70), and O56. -/

namespace Sys2Proof.Machine

open Sys2Proof.Config

/-! ## What the sequencer is left with -/

/-- R64: what the statement says of a plate's request that ends in the routing action. -/
def RequestRouted (n : Nat) (c : Requester) (s t : State) : Prop :=
  t.switch =
      { s.switch with
        state := .masking, routed := n, target := n, origin := some (.by c), lockTime := 0, reference := none, ring := []
        streak := 0, missMark := false, timerEnd := s.now + s.settings.maskTime * 1000, routedAt := s.now }
    ∧ t.pins.srcSel = n ∧ t.pins.mute = true ∧ t.geometry.active = nth s.geometry.presets n {}

theorem State.heard_fields (s : State) (n : Nat) (r : Reply) :
    (s.heard n r).switch = s.switch ∧ (s.heard n r).pins = s.pins ∧ (s.heard n r).settings = s.settings
      ∧ (s.heard n r).now = s.now ∧ (s.heard n r).geometry = s.geometry :=
  have frame := s.heard_untouched n r
  ⟨frame .switch (by decide), frame .pins (by decide), frame .settings (by decide), frame .time (by decide),
    frame .geometry (by decide)⟩

section
variable {s : State} {n : Nat} {r : Reply} {c : Requester}
  (request : r.request (s.plate n) s.settings.follow = some c)
  (permitted : permits .sourceSelect c s.policy.effective = true)
include request permitted

/-- R69, R70: a request that changes nothing leaves the sequencer as it was before the reply. -/
theorem State.goodReply_keeps_route {status : Status} (kept : (s.heard n r).requestSwitch n c = (s.heard n r, status)) :
    (s.goodReply n r).switch = s.switch ∧ (s.goodReply n r).pins.srcSel = s.pins.srcSel := by
  obtain ⟨switch, srcSel, _⟩ := s.goodReply_requests n r request permitted
  obtain ⟨switch', srcSel', _⟩ := s.heard_sameRoute n r
  rw [kept] at switch srcSel
  exact ⟨switch.trans switch', srcSel.trans srcSel'⟩

theorem State.goodReply_routes {x : State} {status : Status} (taken : (s.heard n r).requestSwitch n c = (x, status))
    (route : RoutedTo n (some (.by c)) (s.heard n r) x) : RequestRouted n c s (s.goodReply n r) := by
  obtain ⟨switch, srcSel, mute, geometry⟩ := s.goodReply_requests n r request permitted
  obtain ⟨heardSwitch, _, heardSettings, heardNow, heardGeometry⟩ := s.heard_fields n r
  obtain ⟨routeSwitch, routePins, routeGeometry, _⟩ := route
  rw [taken] at switch srcSel mute geometry
  rw [heardSwitch, heardSettings, heardNow] at routeSwitch
  rw [heardGeometry] at routeGeometry
  exact ⟨switch.trans routeSwitch, srcSel.trans (by rw [routePins]), mute.trans (by rw [routePins]),
    by rw [geometry, routeGeometry]; rfl⟩

variable (last : n ≤ 12) (inTable : n - 1 < s.scanner.plates.length)
include last inTable

/-! ## A settled state (R69) -/

section
variable (settled : s.switch.state.settled = true)
include settled

omit request permitted in
theorem State.heard_requestSettled :
    (s.heard n r).requestSwitch n c = (s.heard n r).requestSettled n c := by
  obtain ⟨switch, _⟩ := s.heard_fields n r
  exact State.requestSwitch_settled c last (State.heard_available last inTable r) (by rwa [switch])

/-- R69: the plate routed already. -/
theorem State.goodReply_routed (same : n = s.switch.routed) (sync : s.switch.state ≠ .noSignal) :
    (s.goodReply n r).switch = s.switch := by
  obtain ⟨switch, _⟩ := s.heard_fields n r
  obtain ⟨route, _⟩ := State.goodReply_keeps_route request permitted ((State.heard_requestSettled last inTable settled).trans
    (State.requestSettled_same c (by rwa [switch]) (by rwa [switch])))
  exact route

/-- R69, R74: the plate routed already, which had no signal: its new edge is the one sought. -/
theorem State.goodReply_seeks (same : n = s.switch.routed) (lost : s.switch.state = .noSignal) :
    (s.goodReply n r).switch = { s.switch with
      state := .seeking, origin := some (.by c), edge := some r.edge, ring := [], streak := 0, missMark := false
      reference := none, timerEnd := s.now + s.settings.seekWindow * 1000 } := by
  obtain ⟨switch, _, settings, now, _⟩ := s.heard_fields n r
  obtain ⟨route, _⟩ := s.goodReply_requests n r request permitted
  rw [State.heard_requestSettled last inTable settled,
    State.requestSettled_seeks c (by rwa [switch]) (by rwa [switch])] at route
  obtain ⟨sought, _⟩ := State.enterSeeking_seekingFrom
    { s.heard n r with switch := { (s.heard n r).switch with origin := some (.by c) } } none
  have edge : ((s.heard n r).plate s.switch.routed).syncEdge = some r.edge := by
    rw [← same, s.heard_plate n r inTable]
    rfl
  refine route.trans (sought.trans ?_)
  simp only [State.plate, switch, settings, now] at edge ⊢
  rw [edge]

/-- R69, R72: another plate is routed at once where nothing is seen, or after a mute lead of 0. -/
theorem State.goodReply_routes_settled (other : n ≠ s.switch.routed)
    (unseen : s.switch.state ≠ .showing ∨ s.pins.mute = true ∨ s.settings.muteLead = 0) :
    RequestRouted n c s (s.goodReply n r) := by
  obtain ⟨switch, pins, settings, _⟩ := s.heard_fields n r
  have judged := State.heard_requestSettled (r := r) (c := c) last inTable settled
  by_cases muted : s.switch.state ≠ .showing ∨ s.pins.mute = true
  · exact State.goodReply_routes request permitted
      (judged.trans (State.requestSettled_routes c (by rwa [switch]) (by rwa [switch, pins])))
      ((s.heard n r).taking_routedTo n c)
  · obtain ⟨showing, seen⟩ : s.switch.state = .showing ∧ s.pins.mute = false := by simpa using muted
    have noLead : s.settings.muteLead = 0 := by simpa [showing, seen] using unseen
    exact State.goodReply_routes request permitted
      (judged.trans (State.requestSettled_mutes c (by rwa [switch]) (by rwa [switch]) (by rwa [pins])))
      (State.taking_enterMuting_routedTo (by rwa [settings]) n c)

/-- R69, R72: a picture that shows is muted for the mute lead. -/
theorem State.goodReply_mutes (other : n ≠ s.switch.routed) (showing : s.switch.state = .showing)
    (seen : s.pins.mute = false) (lead : 0 < s.settings.muteLead) :
    (s.goodReply n r).switch = { s.switch with
        state := .muting, target := n, origin := some (.by c), ring := [], streak := 0, missMark := false
        timerEnd := s.now + s.settings.muteLead * 1000 }
      ∧ (s.goodReply n r).pins.mute = true ∧ (s.goodReply n r).pins.srcSel = s.pins.srcSel := by
  obtain ⟨switch, pins, settings, now, _⟩ := s.heard_fields n r
  obtain ⟨route, srcSel, mute, _⟩ := s.goodReply_requests n r request permitted
  have hasLead : ((s.heard n r).taking n c).settings.muteLead ≠ 0 := by
    rw [show ((s.heard n r).taking n c).settings = s.settings from settings]
    exact lead.ne'
  rw [State.heard_requestSettled last inTable settled,
    State.requestSettled_mutes c (by rwa [switch]) (by rwa [switch]) (by rwa [pins]), State.enterMuting_eq,
    if_neg hasLead] at route srcSel mute
  rw [State.mutingBegun_switch] at route
  rw [State.mutingBegun_pins] at srcSel mute
  simp only [State.taking, switch, pins, settings, now] at route srcSel mute
  exact ⟨route, mute, srcSel⟩

end

/-! ## A switch in transit (R70) -/

section
variable (inTransit : s.switch.state.settled = false)
include inTransit

omit request permitted in
theorem State.heard_requestInTransit :
    (s.heard n r).requestSwitch n c = (s.heard n r).requestInTransit n c := by
  obtain ⟨switch, _⟩ := s.heard_fields n r
  exact State.requestSwitch_inTransit c last (State.heard_available last inTable r) (by rwa [switch])

/-- R70: a FOLLOW request in the switch of another origin, or the request of the target itself. -/
theorem State.goodReply_dropped
    (dropped : (c = .follow ∧ s.switch.origin ≠ some (.by .follow)) ∨ n = s.switch.target) :
    (s.goodReply n r).switch = s.switch ∧ (s.goodReply n r).pins.srcSel = s.pins.srcSel := by
  obtain ⟨switch, _⟩ := s.heard_fields n r
  exact State.goodReply_keeps_route request permitted ((State.heard_requestInTransit last inTable inTransit).trans
    (State.requestInTransit_dropped c (by rwa [switch])))

variable (taken : ¬(c = .follow ∧ s.switch.origin ≠ some (.by .follow))) (other : n ≠ s.switch.target)
include taken other

/-- R70: MUTING goes on with the new target. -/
theorem State.goodReply_retargets (muting : s.switch.state = .muting) :
    (s.goodReply n r).switch = { s.switch with target := n, origin := some (.by c) } := by
  obtain ⟨switch, _⟩ := s.heard_fields n r
  obtain ⟨route, _⟩ := s.goodReply_requests n r request permitted
  rw [State.heard_requestInTransit last inTable inTransit,
    State.requestInTransit_retargets c (by rwa [switch]) (by rwa [switch]) (by rwa [switch])] at route
  rw [route, State.taking, switch]

/-- R70: behind MUTING the switch begins again. -/
theorem State.goodReply_reroutes (routed : s.switch.state ≠ .muting) : RequestRouted n c s (s.goodReply n r) := by
  obtain ⟨switch, _⟩ := s.heard_fields n r
  exact State.goodReply_routes request permitted ((State.heard_requestInTransit last inTable inTransit).trans
    (State.requestInTransit_reroutes c (by rwa [switch]) (by rwa [switch]) (by rwa [switch])))
    ((s.heard n r).taking_routedTo n c)

end

end

/-! ## The statement -/

/-- R112: the levels at which a plate's requests are permitted. -/
theorem permits_plate_iff {c : Requester} (plate : c = .plate ∨ c = .follow) (level : Level) :
    permits .sourceSelect c level = true ↔ level = .openRoom ∨ level = .present := by
  rcases plate with rfl | rfl <;> cases level <;> decide

/-- Settles O56: the group by its CRC and address, then the request by the sequencer's state. -/
theorem repliesAreJudgedAndPlatesHeard : Obligations.RepliesAreJudgedAndPlatesHeard := by
  refine ⟨fun b s => ⟨fun h => congrArg _ (State.busByte_outside h b), fun address bytes till window =>
    ⟨fun short => congrArg _ (State.busByte_collects window short b), ?_⟩⟩, ?_⟩
  · rintro who flags connects buttons rfl
    refine ⟨fun good other => congrArg _ (State.busByte_other window good other), fun p _ at_n =>
      ⟨fun bad => ?_, fun good own => ?_⟩⟩
    · obtain ⟨plates, badReplies, misses, raised, slot, frame⟩ := s.slotFails_spec at_n true
      exact ⟨_, _, congrArg Host.Outcome.next (State.busByte_bad window bad), p.failed_eq_update _, raised, plates,
        badReplies, misses, slot, frame⟩
    · have plate := State.plate_eq at_n
      refine ⟨_, (replyOf flags connects buttons).record, congrArg Host.Outcome.next (State.busByte_good window good own),
        s.goodReply_plates _ _, rfl, rfl, rfl, rfl, rfl, rfl, rfl, fun changed => ?_, s.goodReply_slot _ _,
        fun quiet => ?_, s.goodReply_untouched _ _⟩
      · exact s.goodReply_raises _ _ (by rwa [plate])
      · exact s.goodReply_quiet _ _ (by rw [plate]; exact Reply.request_none _ quiet)
  · intro flags connects buttons address till p s c first last at_n present window
    have plate := State.plate_eq at_n
    have inTable : address - 1 < s.scanner.plates.length := (List.getElem?_eq_some_iff.mp at_n).1
    have own : (byte address).toNat = address := by
      rw [byte, BitVec.toNat_ofNat]
      omega
    have made := Reply.request_eq_some (r := replyOf flags connects buttons) present s.settings.follow
    refine ⟨_, congrArg Host.Outcome.next (State.busByte_good window rfl own), fun none => ?_, fun level heard => ?_⟩
    · refine s.goodReply_unrequested _ _ fun c' request => ?_
      rw [plate] at request
      have caused := (made c').mp request
      rcases none with ⟨unpressed, unfollowed⟩ | closed
      · exact caused.elim (fun ⟨press, _⟩ => (unpressed press).elim) (fun ⟨follow, _⟩ => (unfollowed follow).elim)
      · rw [← Bool.not_eq_true, permits_plate_iff (caused.imp And.right And.right)]
        exact closed
    · have request : (replyOf flags connects buttons).request (s.plate address) s.settings.follow = some c := by
        rw [plate]
        exact (made c).mpr heard
      have permitted := (permits_plate_iff (heard.imp And.right And.right) s.policy.effective).mpr level
      have routes := State.goodReply_routes_settled request permitted last inTable
      have reroutes := State.goodReply_reroutes request permitted last inTable
      refine ⟨fun same state => ?_, fun same lost => ?_, fun other state => ?_, fun other showing => ?_,
        State.goodReply_dropped request permitted last inTable, fun muting taken other => ?_, fun state taken other => ?_⟩
      · have routed := State.goodReply_routed request permitted last inTable
        rcases state with dark | showing
        · exact routed (by rw [dark]; rfl) same (by rw [dark]; decide)
        · exact routed (by rw [showing]; rfl) same (by rw [showing]; decide)
      · exact State.goodReply_seeks request permitted last inTable (by rw [lost]; rfl) same lost
      · rcases state with dark | lost | ⟨showing, unseen⟩
        · exact routes (by rw [dark]; rfl) other (.inl (by rw [dark]; decide))
        · exact routes (by rw [lost]; rfl) other (.inl (by rw [lost]; decide))
        · exact routes (by rw [showing]; rfl) other (.inr unseen)
      · exact State.goodReply_mutes request permitted last inTable (by rw [showing]; rfl) other showing
      · exact State.goodReply_retargets request permitted last inTable (by rw [muting]; rfl) taken other muting
      · rcases state with masking | seeking | confirming
        · exact reroutes (by rw [masking]; rfl) taken other (by rw [masking]; decide)
        · exact reroutes (by rw [seeking]; rfl) taken other (by rw [seeking]; decide)
        · exact reroutes (by rw [confirming]; rfl) taken other (by rw [confirming]; decide)

end Sys2Proof.Machine
end

section
/-! Law 6: MUTE stays the union of its four causes, and SRCSEL the routed plate (R64 to R66, R87). -/

namespace Sys2Proof.Machine

open Sys2Proof.Config

/-! ## The invariant, part by part -/

/-- R64: SRCSEL holds the routed plate. It is all that an operation owes before MUTE is settled. -/
def State.selectsRouted (s : State) : Prop := s.pins.srcSel = s.switch.routed

theorem State.pictureFollows_iff (s : State) :
    s.pictureFollows ↔ s.selectsRouted ∧ s.pins.mute = muteWanted s.switch s.lamp.state := Iff.rfl

theorem State.pictureFollows.routed {s : State} (h : s.pictureFollows) : s.selectsRouted := h.1

/-- An operation that touches neither the sequencer nor the pins keeps SRCSEL the routed plate. -/
theorem Untouched.selectsRouted {A : List Block} {s t : State} (h : Untouched A s t)
    (apart : [Block.switch, .pins].all (fun b => decide (b ∉ A)) = true) (f : s.selectsRouted) : t.selectsRouted := by
  simp only [List.all_cons, List.all_nil, Bool.and_true, Bool.and_eq_true, decide_eq_true_eq] at apart
  obtain ⟨noSwitch, noPins⟩ := apart
  have switch : t.switch = s.switch := h .switch noSwitch
  have pins : t.pins = s.pins := h .pins noPins
  rw [State.selectsRouted, switch, pins]
  exact f

/-- An operation that touches neither the sequencer, the pins nor the lamp controller keeps the invariant. -/
theorem Untouched.pictureFollows {A : List Block} {s t : State} (h : Untouched A s t)
    (apart : [Block.switch, .pins, .lamp].all (fun b => decide (b ∉ A)) = true) (f : s.pictureFollows) :
    t.pictureFollows := by
  simp only [List.all_cons, List.all_nil, Bool.and_true, Bool.and_eq_true, decide_eq_true_eq] at apart
  obtain ⟨noSwitch, noPins, noLamp⟩ := apart
  have switch : t.switch = s.switch := h .switch noSwitch
  have pins : t.pins = s.pins := h .pins noPins
  have lamp : t.lamp = s.lamp := h .lamp noLamp
  rw [State.pictureFollows, switch, pins, lamp]
  exact f

/-- R65: settling MUTE establishes the invariant, whatever MUTE was. -/
theorem State.settleMute_pictureFollows {s : State} (routed : s.selectsRouted) : s.settleMute.pictureFollows := by
  rw [State.pictureFollows_iff, State.selectsRouted, State.settleMute_pins, State.settleMute_switch, State.settleMute_lamp]
  exact ⟨routed, rfl⟩

/-- R41, R65: so does settling the lamp. -/
theorem State.settleLamp_pictureFollows {s : State} (routed : s.selectsRouted) (old : Lamp) :
    (s.settleLamp old).pictureFollows := by
  rw [State.pictureFollows_iff, State.selectsRouted, State.settleLamp_pins, State.settleLamp_switch, State.settleLamp_lamp]
  exact ⟨routed, rfl⟩

/-- The lamp controller drives neither SRCSEL nor the sequencer, so any new lamp may be settled. -/
theorem State.settleNewLamp_pictureFollows {s : State} (routed : s.selectsRouted) (new old : Lamp) :
    (State.settleLamp { s with lamp := new } old).pictureFollows :=
  State.settleLamp_pictureFollows ((s.lamp_update_untouched new).selectsRouted rfl routed) old

/-! ## The switch sequencer -/

/-- R64: the routing action drives SRCSEL with the plate it routes, whatever was routed before. -/
theorem State.routingAction_pictureFollows (s : State) (n : Nat) : (s.routingAction n).pictureFollows := by
  refine State.settleMute_pictureFollows ?_
  rw [State.selectsRouted, State.installPreset, State.putGeometry_pins, State.putGeometry_switch]

theorem State.enterSeeking_pictureFollows {s : State} (routed : s.selectsRouted) (r : Option Nat) :
    (s.enterSeeking r).pictureFollows := State.settleMute_pictureFollows routed

theorem State.enterSettled_pictureFollows {s : State} (routed : s.selectsRouted) (x : SwitchState) :
    (s.enterSettled x).pictureFollows := State.settleMute_pictureFollows routed

theorem State.loseSync_pictureFollows {s : State} (routed : s.selectsRouted) (r : Option Nat) :
    (s.loseSync r).pictureFollows :=
  (State.raise_untouched _ _).pictureFollows rfl (State.enterSeeking_pictureFollows routed r)

theorem State.enterMuting_pictureFollows {s : State} (routed : s.selectsRouted) : s.enterMuting.pictureFollows := by
  rw [State.enterMuting_eq]
  split
  · exact State.routingAction_pictureFollows _ _
  · exact State.settleMute_pictureFollows routed

theorem State.requestSettled_pictureFollows {s : State} (h : s.pictureFollows) (n : Nat) (c : Requester) :
    (s.requestSettled n c).1.pictureFollows := by
  simp only [State.requestSettled]
  split
  · split
    · refine State.enterSeeking_pictureFollows ?_ none
      exact h.routed
    · exact h
  · split
    · exact State.enterMuting_pictureFollows h.routed
    · exact State.routingAction_pictureFollows _ _

theorem State.requestInTransit_pictureFollows {s : State} (h : s.pictureFollows) (n : Nat) (c : Requester) :
    (s.requestInTransit n c).1.pictureFollows := by
  simp only [State.requestInTransit]
  split
  · exact h
  · split
    · exact h
    · split
      · exact h
      · exact State.routingAction_pictureFollows _ _

theorem State.requestSwitch_pictureFollows {s : State} (h : s.pictureFollows) (n : Nat) (c : Requester) :
    (s.requestSwitch n c).1.pictureFollows := by
  unfold State.requestSwitch
  split
  · exact h
  · split
    · exact h
    · split
      · exact State.requestSettled_pictureFollows h n c
      · exact State.requestInTransit_pictureFollows h n c

/-- R76, R78, R79: an interval moves the measurement, which no output follows, or makes the sequencer CONFIRMING. -/
theorem State.judgeSeeking_pictureFollows {s : State} (h : s.pictureFollows) (i : Nat) :
    (s.judgeSeeking i).pictureFollows := by
  simp only [State.judgeSeeking]
  split
  · exact h
  · split
    · exact h
    · split
      · split
        · exact State.settleMute_pictureFollows h.routed
        · exact h
      · exact h

theorem State.judgeShowing_pictureFollows {s : State} (h : s.pictureFollows) (i : Nat) :
    (s.judgeShowing i).pictureFollows := by
  unfold State.judgeShowing
  split
  · exact h
  · split
    · exact State.loseSync_pictureFollows h.routed _
    · exact h

theorem State.takeEdge_pictureFollows {s : State} (h : s.pictureFollows) : s.takeEdge.pictureFollows := by
  have timed : State.pictureFollows { s with switch := { s.switch with reference := some s.now } } := h
  simp only [State.takeEdge]
  split
  · split <;> exact h
  · split
    · exact State.judgeShowing_pictureFollows timed _
    · exact State.judgeSeeking_pictureFollows timed _

theorem State.vsync_pictureFollows {s : State} (h : s.pictureFollows) (e : SyncEdge) : (s.vsync e).pictureFollows := by
  unfold State.vsync
  split
  · exact State.takeEdge_pictureFollows h
  · exact h

theorem State.muteLeadEnds_pictureFollows {s : State} (h : s.pictureFollows) : s.muteLeadEnds.pictureFollows := by
  unfold State.muteLeadEnds
  split
  · exact State.routingAction_pictureFollows _ _
  · exact h

theorem State.maskEnds_pictureFollows {s : State} (h : s.pictureFollows) : s.maskEnds.pictureFollows := by
  unfold State.maskEnds
  split
  · have reached : (s.reach s.switch.timerEnd).selectsRouted := h.routed
    dsimp only
    split
    · exact State.enterSettled_pictureFollows reached _
    · exact State.enterSeeking_pictureFollows reached _
  · exact h

theorem State.seekEnds_pictureFollows {s : State} (h : s.pictureFollows) : s.seekEnds.pictureFollows := by
  unfold State.seekEnds
  split
  · dsimp only
    split
    · exact State.routingAction_pictureFollows _ _
    · exact State.enterSettled_pictureFollows (s := s.reach s.switch.timerEnd) h.routed _
  · exact h

theorem State.confirmEnds_pictureFollows {s : State} (h : s.pictureFollows) : s.confirmEnds.pictureFollows := by
  unfold State.confirmEnds
  split
  · exact State.settleMute_pictureFollows h.routed
  · exact h

theorem State.watchEnds_pictureFollows {s : State} (h : s.pictureFollows) : s.watchEnds.pictureFollows := by
  unfold State.watchEnds
  split
  · exact State.loseSync_pictureFollows (s := s.reach s.switch.timerEnd) h.routed _
  · exact h

/-! ## The room bus, whose driver is a pin of its own -/

theorem State.endSlot_pictureFollows {s : State} (h : s.pictureFollows) (n : Nat) : (s.endSlot n).pictureFollows := by
  unfold State.endSlot
  split <;> exact h

theorem State.startCycle_pictureFollows {s : State} (h : s.pictureFollows) : s.startCycle.pictureFollows := by
  simp only [State.startCycle, State.startPoll, State.pictureFollows, State.raiseIf_pins, State.raiseIf_switch,
    State.raiseIf_lamp]
  exact h

theorem State.slotFails_pictureFollows {s : State} (h : s.pictureFollows) (n : Nat) (bad : Bool) :
    (s.slotFails n bad).pictureFollows :=
  State.endSlot_pictureFollows ((s.failedAt_untouched n bad).pictureFollows rfl h) n

theorem State.plateRequest_pictureFollows {s : State} (h : s.pictureFollows) (n : Nat) (c : Requester) :
    (s.plateRequest n c).pictureFollows := by
  unfold State.plateRequest
  split
  · exact State.requestSwitch_pictureFollows h n c
  · exact h

theorem State.goodReply_pictureFollows {s : State} (h : s.pictureFollows) (n : Nat) (r : Reply) :
    (s.goodReply n r).pictureFollows := by
  have heard := (s.heard_untouched n r).pictureFollows rfl h
  rw [State.goodReply_eq]
  refine State.endSlot_pictureFollows ?_ n
  unfold State.answerPlate
  split
  · exact State.plateRequest_pictureFollows heard _ _
  · exact heard

theorem State.busByte_pictureFollows {s : State} (h : s.pictureFollows) (b : Byte) : (s.busByte b).pictureFollows := by
  unfold State.busByte
  split
  · unfold State.judgeReply
    split
    · split
      · exact State.slotFails_pictureFollows h _ _
      · split
        · exact State.goodReply_pictureFollows h _ _
        · exact h
    · exact h
  · exact h

theorem State.pollEnds_pictureFollows {s : State} (h : s.pictureFollows) : s.pollEnds.pictureFollows := by
  unfold State.pollEnds
  split <;> exact h

theorem State.windowEnds_pictureFollows {s : State} (h : s.pictureFollows) : s.windowEnds.pictureFollows := by
  unfold State.windowEnds
  split
  · exact State.slotFails_pictureFollows ((s.reach_untouched _).pictureFollows rfl h) _ _
  · exact h

theorem State.cycleGapEnds_pictureFollows {s : State} (h : s.pictureFollows) : s.cycleGapEnds.pictureFollows := by
  unfold State.cycleGapEnds
  split
  · exact State.startCycle_pictureFollows ((s.reach_untouched _).pictureFollows rfl h)
  · exact h

/-! ## The lamp controller -/

theorem State.startAttempt_pictureFollows {s : State} (routed : s.selectsRouted) (first : Bool) :
    (s.startAttempt first).pictureFollows :=
  State.settleLamp_pictureFollows ((State.chargeStrike_untouched _).selectsRouted rfl
    ((s.lamp_update_untouched _).selectsRouted rfl routed)) _

theorem State.holdStrike_pictureFollows {s : State} (routed : s.selectsRouted) (cause : Blocked) :
    (s.holdStrike cause).pictureFollows :=
  (State.raiseIf_untouched _ _ _).pictureFollows rfl
    (State.settleNewLamp_pictureFollows routed _ _)

/-- R23, R33: a strike passes the gate or is held, and MUTE is settled in either case. -/
theorem State.gate_pictureFollows {s : State} (routed : s.selectsRouted) (first : Bool) :
    (if s.gatePasses then s.startAttempt first else s.holdStrike s.blockCause).pictureFollows := by
  split
  · exact State.startAttempt_pictureFollows routed first
  · exact State.holdStrike_pictureFollows routed _

theorem State.strikeOrHold_pictureFollows {s : State} (routed : s.selectsRouted) : s.strikeOrHold.pictureFollows :=
  State.gate_pictureFollows routed true

theorem State.recheckStrike_pictureFollows {s : State} (h : s.pictureFollows) : s.recheckStrike.pictureFollows := by
  unfold State.recheckStrike
  split
  · exact h
  · split
    · exact State.startAttempt_pictureFollows h.routed _
    · split
      · exact h
      · exact State.holdStrike_pictureFollows h.routed _
  · exact h

theorem State.handAccount_pictureFollows {s : State} (h : s.pictureFollows) (old : Account) :
    (s.handAccount old).pictureFollows := by
  unfold State.handAccount
  split
  · exact h
  · exact State.recheckStrike_pictureFollows (State.settleLamp_pictureFollows h.routed _)

theorem State.extinguish_pictureFollows {s : State} (routed : s.selectsRouted) (outage : Bool) :
    (s.extinguish outage).pictureFollows :=
  State.settleLamp_pictureFollows ((State.endBurn_untouched _ _).selectsRouted rfl
    ((s.lamp_update_untouched _).selectsRouted rfl routed)) _

theorem State.setDemand_pictureFollows {s : State} (h : s.pictureFollows) (on : Bool) : (s.setDemand on).pictureFollows := by
  have taken : State.selectsRouted { s with lamp := { s.lamp with demand := on } } := h.routed
  simp only [State.setDemand]
  split
  · exact h
  · split
    · exact State.strikeOrHold_pictureFollows taken
    · exact State.settleNewLamp_pictureFollows taken _ _
    · exact State.settleNewLamp_pictureFollows taken _ _
    · exact State.settleNewLamp_pictureFollows taken _ _
    · exact h
    · exact h
    · exact State.extinguish_pictureFollows taken _

theorem State.setRequested_pictureFollows {s : State} (h : s.pictureFollows) (level : LampLevel) :
    (s.setRequested level).pictureFollows := by
  unfold State.setRequested
  split
  · exact h
  · exact State.settleNewLamp_pictureFollows h.routed _ _

theorem State.setTemp_pictureFollows {s : State} (h : s.pictureFollows) (t : TempState) : (s.setTemp t).pictureFollows := by
  by_cases same : s.lamp.temp = t
  · rw [State.setTemp_same same]
    exact h
  · have taken : (s.tempTaken t).pictureFollows := State.settleNewLamp_pictureFollows h.routed _ _
    rw [State.setTemp_eq same]
    split
    · exact State.extinguish_pictureFollows taken.routed _
    · exact State.recheckStrike_pictureFollows taken

theorem State.strikeWindowEnds_pictureFollows {s : State} (h : s.pictureFollows) : s.strikeWindowEnds.pictureFollows := by
  unfold State.strikeWindowEnds
  split
  · have counted : (s.reach s.lamp.timerEnd).countFailed.selectsRouted := h.routed
    dsimp only
    split <;> exact State.settleNewLamp_pictureFollows counted _ _
  · exact h

theorem State.retryWaitEnds_pictureFollows {s : State} (h : s.pictureFollows) : s.retryWaitEnds.pictureFollows := by
  unfold State.retryWaitEnds
  split
  · exact State.gate_pictureFollows (s := s.reach s.lamp.timerEnd) h.routed false
  · exact h

theorem State.warmUpEnds_pictureFollows {s : State} (h : s.pictureFollows) : s.warmUpEnds.pictureFollows := by
  unfold State.warmUpEnds
  split
  · exact State.settleNewLamp_pictureFollows (s := s.reach s.lamp.timerEnd) h.routed _ _
  · exact h

theorem State.cooldownEnds_pictureFollows {s : State} (h : s.pictureFollows) : s.cooldownEnds.pictureFollows := by
  unfold State.cooldownEnds
  split
  · have cooled : s.cooled.pictureFollows :=
      State.settleNewLamp_pictureFollows (s := s.reach s.lamp.timerEnd) h.routed _ _
    dsimp only
    split
    · exact State.strikeOrHold_pictureFollows cooled.routed
    · exact cooled
  · exact h

theorem State.litConfirms_pictureFollows {s : State} (h : s.pictureFollows) : s.litConfirms.pictureFollows := by
  unfold State.litConfirms
  split
  · split
    · exact State.settleNewLamp_pictureFollows ((State.countIgnition_untouched _).selectsRouted rfl
        ((s.reach_untouched _).selectsRouted rfl h.routed)) _ _
    · exact h
  · exact h

theorem State.outageFalls_pictureFollows {s : State} (h : s.pictureFollows) : s.outageFalls.pictureFollows := by
  unfold State.outageFalls
  split
  · split
    · exact State.extinguish_pictureFollows ((s.reach_untouched _).selectsRouted rfl h.routed) _
    · exact h
  · exact h

/-- R25, R31: LIT is an input; watching it moves the 100 ms alone. -/
theorem State.litChanges_pictureFollows {s : State} (h : s.pictureFollows) (high : Bool) :
    (s.litChanges high).pictureFollows := by
  simp only [State.litChanges]
  split
  · exact h
  · split <;> exact h

theorem State.accountSecond_pictureFollows {s : State} (h : s.pictureFollows) : s.accountSecond.pictureFollows := by
  refine (State.countWarm_untouched _).pictureFollows rfl ?_
  unfold State.chargeSecond
  split
  · exact (State.checkpointIfDue_untouched _).pictureFollows rfl (State.handAccount_pictureFollows
      ((State.deriveStatus_untouched _).pictureFollows rfl ((s.account_update_untouched _).pictureFollows rfl h)) _)
  · exact h

/-! ## The policy unit and the session controller -/

theorem State.deriveEffective_pictureFollows {s : State} (h : s.pictureFollows) (q : Bool) :
    (s.deriveEffective q).pictureFollows := by
  unfold State.deriveEffective
  split
  · exact h
  · exact State.recheckStrike_pictureFollows ((State.raiseIf_untouched _ _ _).pictureFollows rfl
      ((s.policy_update_untouched _).pictureFollows rfl h))

theorem State.setOverride_pictureFollows {s : State} (h : s.pictureFollows) (o : Option Override) :
    (s.setOverride o).pictureFollows :=
  State.deriveEffective_pictureFollows ((s.policy_update_untouched _).pictureFollows rfl h) _

theorem State.setBase_pictureFollows {s : State} (h : s.pictureFollows) (level : Level) (q : Bool) :
    (s.setBase level q).pictureFollows :=
  State.deriveEffective_pictureFollows ((s.policy_update_untouched _).pictureFollows rfl h) _

/-- R65, R143: bridge mute is the last of the values handed over, and settles MUTE. -/
theorem State.handOver_pictureFollows {s : State} (h : s.pictureFollows) (q : Bool) : (s.handOver q).pictureFollows := by
  have demanded := State.setDemand_pictureFollows (State.setRequested_pictureFollows
    (State.setBase_pictureFollows h s.baseLevel q) s.session.requested) s.session.demand
  exact State.settleMute_pictureFollows demanded.routed

theorem State.issueSource_pictureFollows {s : State} (h : s.pictureFollows) (n : Nat) : (s.issueSource n).pictureFollows :=
  (State.setOwed_untouched _ _).pictureFollows rfl (State.requestSwitch_pictureFollows h n .schedule)

theorem State.serveSource_pictureFollows {s : State} (h : s.pictureFollows) (started : Bool) :
    (s.serveSource started).pictureFollows := by
  simp only [State.serveSource]
  split
  · split
    · split
      · exact h
      · exact State.issueSource_pictureFollows h _
    · split
      · split
        · exact h
        · split
          · exact State.issueSource_pictureFollows h _
          · exact (s.setOwed_untouched none).pictureFollows rfl h
      · exact h
  · exact h

theorem State.putSession_pictureFollows {s : State} (h : s.pictureFollows) (r : Session) :
    (s.putSession r).pictureFollows :=
  (State.raiseIf_untouched _ _ _).pictureFollows rfl
    (State.handOver_pictureFollows ((s.session_update_untouched r).pictureFollows rfl h) _)

theorem State.runner_pictureFollows {s : State} (h : s.pictureFollows) (ev : RunnerEvent) : (s.runner ev).pictureFollows :=
  (State.raiseIf_untouched _ _ _).pictureFollows rfl (State.serveSource_pictureFollows
    (State.handOver_pictureFollows ((s.session_update_untouched _).pictureFollows rfl h) _) _)

/-- R134, R141: the finder recomputes, then the runner takes the event. -/
theorem State.recompute_runner_pictureFollows {s : State} (h : s.pictureFollows) (q : Bool) (ev : RunnerEvent) :
    ((s.recompute q).runner ev).pictureFollows :=
  State.runner_pictureFollows ((s.recompute_untouched q).pictureFollows rfl h) ev

theorem State.takeMinute_pictureFollows {s : State} (h : s.pictureFollows) (wrapped first : Bool) :
    (s.takeMinute wrapped first).pictureFollows := by
  unfold State.takeMinute
  split
  · exact h
  · split
    · exact State.recompute_runner_pictureFollows (State.setOverride_pictureFollows h _) _ _
    · exact State.setOverride_pictureFollows (State.recompute_runner_pictureFollows h _ _) _

theorem State.secondPasses_pictureFollows {s : State} (h : s.pictureFollows) (chargeFirst countdownFirst : Bool) :
    (s.secondPasses chargeFirst countdownFirst).pictureFollows := by
  have clock := s.advanceClock_untouched.pictureFollows rfl h
  simp only [State.secondPasses]
  split
  · exact State.accountSecond_pictureFollows clock
  · split
    · exact State.takeMinute_pictureFollows (State.accountSecond_pictureFollows clock) _ _
    · exact State.accountSecond_pictureFollows (State.takeMinute_pictureFollows clock _ _)

theorem State.changeTable_pictureFollows {s : State} (h : s.pictureFollows) (table : List Entry) (replaced : Option Nat) :
    (s.changeTable table replaced).pictureFollows := by
  have put := (s.table_update_untouched table).pictureFollows rfl h
  exact State.recompute_runner_pictureFollows ((State.queueKind_untouched _ .schedule).pictureFollows rfl
    ((State.raise_untouched _ .schedule).pictureFollows rfl put)) _ _

/-! ## The requests -/

theorem State.serviceAccount_pictureFollows {s : State} (h : s.pictureFollows) (a : Account) :
    (s.serviceAccount a).pictureFollows := by
  have derived := (State.deriveStatus_untouched _).pictureFollows rfl
    ((s.account_update_untouched { a with checkpoint := 0 }).pictureFollows rfl h)
  exact State.handAccount_pictureFollows ((State.queueKind_untouched _ .account).pictureFollows rfl
    ((State.raiseIf_untouched _ _ .account).pictureFollows rfl derived)) _

theorem answerSession_pictureFollows {s : State} (h : s.pictureFollows) (r : Session × Status) :
    (answerSession s r).state.pictureFollows := by
  simp only [answerSession]
  split
  · split
    · exact h
    · exact State.putSession_pictureFollows h _
  · exact h

theorem State.settingWritten_pictureFollows {s : State} (h : s.pictureFollows) (i : SettingId) :
    (s.settingWritten i).pictureFollows := by
  cases i with
  | lifeLimit | warningMargin =>
    exact State.handAccount_pictureFollows (s.deriveStatus_untouched.pictureFollows rfl h) _
  | missLimit => exact s.missLimitWritten_untouched.pictureFollows rfl h
  | panelWidth | panelHeight => exact (s.putGeometry_untouched _).pictureFollows rfl h
  | tiltGain | tiltAveraging => exact s.tiltSettingWritten_untouched.pictureFollows rfl h
  | idleLevel | walkupLevel => exact State.setBase_pictureFollows h _ _
  | rate l => exact (s.rateWritten_untouched l).pictureFollows rfl h
  | mask l => exact (s.settleLine_untouched l).pictureFollows rfl h
  | _ => exact h

theorem State.putEntry_pictureFollows {s : State} (h : s.pictureFollows) (e : Entry) :
    (s.putEntry e).state.pictureFollows := by
  unfold State.putEntry
  split
  · exact h
  · dsimp only
    split
    · exact h
    · exact State.changeTable_pictureFollows h _ _

/-- Every owner of a request keeps the invariant. -/
theorem Owned.pictureFollows {l : Link} {own : State → Answer} (owned : Owned l own) {s : State} (h : s.pictureFollows) :
    (own s).state.pictureFollows := by
  cases owned with
  | roomRead | countersRead | lampRead | sourceRead | plateRead | lockoutRead | clockRead | entryList | occurrenceRead
  | countersClear | restart => exact h
  | noticeRead => simpa [ownNoticeRead, State.pictureFollows] using h
  | sessionStart | sessionEnd | sessionExtend | lampLevel => exact answerSession_pictureFollows h _
  | lampReplaced =>
    unfold ownLampReplaced
    split
    · exact State.serviceAccount_pictureFollows h _
    · exact h
  | accountSet hours =>
    unfold ownAccountSet
    split
    · exact State.serviceAccount_pictureFollows h _
    · exact h
  | sourceSelect plate => exact State.requestSwitch_pictureFollows h _ _
  | pictureMute onOff =>
    unfold ownPictureMute
    split
    · exact h
    · exact State.settleMute_pictureFollows h.routed
  | geometrySet mode v hor trim =>
    unfold ownGeometrySet
    split
    · exact h
    · exact (s.putGeometry_untouched _).pictureFollows rfl h
  | geometryTrim | tiltReport => exact (s.putGeometry_untouched _).pictureFollows rfl h
  | presetStore =>
    exact (State.queueKind_untouched _ _).pictureFollows rfl ((s.geometry_update_untouched _).pictureFollows rfl h)
  | geometryRead plate =>
    cases plate with
    | none => exact h
    | some plate =>
      simp only [ownGeometryRead]
      split <;> exact h
  | engineReport temperature =>
    unfold ownEngineReport
    split
    · exact h
    · exact State.setTemp_pictureFollows h _
  | overrideSet level minutes =>
    unfold ownOverrideSet
    split
    · exact h
    · split
      · exact h
      · exact State.setOverride_pictureFollows h _
  | overrideClear => exact State.setOverride_pictureFollows h _
  | clockSet date hour minute =>
    unfold ownClockSet
    split
    · exact h
    · rename_i c _
      exact State.recompute_runner_pictureFollows ((State.raise_untouched _ .clock).pictureFollows rfl
        ((s.clock_update_untouched c).pictureFollows rfl h)) _ _
  | entryPut raw =>
    unfold ownEntryPut
    split
    · exact h
    · split
      · exact State.putEntry_pictureFollows h _
      · exact h
  | entryDelete id =>
    unfold ownEntryDelete
    split
    · exact State.changeTable_pictureFollows h _ _
    · exact h
  | entryRead id =>
    unfold ownEntryRead
    split <;> exact h
  | scheduleClear =>
    unfold ownScheduleClear
    split
    · exact h
    · exact State.changeTable_pictureFollows h _ _
  | settingWrite id value =>
    unfold ownSettingWrite
    split
    · exact h
    · exact (State.queueKind_untouched _ _).pictureFollows rfl
        (State.settingWritten_pictureFollows ((s.settings_update_untouched _).pictureFollows rfl h) _)
  | settingRead id =>
    unfold ownSettingRead
    split <;> exact h

theorem pictureFollows_keptByRequests : KeptByRequests State.pictureFollows where
  line h := h.pictureFollows rfl
  owner _ owned := owned.pictureFollows

/-! ## Resets and start-up -/

/-- R64, R65, R87: after any reset the sequencer is DARK on plate 0, and MUTE is asserted. -/
theorem State.afterReset_pictureFollows (s : State) (cause : Cause) (cut : SlotLeft) :
    (s.afterReset cause cut).pictureFollows := ⟨rfl, rfl⟩

/-- R184: loading the records moves no cause of MUTE and drives the ballast outputs alone. -/
theorem State.backed_pictureFollows {s : State} (h : s.pictureFollows) : s.backed.pictureFollows := by
  have preset : s.preset.pictureFollows :=
    s.preset_frame.pictureFollows rfl (show s.configured.pictureFollows from h)
  exact s.preset.deriveLoaded.checked_untouched.pictureFollows rfl
    (show s.preset.deriveLoaded.pictureFollows from preset)

theorem State.startUp_pictureFollows {s : State} (h : s.pictureFollows) : s.startUp.pictureFollows := by
  unfold State.startUp
  split
  · exact h
  · rw [State.backed_eq]
    have evaluated : s.backed.evaluateSession.pictureFollows :=
      State.recompute_runner_pictureFollows (State.backed_pictureFollows h) _ _
    have released := (State.release_untouched _).pictureFollows rfl evaluated
    exact State.startCycle_pictureFollows ((State.watchSupply_startWrite _).1.pictureFollows rfl released)

theorem State.responseSent_pictureFollows {s : State} (h : s.pictureFollows) (l : Link) (cut : SlotLeft) :
    (s.responseSent l cut).pictureFollows := by
  unfold State.responseSent
  split
  · split
    · exact State.afterReset_pictureFollows _ _ _
    · exact (s.finishResponse_untouched l).pictureFollows rfl h
  · exact h

theorem State.silenceFound_pictureFollows {s : State} (h : s.pictureFollows) : s.silenceFound.pictureFollows := by
  unfold State.silenceFound
  split
  · exact h
  · exact State.setTemp_pictureFollows ((s.reach_untouched _).pictureFollows rfl h) .unknown

/-! ## Every step -/

theorem exec_pictureFollows (c : Instr) {s t : State} (h : s.pictureFollows) (taken : exec c s = .next t) :
    t.pictureFollows := by
  cases c
  case powerOn cut backup => cases taken; exact State.afterReset_pictureFollows _ _ _
  case resetPin cut => cases taken; exact State.afterReset_pictureFollows _ _ _
  case supplyDrop cut => cases taken; exact State.afterReset_pictureFollows _ _ _
  case startUpComplete => cases taken; exact State.startUp_pictureFollows h
  case receiveByte l b => cases taken; exact (s.byteArrives_untouched l b).pictureFollows rfl h
  case gap l => cases taken; exact (s.gapExpires_untouched l).pictureFollows rfl h
  case frameTake l => cases taken; exact pictureFollows_keptByRequests.takeNext l h
  case responseSent l cut => cases taken; exact State.responseSent_pictureFollows h l cut
  case engineSilence => cases taken; exact State.silenceFound_pictureFollows h
  case secondEvent => cases taken; exact State.secondPasses_pictureFollows h _ _
  case litChange high dt =>
    cases taken
    exact State.litChanges_pictureFollows ((s.elapse_untouched dt).pictureFollows rfl h) high
  case litConfirmed => cases taken; exact State.litConfirms_pictureFollows h
  case outage => cases taken; exact State.outageFalls_pictureFollows h
  case strikeWindowExpiry => cases taken; exact State.strikeWindowEnds_pictureFollows h
  case retryWaitExpiry => cases taken; exact State.retryWaitEnds_pictureFollows h
  case warmUpExpiry => cases taken; exact State.warmUpEnds_pictureFollows h
  case cooldownExpiry => cases taken; exact State.cooldownEnds_pictureFollows h
  case pollSent => cases taken; exact State.pollEnds_pictureFollows h
  case busByteReceived b => cases taken; exact State.busByte_pictureFollows h b
  case replyWindowExpiry => cases taken; exact State.windowEnds_pictureFollows h
  case cycleGapExpiry => cases taken; exact State.cycleGapEnds_pictureFollows h
  case vsyncEdge edge dt =>
    cases taken
    exact State.vsync_pictureFollows ((s.elapse_untouched dt).pictureFollows rfl h) edge
  case muteLeadExpiry => cases taken; exact State.muteLeadEnds_pictureFollows h
  case maskExpiry => cases taken; exact State.maskEnds_pictureFollows h
  case seekWindowExpiry => cases taken; exact State.seekEnds_pictureFollows h
  case confirmDelayExpiry => cases taken; exact State.confirmEnds_pictureFollows h
  case syncWatchExpiry => cases taken; exact State.watchEnds_pictureFollows h
  case tiltSilenceExpiry => cases taken; exact s.tiltGoesSilent_untouched.pictureFollows rfl h
  case writeComplete readBack => cases taken; exact (s.completeWrite_untouched readBack).pictureFollows rfl h
  case supplyWarning =>
    cases taken
    split
    · exact (State.startWrite_untouched _).pictureFollows rfl h
    · exact h
  case supplyRecover => cases taken; exact h
  all_goals
    rw [exec_request rfl] at taken
    cases taken
    exact pictureFollows_keptByRequests.takeRequest _ _ _ h

/-- Settles O4: every operation that moves a cause of MUTE settles it, the routing action alone drives SRCSEL, with the plate it
routes, and every other one leaves sequencer, lamp and both pins alone. -/
theorem pictureIsMutedByItsFourCauses : Obligations.PictureIsMutedByItsFourCauses :=
  keptByEveryStep_of_exec (fun frame => frame.pictureFollows rfl) exec_pictureFollows

end Sys2Proof.Machine
end

section
/-! SOURCE_READ and GEOMETRY_READ (R86, R103). -/

namespace Sys2Proof.Machine

open Sys2Proof.Config

/-- What the reads and the requests of the picture read of the state is the same once the frame is heard. -/
theorem State.hearing_pictureFields (s : State) (i : Instr) :
    (s.hearing i).switch = s.switch ∧ (s.hearing i).pins = s.pins ∧ (s.hearing i).lamp = s.lamp
      ∧ (s.hearing i).settings = s.settings ∧ (s.hearing i).now = s.now ∧ (s.hearing i).geometry = s.geometry
      ∧ (s.hearing i).scanner = s.scanner :=
  have frame := s.hearing_untouched i
  ⟨frame .switch (by decide), frame .pins (by decide), frame .lamp (by decide), frame .settings (by decide),
    frame .time (by decide), frame .geometry (by decide), frame .scanner (by decide)⟩

/-! ## SOURCE_READ (R86) -/

theorem answered_sourceRead {l : Link} {s : State} (h : Listening l s) :
    exec (.sourceRead l) s = answered .sourceRead l (s.hearing (.sourceRead l)) .ok s.sourceBytes := by
  obtain ⟨switch, pins, lamp, settings, now, _⟩ := s.hearing_pictureFields (.sourceRead l)
  have same : (s.hearing (.sourceRead l)).sourceBytes = s.sourceBytes := by
    simp only [State.sourceBytes, State.switchMillis, State.average, switch, pins, lamp, settings, now]
  rw [← same]
  exact exec_admitted (i := .sourceRead l) rfl (admitted_of_enquiry h rfl rfl) (Nat.zero_le _) rfl

theorem Origin.byte_code (x : Option Origin) : orAbsent (x.map Origin.code) = match x with
    | none => (0xFF : Byte)
    | some (.by .remote) => 0
    | some (.by .lectern) => 1
    | some (.by .campus) => 2
    | some (.by .schedule) => 3
    | some (.by .plate) => 4
    | some (.by .follow) => 5
    | some .revert => 6 := by
  rcases x with _ | ⟨_ | _⟩ | _ <;> rfl

theorem SyncEdge.byte_code (x : Option SyncEdge) : orAbsent (x.map syncEdgeCode) = match x with
    | none => (0xFF : Byte)
    | some .rising => 0
    | some .falling => 1 := by
  rcases x with _ | _ | _ <;> rfl

/-- R77: an empty ring has no mean and is reported as 0. -/
theorem State.average_empty {s : State} (empty : s.switch.ring = []) : s.average = 0 := by
  simp [State.average, ringAverage, newest, empty]

/-- 11, SOURCE_READ ANSWER, offset 7: the causes of MUTE that are flags of their own, and MUTE. -/
theorem State.sourceBytes_flags (s : State) :
    ∃ flags : Byte, s.sourceBytes[7]? = some flags ∧ flags.getLsbD 0 = s.switch.pictureMute
      ∧ flags.getLsbD 1 = s.switch.bridgeMute ∧ flags.getLsbD 2 = !s.lamp.state.shining ∧ flags.getLsbD 3 = s.pins.mute := by
  obtain ⟨picture, bridge, dark, mute, _⟩ :=
    byte_of_flags s.switch.pictureMute s.switch.bridgeMute (!s.lamp.state.shining) s.pins.mute false false false false
  exact ⟨_, rfl, picture, bridge, dark, mute⟩

/-- R62, R86: the running timer and its whole milliseconds. -/
theorem State.sourceBytes_timer (s : State) :
    let left := be16 ((s.switch.timerEnd - s.now) / 1000)
    s.sourceBytes.drop 14 = match s.switch.state with
      | .muting => 1 :: left
      | .masking => 2 :: left
      | .seeking => 3 :: left
      | .confirming => 4 :: left
      | .showing => 5 :: left
      | _ => [0, 0, 0] := by
  intro left
  have bytes : s.sourceBytes.drop 14 = byte s.switch.state.timerCode :: be16 s.switchMillis := rfl
  rw [bytes, State.switchMillis]
  cases s.switch.state with
  | dark | noSignal => rw [if_pos (by rfl)]; rfl
  | muting | masking | seeking | confirming | showing => rfl

/-! ## GEOMETRY_READ (R103) -/

theorem answered_geometryRead {l : Link} {s : State} (h : Listening l s) (plate : Option Byte) :
    exec (.geometryRead l plate) s = answered .geometryRead l (s.hearing (.geometryRead l plate))
      (ownGeometryRead plate s).status (ownGeometryRead plate s).payload := by
  obtain ⟨_, _, _, settings, _, geometry, _⟩ := s.hearing_pictureFields (.geometryRead l plate)
  have admitted := admitted_of_enquiry (c := .geometryRead) h rfl rfl
  cases plate with
  | none =>
    rw [exec_admitted (i := .geometryRead l none) rfl admitted (Nat.zero_le _) rfl]
    simp only [ownGeometryRead, State.geometryBytes, settings, geometry]
  | some n =>
    rw [exec_admitted (i := .geometryRead l (some n)) (own := ownGeometryRead (some n)) rfl admitted (by decide : 1 ≤ 59) rfl]
    simp only [ownGeometryRead, geometry]
    split <;> rfl

/-- Settles O25: each field at its place in the two layouts. -/
theorem sourceAndGeometryReadsReportThePicture : Obligations.SourceAndGeometryReadsReportThePicture := by
  refine ⟨fun l s h => ?_, fun l s h => ⟨?_, fun n => ⟨fun p at_n inTable => ?_, fun above => ?_⟩⟩⟩
  · refine ⟨s.sourceBytes, answered_sourceRead h, rfl, rfl, ?_, ?_, rfl, s.sourceBytes_flags, rfl, rfl, fun empty => ?_,
      fun _ => rfl, rfl, s.sourceBytes_timer⟩
    · exact congrArg some (Origin.byte_code s.switch.origin)
    · exact congrArg some (SyncEdge.byte_code s.switch.edge)
    · have bytes : (s.sourceBytes.take 13).drop 11 = be16 s.average := rfl
      rw [bytes, State.average_empty empty]
      rfl
  · rw [answered_geometryRead h]
    simp only [ownGeometryRead, State.geometryBytes, Corner.bytes, ← List.append_assoc]
    rfl
  · have held : nth s.geometry.presets n.toNat {} = p := by simp [nth, at_n]
    rw [answered_geometryRead h]
    simp only [ownGeometryRead, if_pos inTable, held]
    rfl
  · rw [answered_geometryRead h]
    simp only [ownGeometryRead, if_neg (Nat.not_le.mpr above)]

end Sys2Proof.Machine
end

section
/-! SOURCE_SELECT and PICTURE_MUTE (R65 to R72). -/

namespace Sys2Proof.Machine

open Sys2Proof.Config

/-! ## What a request leaves, by the sequencer's state -/

/-- R57: a plate is open to a request when it is plate 0 or PRESENT. -/
theorem State.available_iff (s : State) (n : Nat) :
    s.available n = true ↔ n = 0 ∨ (n ≤ 12 ∧ (s.plate n).state = .present) := by
  simp [State.available]

theorem State.requestSwitch_above {s : State} {n : Nat} (above : 12 < n) (c : Requester) :
    s.requestSwitch n c = (s, .badArgument) := if_pos above

theorem State.requestSwitch_lost {s : State} {n : Nat} (inTable : n ≤ 12) (lost : ¬s.available n = true) (c : Requester) :
    s.requestSwitch n c = (s, .sourceLost) := by
  simp [State.requestSwitch, Nat.not_lt.mpr inTable, lost]

/-- R69, R74: the seeking of the routed plate anew, for the class that asks. -/
theorem State.requestSettled_seekingFrom {s : State} {n : Nat} (c : Requester) (same : n = s.switch.routed)
    (lost : s.switch.state = .noSignal) :
    ∃ u, s.requestSettled n c = (u, .accepted) ∧ SeekingFrom none (some (.by c)) s u := by
  obtain ⟨switch, pins, frame⟩ := State.enterSeeking_seekingFrom
    { s with switch := { s.switch with origin := some (.by c) } } none
  exact ⟨_, State.requestSettled_seeks c same lost, switch, pins, (s.switch_update_untouched _).andThen frame rfl rfl⟩

/-- R64, R69, R72: the routing at once of what is not seen, or after a mute lead of 0. -/
theorem State.requestSettled_routedTo {s : State} {n : Nat} (c : Requester) (other : n ≠ s.switch.routed)
    (unseen : s.switch.state ≠ .showing ∨ s.pins.mute = true ∨ s.settings.muteLead = 0) :
    ∃ u, s.requestSettled n c = (u, .accepted) ∧ RoutedTo n (some (.by c)) s u := by
  by_cases muted : s.switch.state ≠ .showing ∨ s.pins.mute = true
  · exact ⟨_, State.requestSettled_routes c other muted, s.taking_routedTo n c⟩
  · obtain ⟨showing, seen⟩ : s.switch.state = .showing ∧ s.pins.mute = false := by simpa using muted
    have noLead : s.settings.muteLead = 0 := by simpa [showing, seen] using unseen
    exact ⟨_, State.requestSettled_mutes c other showing seen, State.taking_enterMuting_routedTo noLead n c⟩

/-- R66, R72: a picture that shows is muted for the mute lead, and PICTURE is raised. -/
theorem State.requestSettled_mutedFor {s : State} {n : Nat} (c : Requester) (other : n ≠ s.switch.routed)
    (showing : s.switch.state = .showing) (seen : s.pins.mute = false) (lead : 0 < s.settings.muteLead) :
    ∃ u, s.requestSettled n c = (u, .accepted)
      ∧ u.switch = { s.switch with
          state := .muting, target := n, origin := some (.by c), ring := [], streak := 0, missMark := false
          timerEnd := s.now + s.settings.muteLead * 1000 }
      ∧ u.pins = { s.pins with mute := true } ∧ Pending .picture u ∧ Untouched (.switch :: muteBlocks) s u := by
  have begun : (s.taking n c).enterMuting = (s.taking n c).mutingBegun :=
    (State.enterMuting_eq _).trans (if_neg lead.ne')
  have asserted : (s.taking n c).pins.mute = false := seen
  refine ⟨(s.taking n c).mutingBegun, (State.requestSettled_mutes c other showing seen).trans (by rw [begun]),
    State.mutingBegun_switch _,
    State.mutingBegun_pins _, State.settleMute_raises _ ?_,
    (s.switch_update_untouched _).andThen (State.mutingBegun_untouched _) rfl rfl⟩
  simp [asserted, muteWanted]

/-! ## SOURCE_SELECT (R68 to R72) -/

/-- R105: the class of a link is none of the plate scanner's. -/
theorem requesterOf_ne_follow (l : Link) : requesterOf l ≠ .follow := by cases l <;> decide

section
variable {l : Link} {plate : Byte} {s : State} (h : Admitted .sourceSelect l s)
include h

theorem exec_sourceSelect {u : State} {status : Status}
    (taken : (s.hearing (.sourceSelect l plate)).requestSwitch plate.toNat (requesterOf l) = (u, status)) :
    exec (.sourceSelect l plate) s = answered .sourceSelect l u status [] := by
  rw [exec_admitted (i := .sourceSelect l plate) (own := ownSourceSelect l plate) rfl h (by decide : 1 ≤ 59) rfl,
    ownSourceSelect, taken]

variable (open' : plate.toNat = 0 ∨ (plate.toNat ≤ 12 ∧ (s.plate plate.toNat).state = .present))
include open'

omit h in
/-- The frame's arrival changes no plate. -/
theorem State.hearing_open :
    plate.toNat ≤ 12 ∧ (s.hearing (.sourceSelect l plate)).available plate.toNat = true := by
  obtain ⟨_, _, _, _, _, _, scanner⟩ := s.hearing_pictureFields (.sourceSelect l plate)
  rw [State.available_iff, State.plate, scanner]
  exact ⟨by omega, open'⟩

theorem exec_sourceSelect_settled (settled : s.switch.state.settled = true) {u : State} {status : Status}
    (taken : (s.hearing (.sourceSelect l plate)).requestSettled plate.toNat (requesterOf l) = (u, status)) :
    exec (.sourceSelect l plate) s = answered .sourceSelect l u status [] := by
  obtain ⟨inTable, available⟩ := State.hearing_open (l := l) open'
  obtain ⟨switch, _⟩ := s.hearing_pictureFields (.sourceSelect l plate)
  exact exec_sourceSelect h ((State.requestSwitch_settled _ inTable available (by rwa [switch])).trans taken)

theorem exec_sourceSelect_inTransit (inTransit : s.switch.state.settled = false) {u : State} {status : Status}
    (taken : (s.hearing (.sourceSelect l plate)).requestInTransit plate.toNat (requesterOf l) = (u, status)) :
    exec (.sourceSelect l plate) s = answered .sourceSelect l u status [] := by
  obtain ⟨inTable, available⟩ := State.hearing_open (l := l) open'
  obtain ⟨switch, _⟩ := s.hearing_pictureFields (.sourceSelect l plate)
  exact exec_sourceSelect h ((State.requestSwitch_inTransit _ inTable available (by rwa [switch])).trans taken)

end

/-- Settles O36: the checks, then the request by the sequencer's state. -/
theorem sourceSelectIsCheckedAndTaken : Obligations.SourceSelectIsCheckedAndTaken := by
  refine ⟨fun l plate s h => ?_, fun l plate s h => ?_⟩
  all_goals
    obtain ⟨switch, pins, _, settings, now, _, scanner⟩ := s.hearing_pictureFields (.sourceSelect l plate)
  · refine ⟨fun above => ?_, fun inTable lost => ?_, fun open' same state => ?_, fun open' same lost => ?_,
      fun open' other unseen => ?_, fun open' other showing seen lead => ?_⟩
    · exact exec_sourceSelect h (State.requestSwitch_above above _)
    · refine exec_sourceSelect h (State.requestSwitch_lost inTable ?_ _)
      rw [State.available_iff, State.plate, scanner]
      exact lost
    · obtain ⟨settled, sync⟩ : s.switch.state.settled = true ∧ s.switch.state ≠ .noSignal := by
        rcases state with dark | showing
        · rw [dark]; decide
        · rw [showing]; decide
      exact exec_sourceSelect_settled h open' settled
        (State.requestSettled_same _ (by rwa [switch]) (by rwa [switch]))
    · obtain ⟨u, taken, seeking⟩ := State.requestSettled_seekingFrom (s := s.hearing (.sourceSelect l plate))
        (n := plate.toNat) (requesterOf l) (by rwa [switch]) (by rwa [switch])
      exact ⟨u, exec_sourceSelect_settled h open' (by rw [lost]; rfl) taken, seeking⟩
    · obtain ⟨settled, unseen⟩ : s.switch.state.settled = true
          ∧ (s.switch.state ≠ .showing ∨ s.pins.mute = true ∨ s.settings.muteLead = 0) := by
        rcases unseen with dark | noSignal | ⟨showing, muted⟩
        · exact ⟨by rw [dark]; rfl, .inl (by rw [dark]; decide)⟩
        · exact ⟨by rw [noSignal]; rfl, .inl (by rw [noSignal]; decide)⟩
        · exact ⟨by rw [showing]; rfl, .inr muted⟩
      obtain ⟨u, taken, routed⟩ := State.requestSettled_routedTo (s := s.hearing (.sourceSelect l plate))
        (requesterOf l) (by rwa [switch]) (by rwa [switch, pins, settings])
      exact ⟨u, exec_sourceSelect_settled h open' settled taken, routed⟩
    · obtain ⟨u, taken, muting, driven, raised, frame⟩ := State.requestSettled_mutedFor
        (s := s.hearing (.sourceSelect l plate)) (requesterOf l) (by rwa [switch]) (by rwa [switch]) (by rwa [pins])
        (by rwa [settings])
      rw [switch, settings, now] at muting
      rw [pins] at driven
      exact ⟨u, exec_sourceSelect_settled h open' (by rw [showing]; rfl) taken, muting, driven, raised, frame⟩
  · intro t open' origin
    have taken : ¬(requesterOf l = .follow ∧ (s.hearing (.sourceSelect l plate)).switch.origin ≠ some (.by .follow)) :=
      fun follow => requesterOf_ne_follow l follow.1
    refine ⟨fun same inTransit => ?_, fun other muting => ?_, fun other state => ?_⟩
    · exact exec_sourceSelect_inTransit h open' inTransit
        (State.requestInTransit_dropped _ (.inr (by rwa [switch])))
    · refine ⟨_, exec_sourceSelect_inTransit h open' (by rw [muting]; rfl)
        (State.requestInTransit_retargets _ taken (by rwa [switch]) (by rwa [switch])), ?_,
        State.switch_update_untouched _ _⟩
      rw [State.taking, switch]
    · obtain ⟨inTransit, behind⟩ : s.switch.state.settled = false ∧ s.switch.state ≠ .muting := by
        rcases state with masking | seeking | confirming
        · rw [masking]; decide
        · rw [seeking]; decide
        · rw [confirming]; decide
      exact ⟨_, exec_sourceSelect_inTransit h open' inTransit
        (State.requestInTransit_reroutes _ taken (by rwa [switch]) (by rwa [switch])), State.taking_routedTo _ _ _⟩

/-! ## PICTURE_MUTE (R65 to R67) -/

theorem onOffOfCode_bool (on : Bool) : onOffOfCode (if on then 1 else 0 : Byte).toNat = some on := by cases on <;> rfl

theorem onOffOfCode_above {n : Nat} (above : 1 < n) : onOffOfCode n = none := by
  match n, above with
  | n + 2, _ => rfl

/-- R67: the state in which picture mute is taken, MUTE not yet settled. -/
def State.pictureMuted (s : State) (on : Bool) : State := { s with switch := { s.switch with pictureMute := on } }

theorem State.pictureMuted_untouched (s : State) (on : Bool) : Untouched [.switch] s (s.pictureMuted on) :=
  s.switch_update_untouched _

/-- Settles O37: the new cause is set and MUTE settled by it; R66 raises PICTURE with a change alone. -/
theorem pictureMuteSetsItsCauseOfMute : Obligations.PictureMuteSetsItsCauseOfMute := by
  refine fun l b s h => ⟨fun above => ?_, fun on value => ?_⟩
  all_goals
    have owned := exec_admitted (i := .pictureMute l b) (own := ownPictureMute b) rfl h (by decide : 1 ≤ 59) rfl
  · rw [owned]
    simp only [ownPictureMute, onOffOfCode_above above]
  · obtain ⟨switch, pins, lamp, _⟩ := s.hearing_pictureFields (.pictureMute l b)
    obtain ⟨t, taken⟩ : ∃ t, t = (s.hearing (.pictureMute l b)).pictureMuted on := ⟨_, rfl⟩
    have tSwitch : t.switch = { s.switch with pictureMute := on } := by rw [taken, State.pictureMuted, switch]
    have tPins : t.pins = s.pins := by rw [taken]; exact pins
    have tLamp : t.lamp = s.lamp := by rw [taken]; exact lamp
    have frame : Untouched [.switch] (s.hearing (.pictureMute l b)) t := by
      rw [taken]; exact State.pictureMuted_untouched _ _
    have settled : t.settleMute.pins = { s.pins with
        mute := muteWanted { s.switch with pictureMute := on } s.lamp.state } := by
      rw [State.settleMute_pins, tSwitch, tPins, tLamp]
    refine ⟨t.settleMute, ?_, by rw [State.settleMute_switch, tSwitch], settled, fun changed => ⟨?_, ?_⟩, fun same => ?_⟩
    · rw [owned, taken]
      simp only [ownPictureMute, value, onOffOfCode_bool]
      rfl
    · refine t.settleMute_raises fun held => changed ?_
      rw [State.settleMute_pins, ← held, tPins]
    · exact frame.andThen t.settleMute_untouched rfl rfl
    · rw [State.settleMute_pins, ← tPins] at same
      rwa [t.settleMute_eq same.symm]

end Sys2Proof.Machine
end

section
/-! VSYNC and the sequencer's timers (R72 to R84). -/

namespace Sys2Proof.Machine

open Sys2Proof.Config

/-! ## What the entries to a state leave -/

/-- R66, R83, R84: a sync loss is an entry to SEEKING in the statements' terms. -/
theorem State.loseSync_seekingFrom (s : State) (r : Option Nat) : SeekingFrom r s.switch.origin s (s.loseSync r) := by
  obtain ⟨switch, pins, _⟩ := s.enterSeeking_seekingFrom r
  exact ⟨switch, pins, s.loseSync_untouched r⟩

/-- R65, R66: what the entry to a settled state leaves. -/
theorem State.enterSettled_leaves (s : State) (x : SwitchState) :
    (s.enterSettled x).now = s.now ∧ (s.enterSettled x).switch = { s.switch with state := x }
      ∧ (s.enterSettled x).pins = { s.pins with mute := muteWanted { s.switch with state := x } s.lamp.state }
      ∧ Pending .picture (s.enterSettled x) ∧ Untouched (.switch :: muteBlocks) s (s.enterSettled x) := by
  refine ⟨s.enterSettled_untouched x .time (by decide), ?_, ?_, s.enterSettled_raises x, s.enterSettled_untouched x⟩
  · rw [State.enterSettled, State.settleMute_switch]
    rfl
  · rw [State.enterSettled, State.settleMute_pins]
    rfl

/-! ## The interval between two edges (R76 to R79) -/

theorem intervalValid_iff (i : Nat) : intervalValid i = true ↔ 8000 ≤ i ∧ i ≤ 50000 := by simp [intervalValid]

/-- R78: the difference either way, in the statement's terms. -/
theorem inStep_iff (i avg tolerance : Nat) :
    inStep i avg tolerance = true ↔ (i - avg) * 256 ≤ avg * tolerance ∧ (avg - i) * 256 ≤ avg * tolerance := by
  rcases Nat.le_total i avg with below | above
  · simp [inStep, Nat.max_eq_right below, Nat.min_eq_left below, Nat.sub_eq_zero_of_le below]
  · simp [inStep, Nat.max_eq_left above, Nat.min_eq_right above, Nat.sub_eq_zero_of_le above]

/-- R75: an edge that is timed becomes the reference. -/
def State.edgeTimed (s : State) : State := { s with switch := { s.switch with reference := some s.now } }

/-- R76, R77, R78: the measurement goes on with a ring and a streak. -/
def State.measured (s : State) (ring : List Nat) (streak : Nat) : State :=
  { s with switch := { s.switch with ring := ring, streak := streak } }

section
variable {s : State} {i : Nat}

theorem State.judgeSeeking_empties (invalid : ¬(8000 ≤ i ∧ i ≤ 50000)) : s.judgeSeeking i = s.measured [] 0 := by
  have bad : intervalValid i = false := by rwa [← Bool.not_eq_true, intervalValid_iff]
  simp [State.judgeSeeking, State.measured, bad]

theorem State.judgeSeeking_restarts (valid : 8000 ≤ i ∧ i ≤ 50000)
    (alone : s.switch.ring = [] ∨ ¬inStep i s.average s.settings.tolerance = true) :
    s.judgeSeeking i = s.measured [i] 1 := by
  have good := (intervalValid_iff i).mpr valid
  by_cases empty : s.switch.ring = []
  · simp [State.judgeSeeking, State.measured, good, empty]
  · have outOfStep := alone.resolve_left empty
    simp [State.judgeSeeking, State.measured, good, empty, outOfStep]

theorem State.judgeSeeking_extends (valid : 8000 ≤ i ∧ i ≤ 50000) (held : s.switch.ring ≠ [])
    (step : inStep i s.average s.settings.tolerance = true) (short : s.switch.streak + 1 < s.settings.stableCount) :
    s.judgeSeeking i = s.measured (newest 8 (s.switch.ring ++ [i])) (s.switch.streak + 1) := by
  have good := (intervalValid_iff i).mpr valid
  simp [State.judgeSeeking, State.measured, good, held, step, Nat.not_le.mpr short, pushInterval]

theorem State.judgeSeeking_confirms (valid : 8000 ≤ i ∧ i ≤ 50000) (held : s.switch.ring ≠ [])
    (step : inStep i s.average s.settings.tolerance = true) (enough : s.settings.stableCount ≤ s.switch.streak + 1) :
    s.judgeSeeking i = (s.measured (newest 8 (s.switch.ring ++ [i])) (s.switch.streak + 1)).becomeStable := by
  have good := (intervalValid_iff i).mpr valid
  simp [State.judgeSeeking, State.measured, good, held, step, enough, pushInterval]

/-- R79: the stable edge, with the confirm delay from the mean of the ring. -/
theorem State.becomeStable_leaves (s : State) :
    s.becomeStable.switch = { s.switch with
        state := .confirming
        timerEnd := s.now + ringAverage s.switch.ring s.settings.averaging * s.settings.confirmFactor / 128 }
      ∧ s.becomeStable.pins = { s.pins with mute := true } := by
  refine ⟨State.settleMute_switch _, ?_⟩
  rw [State.becomeStable, State.settleMute_pins]
  rfl

/-! ## Which edges are timed (R75) -/

variable {e : SyncEdge}

theorem State.vsync_ignored (h : s.switch.state.timed = false ∨ s.switch.edge ≠ some e) : s.vsync e = s := by
  rcases h with untimed | other
  · simp [State.vsync, untimed]
  · simp [State.vsync, other]

theorem State.vsync_taken (timed : s.switch.state.timed = true) (edge : s.switch.edge = some e) : s.vsync e = s.takeEdge := by
  simp [State.vsync, timed, edge]

theorem State.takeEdge_first (state : s.switch.state ≠ .showing) (none : s.switch.reference = none) :
    s.takeEdge = s.edgeTimed := by
  simp [State.takeEdge, State.edgeTimed, none, state]

theorem State.takeEdge_seeking {r : Nat} (state : s.switch.state ≠ .showing) (reference : s.switch.reference = some r) :
    s.takeEdge = s.edgeTimed.judgeSeeking (min 65535 (s.now - r)) := by
  simp only [State.takeEdge, reference, if_neg state]
  rfl

theorem State.takeEdge_showing {r : Nat} (state : s.switch.state = .showing) (reference : s.switch.reference = some r) :
    s.takeEdge = s.edgeTimed.judgeShowing (min 65535 (s.now - r)) := by
  simp only [State.takeEdge, reference, if_pos state]
  rfl

end

/-- What an edge that moves the measurement alone leaves. -/
theorem State.elapse_measures (s : State) (dt : Nat) (x : Switch) :
    let t := { s.elapse dt with switch := x }
    t.switch = x ∧ t.now = s.now + dt ∧ Untouched [.time, .switch] s t :=
  ⟨rfl, rfl, (s.elapse_untouched dt).andThen (State.switch_update_untouched _ x) rfl rfl⟩

/-! ## An interval in SHOWING (R83, R84) -/

section
variable {s : State} {i : Nat}

theorem State.judgeShowing_good (good : intervalValid i = true ∧ inStep i s.average s.settings.tolerance = true) :
    s.judgeShowing i = { s with switch := { s.switch with
      ring := newest 8 (s.switch.ring ++ [i]), missMark := false
      timerEnd := s.now + 4 * ringAverage (newest 8 (s.switch.ring ++ [i])) s.settings.averaging } } := by
  simp only [State.judgeShowing, good, Bool.and_self, if_true]
  rfl

theorem State.judgeShowing_misses (bad : ¬(intervalValid i = true ∧ inStep i s.average s.settings.tolerance = true))
    (first : s.switch.missMark = false) :
    s.judgeShowing i = { s with switch := { s.switch with
      missMark := true, timerEnd := s.now + 4 * ringAverage s.switch.ring s.settings.averaging } } := by
  rw [← Bool.and_eq_true] at bad
  simp only [State.judgeShowing, if_neg bad, first, Bool.false_eq_true, if_false]
  rfl

theorem State.judgeShowing_loses (bad : ¬(intervalValid i = true ∧ inStep i s.average s.settings.tolerance = true))
    (second : s.switch.missMark = true) : s.judgeShowing i = s.loseSync (some s.now) := by
  rw [← Bool.and_eq_true] at bad
  simp only [State.judgeShowing, if_neg bad, second, if_true]

end

/-- Settles O57: the edge is ignored, becomes the reference, or forms an interval, judged by the state it finds. -/
theorem vsyncIsMeasuredAndWatched : Obligations.VsyncIsMeasuredAndWatched := by
  refine ⟨fun edge dt s state => ?_, fun edge dt s => ?_⟩
  · obtain ⟨timed, unshown⟩ : s.switch.state.timed = true ∧ s.switch.state ≠ .showing := by
      rcases state with seeking | noSignal
      · rw [seeking]; decide
      · rw [noSignal]; decide
    refine ⟨(s.elapse dt).vsync edge, rfl, fun other => ?_, fun own first => ?_, fun r own reference => ?_⟩
    · rw [State.vsync_ignored (s := s.elapse dt) (.inr other)]
      exact s.elapse_measures dt s.switch
    · rw [State.vsync_taken (s := s.elapse dt) timed own, State.takeEdge_first (s := s.elapse dt) unshown first]
      exact s.elapse_measures dt _
    · intro i avg step
      have judged : (s.elapse dt).vsync edge = (s.elapse dt).edgeTimed.judgeSeeking i :=
        (State.vsync_taken (s := s.elapse dt) timed own).trans
          (State.takeEdge_seeking (s := s.elapse dt) unshown reference)
      rw [judged]
      have meaning : step ↔ inStep i avg s.settings.tolerance = true := (inStep_iff _ _ _).symm
      refine ⟨fun outside => ?_, fun low high alone => ?_, fun low high held within short => ?_,
        fun low high held within enough => ?_⟩
      · rw [State.judgeSeeking_empties (by omega)]
        exact s.elapse_measures dt _
      · rw [State.judgeSeeking_restarts (s := (s.elapse dt).edgeTimed) ⟨low, high⟩ (alone.imp_right (mt meaning.mpr))]
        exact s.elapse_measures dt _
      · rw [State.judgeSeeking_extends (s := (s.elapse dt).edgeTimed) ⟨low, high⟩ held (meaning.mp within) short]
        exact s.elapse_measures dt _
      · intro ring
        rw [State.judgeSeeking_confirms (s := (s.elapse dt).edgeTimed) ⟨low, high⟩ held (meaning.mp within) enough]
        obtain ⟨_, _, frame⟩ := s.elapse_measures dt
          { s.switch with reference := some (s.now + dt), ring := ring, streak := s.switch.streak + 1 }
        obtain ⟨switch, pins⟩ :=
          ((s.elapse dt).edgeTimed.measured ring (s.switch.streak + 1)).becomeStable_leaves
        exact ⟨switch, pins, State.becomeStable_untouched _ .time (by decide),
          frame.andThen (State.becomeStable_untouched _) rfl rfl⟩
  · refine ⟨fun showing seeking noSignal => ?_, fun _ other => ?_, fun r showing own reference => ?_⟩
    · have untimed : s.switch.state.timed = false := by
        cases state : s.switch.state with
        | showing => exact (showing state).elim
        | seeking => exact (seeking state).elim
        | noSignal => exact (noSignal state).elim
        | dark | muting | masking | confirming => rfl
      exact congrArg Host.Outcome.next (State.vsync_ignored (s := s.elapse dt) (.inl untimed))
    · exact congrArg Host.Outcome.next (State.vsync_ignored (s := s.elapse dt) (.inr other))
    · intro i avg good
      have judged : (s.elapse dt).vsync edge = (s.elapse dt).edgeTimed.judgeShowing i :=
        (State.vsync_taken (s := s.elapse dt) (by rw [State.elapse_switch, showing]; rfl) own).trans
          (State.takeEdge_showing (s := s.elapse dt) showing reference)
      have meaning : good ↔ intervalValid i = true ∧ inStep i avg s.settings.tolerance = true := by
        rw [intervalValid_iff, inStep_iff, and_assoc]
      refine ⟨_, congrArg Host.Outcome.next judged, State.judgeShowing_untouched _ _ .time (by decide), fun holds => ?_,
        fun fails first => ?_, fun fails second => ?_⟩
      · intro ring
        rw [State.judgeShowing_good (s := (s.elapse dt).edgeTimed) (meaning.mp holds)]
        obtain ⟨switch, _, frame⟩ := s.elapse_measures dt { s.switch with
          reference := some (s.now + dt), ring := ring, missMark := false
          timerEnd := s.now + dt + 4 * ringAverage ring s.settings.averaging }
        exact ⟨switch, frame⟩
      · rw [State.judgeShowing_misses (s := (s.elapse dt).edgeTimed) (mt meaning.mpr fails) first]
        obtain ⟨switch, _, frame⟩ := s.elapse_measures dt { s.switch with
          reference := some (s.now + dt), missMark := true, timerEnd := s.now + dt + 4 * avg }
        exact ⟨switch, frame⟩
      · rw [State.judgeShowing_loses (s := (s.elapse dt).edgeTimed) (mt meaning.mpr fails) second]
        obtain ⟨switch, pins, frame⟩ := (s.elapse dt).edgeTimed.loseSync_seekingFrom (some (s.now + dt))
        exact ⟨⟨switch, pins, (State.switch_update_untouched _ _).andThen frame rfl rfl⟩, State.loseSync_raises _ _⟩

/-! ## The sequencer's timers (R72, R73, R80 to R83) -/

section
variable {s : State}

theorem State.muteLeadEnds_muting (muting : s.switch.state = .muting) :
    s.muteLeadEnds = (s.reach s.switch.timerEnd).routingAction s.switch.target := by
  simp only [State.muteLeadEnds, muting]

theorem State.muteLeadEnds_none (other : s.switch.state ≠ .muting) : s.muteLeadEnds = s := by
  unfold State.muteLeadEnds
  split
  · contradiction
  · rfl

theorem State.maskEnds_masking (masking : s.switch.state = .masking) :
    s.maskEnds = if s.switch.routed = 0 then (s.reach s.switch.timerEnd).enterSettled .dark
      else (s.reach s.switch.timerEnd).enterSeeking none := by
  simp only [State.maskEnds, masking]
  rfl

theorem State.maskEnds_none (other : s.switch.state ≠ .masking) : s.maskEnds = s := by
  unfold State.maskEnds
  split
  · contradiction
  · rfl

/-- R80, R82: what CONFIRMING hands to SHOWING. -/
def State.confirmed (s : State) : State :=
  { s with switch := { s.switch with
      previous := s.switch.routed
      lockTime := min 65535 ((s.now - s.switch.routedAt) / 1000)
      missMark := false
      timerEnd := s.switch.reference.getD s.now + 4 * ringAverage s.switch.ring s.settings.averaging } }

theorem State.confirmEnds_confirming (confirming : s.switch.state = .confirming) :
    s.confirmEnds = (s.reach s.switch.timerEnd).confirmed.enterSettled .showing := by
  simp only [State.confirmEnds, confirming]
  rfl

theorem State.confirmEnds_none (other : s.switch.state ≠ .confirming) : s.confirmEnds = s := by
  unfold State.confirmEnds
  split
  · contradiction
  · rfl

theorem State.watchEnds_showing (showing : s.switch.state = .showing) :
    s.watchEnds = (s.reach s.switch.timerEnd).loseSync none := by
  simp only [State.watchEnds, showing]

theorem State.watchEnds_none (other : s.switch.state ≠ .showing) : s.watchEnds = s := by
  unfold State.watchEnds
  split
  · contradiction
  · rfl

theorem State.revertPossible_iff : s.revertPossible = true ↔
    s.settings.fallback = .revert ∧ s.switch.origin ≠ some .revert ∧ s.switch.previous ≠ 0
      ∧ (s.plate s.switch.previous).state = .present ∧ s.switch.previous ≠ s.switch.routed := by
  simp [State.revertPossible, and_assoc]

/-- R81: the target and the origin of a revert. -/
def State.reverting (s : State) : State :=
  { s with switch := { s.switch with target := s.switch.previous, origin := some .revert } }

theorem State.seekEnds_seeking (seeking : s.switch.state = .seeking) :
    s.seekEnds = if s.revertPossible then (s.reach s.switch.timerEnd).reverting.routingAction s.switch.previous
      else (s.reach s.switch.timerEnd).enterSettled .noSignal := by
  simp only [State.seekEnds, seeking]
  rfl

theorem State.seekEnds_none (other : s.switch.state ≠ .seeking) : s.seekEnds = s := by
  unfold State.seekEnds
  split
  · contradiction
  · rfl

end

/-- R66, R73, R81: a timer that ends in a dark settled state. -/
theorem State.reach_enterSettled {x : SwitchState} (dark : x ≠ .showing) (s : State) (till : Nat) :
    let t := (s.reach till).enterSettled x
    t.now = max s.now till ∧ t.switch = { s.switch with state := x } ∧ t.pins = { s.pins with mute := true }
      ∧ Pending .picture t ∧ Untouched (.time :: .switch :: muteBlocks) s t := by
  obtain ⟨now, switch, pins, raised, frame⟩ := (s.reach till).enterSettled_leaves x
  refine ⟨now, switch, ?_, raised, (s.reach_untouched till).andThen frame rfl rfl⟩
  rw [pins]
  simp [muteWanted, dark]

/-- Settles O58: each timer in its own state and in no other. -/
theorem switchTimersExpire : Obligations.SwitchTimersExpire := by
  refine ⟨fun s => ⟨fun muting => ?_, fun masking zero => ?_, fun masking plate => ?_, fun confirming => ?_,
    fun showing => ?_, fun other => ?_, fun other => ?_, fun other => ?_, fun other => ?_⟩,
    fun s => ⟨fun seeking revert => ?_, fun seeking held => ?_, fun other => ?_⟩⟩
  · refine ⟨_, congrArg Host.Outcome.next (State.muteLeadEnds_muting muting), ?_, State.routingAction_routedTo _ _⟩
    exact State.routingAction_untouched _ _ .time (by decide)
  · exact ⟨_, congrArg Host.Outcome.next ((State.maskEnds_masking masking).trans (if_pos zero)),
      s.reach_enterSettled (by decide) _⟩
  · refine ⟨_, congrArg Host.Outcome.next ((State.maskEnds_masking masking).trans (if_neg plate)), ?_,
      State.enterSeeking_seekingFrom _ _⟩
    exact State.enterSeeking_untouched _ _ .time (by decide)
  · obtain ⟨now, switch, pins, raised, frame⟩ := (s.reach s.switch.timerEnd).confirmed.enterSettled_leaves .showing
    refine ⟨_, congrArg Host.Outcome.next (State.confirmEnds_confirming confirming), now, switch, ?_, raised,
      ((s.reach_untouched _).andThen (State.switch_update_untouched _ _) (C := .time :: .switch :: muteBlocks) rfl
        rfl).andThen frame rfl rfl⟩
    rw [pins]
    rfl
  · refine ⟨_, congrArg Host.Outcome.next (State.watchEnds_showing showing), ?_, State.loseSync_seekingFrom _ _,
      State.loseSync_raises _ _⟩
    exact State.loseSync_untouched _ _ .time (by decide)
  · exact congrArg Host.Outcome.next (State.muteLeadEnds_none other)
  · exact congrArg Host.Outcome.next (State.maskEnds_none other)
  · exact congrArg Host.Outcome.next (State.confirmEnds_none other)
  · exact congrArg Host.Outcome.next (State.watchEnds_none other)
  · obtain ⟨switch, pins, geometry, frame⟩ :=
      (s.reach s.switch.timerEnd).reverting.routingAction_routedTo s.switch.previous
    refine ⟨_, congrArg Host.Outcome.next
      ((State.seekEnds_seeking seeking).trans (if_pos (State.revertPossible_iff.mpr revert))), ?_,
      switch, pins, geometry, (State.switch_update_untouched _ _).andThen frame rfl rfl⟩
    exact State.routingAction_untouched _ _ .time (by decide)
  · exact ⟨_, congrArg Host.Outcome.next
      ((State.seekEnds_seeking seeking).trans (if_neg (mt State.revertPossible_iff.mp held))),
      s.reach_enterSettled (by decide) _⟩
  · exact congrArg Host.Outcome.next (State.seekEnds_none other)

end Sys2Proof.Machine
end

section
/-! The geometry unit (R88 to R101): what its operations leave, and Law 7: the corners are those of the stored geometry. -/

namespace Sys2Proof.Machine

open Sys2Proof.Config

/-! ## The ranges of the stored fields (R88) -/

theorem Preset.zero_inRange : ({} : Preset).inRange := by simp [Preset.inRange]

/-- R88, R98: fields that are cut lie in their ranges. -/
theorem Preset.clamp_inRange (p : Preset) : p.clamp.inRange := by
  simp only [Preset.inRange, Preset.clamp, clampInt]
  omega

/-- R99: a trim cuts the two fields it moves and leaves the third as it stands. -/
theorem Preset.clampMoved_nudge_inRange {p : Preset} (h : p.inRange) (dv dh : Int) : (p.nudge dv dh).clampMoved.inRange := by
  obtain ⟨mode, vManual, hor, vTrim⟩ := p
  cases mode <;> simp only [Preset.inRange, Preset.nudge, Preset.clampMoved, clampInt] at h ⊢ <;> omega

theorem takePresets_inRange (p : List StoredPreset) : ∀ q ∈ takePresets p, q.inRange := by
  intro q member
  obtain ⟨i, _, rfl⟩ := List.mem_map.mp member
  cases p[i]? with
  | none => exact Preset.zero_inRange
  | some stored => exact Preset.clamp_inRange _

/-- R89, R184: so do the presets that start-up leaves, whatever their slot holds. -/
theorem loadedPresets_inRange (x : PerKind StoreSlot) : ∀ q ∈ (loadedPresets x).getD (List.replicate 13 {}), q.inRange := by
  unfold loadedPresets
  split
  · exact takePresets_inRange _
  · intro q member
    rw [List.eq_of_mem_replicate member]
    exact Preset.zero_inRange

/-- R88, R89: the active geometry and every preset lie in their ranges. -/
def Geometry.inRange (g : Geometry) : Prop := g.active.inRange ∧ ∀ p ∈ g.presets, p.inRange

/-- R101: a preset in the table, or the zero one that stands for a plate without. -/
theorem Geometry.inRange.preset {g : Geometry} (h : g.inRange) (n : Nat) : (nth g.presets n {}).inRange := by
  rw [nth, List.getD_eq_getElem?_getD]
  cases at_n : g.presets[n]? with
  | none => exact Preset.zero_inRange
  | some p => exact h.2 p (List.mem_of_getElem? at_n)

/-- R101: a geometry with a preset installed. -/
theorem Geometry.inRange.install {g : Geometry} (h : g.inRange) (n : Nat) :
    { g with active := nth g.presets n {}, requestClamp := false }.inRange := ⟨h.preset n, h.2⟩

/-- R100: a geometry whose active fields are stored as a preset. -/
theorem Geometry.inRange.store {g : Geometry} (h : g.inRange) (n : Nat) :
    { g with presets := g.presets.set n g.active }.inRange := by
  refine ⟨h.1, fun p member => ?_⟩
  rcases List.mem_or_eq_of_mem_set member with old | rfl
  · exact h.2 p old
  · exact h.1

/-! ## The invariant -/

/-- R94 to R96: v_eff, CLAMPED and the corners are derived when deriving them again changes nothing. -/
theorem State.geometryFollows_iff (s : State) :
    s.geometryFollows ↔
      s.geometry.inRange ∧ s.geometry.derive s.settings.panelWidth s.settings.panelHeight = s.geometry := by
  unfold State.geometryFollows Geometry.inRange
  constructor
  · rintro ⟨active, presets, vEff, clamped, corners⟩
    refine ⟨⟨active, presets⟩, ?_⟩
    rw [Geometry.derive, ← vEff, ← clamped, ← corners]
  · rintro ⟨⟨active, presets⟩, derived⟩
    have vEff : s.geometry.vEff = vEffOf s.geometry.active s.geometry.vAuto := (congrArg Geometry.vEff derived).symm
    refine ⟨active, presets, vEff, (congrArg Geometry.clamped derived).symm, ?_⟩
    rw [vEff]
    exact (congrArg Geometry.corners derived).symm

theorem State.geometryFollows.inRange {s : State} (h : s.geometryFollows) : s.geometry.inRange := ⟨h.1, h.2.1⟩

/-- R97: what the geometry unit takes is derived at once, so only the stored fields must lie in range. -/
theorem State.putGeometry_geometryFollows (s : State) {g : Geometry} (h : g.inRange) : (s.putGeometry g).geometryFollows := by
  rw [State.geometryFollows_iff, State.putGeometry_geometry, State.putGeometry_settings]
  exact ⟨h, rfl⟩

/-- An operation that touches neither the geometry nor the settings keeps the invariant. -/
theorem Untouched.geometryFollows {A : List Block} {s t : State} (h : Untouched A s t)
    (apart : [Block.geometry, .settings].all (fun b => decide (b ∉ A)) = true) (f : s.geometryFollows) :
    t.geometryFollows := by
  simp only [List.all_cons, List.all_nil, Bool.and_true, Bool.and_eq_true, decide_eq_true_eq] at apart
  obtain ⟨noGeometry, noSettings⟩ := apart
  have geometry : t.geometry = s.geometry := h .geometry noGeometry
  have settings : t.settings = s.settings := h .settings noSettings
  rw [State.geometryFollows, geometry, settings]
  exact f

/-- The invariant reads the geometry, and of the settings W and H. -/
theorem State.geometryFollows.congr {s t : State} (h : s.geometryFollows) (geometry : t.geometry = s.geometry)
    (width : t.settings.panelWidth = s.settings.panelWidth) (height : t.settings.panelHeight = s.settings.panelHeight) :
    t.geometryFollows := by
  rw [State.geometryFollows, geometry, width, height]
  exact h

/-! ## The geometry unit's requests and its timer -/

theorem State.putStored_geometryFollows {s : State} (h : s.geometryFollows) (asked : Preset) {kept : Preset}
    (range : kept.inRange) : (s.putStored asked kept).geometryFollows :=
  s.putGeometry_geometryFollows ⟨range, h.inRange.2⟩

/-- R92, R94: a new v_auto needs no range of its own; v_eff is cut. -/
theorem State.tiltSettingWritten_geometryFollows {s : State} (h : s.geometryFollows) :
    s.tiltSettingWritten.geometryFollows := by
  unfold State.tiltSettingWritten
  split
  · exact h
  · exact s.putGeometry_geometryFollows h.inRange

theorem State.tiltGoesSilent_geometryFollows {s : State} (h : s.geometryFollows) : s.tiltGoesSilent.geometryFollows := by
  unfold State.tiltGoesSilent
  split <;> exact h

/-! ## The switch sequencer and the room bus -/

/-- R64, R101: the routing action installs a preset, whatever the corners were before. -/
theorem State.routingAction_geometryFollows {s : State} (range : s.geometry.inRange) (n : Nat) :
    (s.routingAction n).geometryFollows :=
  (State.settleMute_untouched _).geometryFollows rfl (State.putGeometry_geometryFollows _ (range.install n))

theorem State.enterMuting_geometryFollows {s : State} (h : s.geometryFollows) : s.enterMuting.geometryFollows := by
  have begun := s.mutingBegun_untouched.geometryFollows rfl h
  rw [State.enterMuting_eq]
  split
  · exact State.routingAction_geometryFollows begun.inRange _
  · exact begun

theorem State.requestSettled_geometryFollows {s : State} (h : s.geometryFollows) (n : Nat) (c : Requester) :
    (s.requestSettled n c).1.geometryFollows := by
  simp only [State.requestSettled]
  split
  · split
    · refine (State.enterSeeking_untouched _ none).geometryFollows rfl ?_
      exact h
    · exact h
  · split
    · exact State.enterMuting_geometryFollows (s := s.taking n c) h
    · exact State.routingAction_geometryFollows (s := s.taking n c) h.inRange _

theorem State.requestInTransit_geometryFollows {s : State} (h : s.geometryFollows) (n : Nat) (c : Requester) :
    (s.requestInTransit n c).1.geometryFollows := by
  simp only [State.requestInTransit]
  split
  · exact h
  · split
    · exact h
    · split
      · exact h
      · exact State.routingAction_geometryFollows (s := s.taking n c) h.inRange _

theorem State.requestSwitch_geometryFollows {s : State} (h : s.geometryFollows) (n : Nat) (c : Requester) :
    (s.requestSwitch n c).1.geometryFollows := by
  unfold State.requestSwitch
  split
  · exact h
  · split
    · exact h
    · split
      · exact State.requestSettled_geometryFollows h n c
      · exact State.requestInTransit_geometryFollows h n c

theorem State.muteLeadEnds_geometryFollows {s : State} (h : s.geometryFollows) : s.muteLeadEnds.geometryFollows := by
  unfold State.muteLeadEnds
  split
  · exact State.routingAction_geometryFollows (s := s.reach s.switch.timerEnd) h.inRange _
  · exact h

theorem State.maskEnds_geometryFollows {s : State} (h : s.geometryFollows) : s.maskEnds.geometryFollows := by
  have reached := (s.reach_untouched s.switch.timerEnd).geometryFollows rfl h
  unfold State.maskEnds
  split
  · dsimp only
    split
    · exact (State.enterSettled_untouched _ _).geometryFollows rfl reached
    · exact (State.enterSeeking_untouched _ _).geometryFollows rfl reached
  · exact h

theorem State.seekEnds_geometryFollows {s : State} (h : s.geometryFollows) : s.seekEnds.geometryFollows := by
  have reached := (s.reach_untouched s.switch.timerEnd).geometryFollows rfl h
  unfold State.seekEnds
  split
  · dsimp only
    split
    · exact State.routingAction_geometryFollows (s := (s.reach s.switch.timerEnd).reverting) reached.inRange _
    · exact (State.enterSettled_untouched _ _).geometryFollows rfl reached
  · exact h

theorem State.confirmEnds_geometryFollows {s : State} (h : s.geometryFollows) : s.confirmEnds.geometryFollows := by
  unfold State.confirmEnds
  split
  · exact (State.enterSettled_untouched _ _).geometryFollows rfl h
  · exact h

theorem State.watchEnds_geometryFollows {s : State} (h : s.geometryFollows) : s.watchEnds.geometryFollows := by
  unfold State.watchEnds
  split
  · exact (State.loseSync_untouched _ _).geometryFollows rfl ((s.reach_untouched s.switch.timerEnd).geometryFollows rfl h)
  · exact h

theorem State.answerPlate_geometryFollows {s : State} (h : s.geometryFollows) (n : Nat) (c : Option Requester) :
    (s.answerPlate n c).geometryFollows := by
  cases c with
  | none => exact h
  | some c =>
    simp only [State.answerPlate, State.plateRequest]
    split
    · exact State.requestSwitch_geometryFollows h n c
    · exact h

/-- R50 to R52: a good reply reaches the geometry through the request it makes alone. -/
theorem State.goodReply_geometryFollows {s : State} (h : s.geometryFollows) (n : Nat) (r : Reply) :
    (s.goodReply n r).geometryFollows := by
  rw [State.goodReply_eq]
  exact (State.endSlot_untouched _ n).geometryFollows rfl
    (State.answerPlate_geometryFollows ((s.heard_untouched n r).geometryFollows rfl h) n _)

/-- R54: a failed slot makes no request. -/
theorem State.slotFails_geometryFollows {s : State} (h : s.geometryFollows) (n : Nat) (bad : Bool) :
    (s.slotFails n bad).geometryFollows :=
  (State.endSlot_untouched _ n).geometryFollows rfl ((s.failedAt_untouched n bad).geometryFollows rfl h)

theorem State.busByte_geometryFollows {s : State} (h : s.geometryFollows) (b : Byte) : (s.busByte b).geometryFollows := by
  unfold State.busByte
  split
  · unfold State.judgeReply
    split
    · split
      · exact State.slotFails_geometryFollows h _ _
      · split
        · exact State.goodReply_geometryFollows h _ _
        · exact h
    · exact h
  · exact h

theorem State.startCycle_geometryFollows {s : State} (h : s.geometryFollows) : s.startCycle.geometryFollows :=
  (State.startPoll_untouched _ 1).geometryFollows rfl ((State.raiseIf_untouched _ _ _).geometryFollows rfl
    ((s.scanner_update_untouched _).geometryFollows rfl h))

theorem State.pollEnds_geometryFollows {s : State} (h : s.geometryFollows) : s.pollEnds.geometryFollows := by
  unfold State.pollEnds
  split <;> exact h

theorem State.windowEnds_geometryFollows {s : State} (h : s.geometryFollows) : s.windowEnds.geometryFollows := by
  unfold State.windowEnds
  split
  · exact State.slotFails_geometryFollows ((s.reach_untouched _).geometryFollows rfl h) _ _
  · exact h

theorem State.cycleGapEnds_geometryFollows {s : State} (h : s.geometryFollows) : s.cycleGapEnds.geometryFollows := by
  unfold State.cycleGapEnds
  split
  · exact State.startCycle_geometryFollows ((s.reach_untouched _).geometryFollows rfl h)
  · exact h

/-! ## The session controller, whose source requests route plates -/

theorem State.issueSource_geometryFollows {s : State} (h : s.geometryFollows) (n : Nat) :
    (s.issueSource n).geometryFollows :=
  (State.setOwed_untouched _ _).geometryFollows rfl (State.requestSwitch_geometryFollows h n .schedule)

theorem State.serveSource_geometryFollows {s : State} (h : s.geometryFollows) (started : Bool) :
    (s.serveSource started).geometryFollows := by
  simp only [State.serveSource]
  split
  · split
    · split
      · exact h
      · exact State.issueSource_geometryFollows h _
    · split
      · split
        · exact h
        · split
          · exact State.issueSource_geometryFollows h _
          · exact (s.setOwed_untouched none).geometryFollows rfl h
      · exact h
  · exact h

theorem State.runner_geometryFollows {s : State} (h : s.geometryFollows) (ev : RunnerEvent) :
    (s.runner ev).geometryFollows := by
  have recorded := (s.session_update_untouched (runRecord s ev).1).geometryFollows rfl h
  have handed := (State.handOver_untouched _ ev.quiet).geometryFollows rfl recorded
  exact (State.raiseIf_untouched _ _ _).geometryFollows rfl (State.serveSource_geometryFollows handed _)

/-- R134, R141: the finder recomputes, then the runner takes the event. -/
theorem State.recompute_runner_geometryFollows {s : State} (h : s.geometryFollows) (q : Bool) (ev : RunnerEvent) :
    ((s.recompute q).runner ev).geometryFollows :=
  State.runner_geometryFollows ((s.recompute_untouched q).geometryFollows rfl h) ev

theorem State.takeMinute_geometryFollows {s : State} (h : s.geometryFollows) (wrapped first : Bool) :
    (s.takeMinute wrapped first).geometryFollows := by
  unfold State.takeMinute
  split
  · exact h
  · split
    · exact State.recompute_runner_geometryFollows (s.countOverride_untouched.geometryFollows rfl h) _ _
    · exact (State.countOverride_untouched _).geometryFollows rfl (State.recompute_runner_geometryFollows h _ _)

theorem State.secondPasses_geometryFollows {s : State} (h : s.geometryFollows) (chargeFirst countdownFirst : Bool) :
    (s.secondPasses chargeFirst countdownFirst).geometryFollows := by
  have clock := s.advanceClock_untouched.geometryFollows rfl h
  have charged := fun {t : State} (h : t.geometryFollows) => t.accountSecond_untouched.geometryFollows rfl h
  simp only [State.secondPasses]
  split
  · exact charged clock
  · split
    · exact State.takeMinute_geometryFollows (charged clock) _ _
    · exact charged (State.takeMinute_geometryFollows clock _ _)

theorem State.changeTable_geometryFollows {s : State} (h : s.geometryFollows) (table : List Entry)
    (replaced : Option Nat) : (s.changeTable table replaced).geometryFollows := by
  have raised := (State.raise_untouched _ .schedule).geometryFollows rfl
    ((s.table_update_untouched table).geometryFollows rfl h)
  exact State.recompute_runner_geometryFollows ((State.queueKind_untouched _ .schedule).geometryFollows rfl raised) _ _

theorem State.putEntry_geometryFollows {s : State} (h : s.geometryFollows) (e : Entry) :
    (s.putEntry e).state.geometryFollows := by
  unfold State.putEntry
  split
  · exact h
  · dsimp only
    split
    · exact h
    · exact State.changeTable_geometryFollows h _ _

/-! ## The settings (R90, R97, R181) -/

/-- R97: a write of W or H derives the corners of the geometry as it is stored. -/
theorem State.panelWritten_geometryFollows {s : State} (range : s.geometry.inRange) : s.panelWritten.geometryFollows :=
  s.putGeometry_geometryFollows range

/-- R181: what the owner of a setting does keeps the corners. -/
theorem State.settingWritten_geometryFollows {s : State} (h : s.geometryFollows) (i : SettingId) :
    (s.settingWritten i).geometryFollows := by
  cases i with
  | panelWidth | panelHeight => exact State.panelWritten_geometryFollows h.inRange
  | tiltGain | tiltAveraging => exact State.tiltSettingWritten_geometryFollows h
  | lifeLimit | warningMargin => exact s.limitWritten_untouched.geometryFollows rfl h
  | missLimit => exact s.missLimitWritten_untouched.geometryFollows rfl h
  | idleLevel | walkupLevel => exact (s.setBase_untouched _ _).geometryFollows rfl h
  | rate l => exact (s.rateWritten_untouched l).geometryFollows rfl h
  | mask l => exact (s.settleLine_untouched l).geometryFollows rfl h
  | _ => exact h

/-- R181: W and H are changed by their own writes alone, and those derive the corners again. -/
theorem State.settingTaken_geometryFollows {s : State} (h : s.geometryFollows) (i : SettingId) (n : Nat) :
    (s.settingTaken i n).geometryFollows := by
  refine (State.queueKind_untouched _ _).geometryFollows rfl ?_
  by_cases width : i = .panelWidth
  · subst width
    exact State.panelWritten_geometryFollows (s := s.settingPut .panelWidth n) h.inRange
  · by_cases height : i = .panelHeight
    · subst height
      exact State.panelWritten_geometryFollows (s := s.settingPut .panelHeight n) h.inRange
    · exact State.settingWritten_geometryFollows (h.congr (t := s.settingPut i n) rfl
        (s.settings.get_put_other (j := .panelWidth) n (Ne.symm width))
        (s.settings.get_put_other (j := .panelHeight) n (Ne.symm height))) i

/-! ## The requests -/

/-- Every owner of a request keeps the invariant: those of the geometry unit by what they store, the setting's writer by R97,
the ones that can route a plate by R101, and every other by touching neither geometry nor settings. -/
theorem Owned.geometryFollows {l : Link} {own : State → Answer} (owned : Owned l own) {s : State} (h : s.geometryFollows) :
    (own s).state.geometryFollows := by
  cases owned with
  | geometrySet mode v hor trim =>
    unfold ownGeometrySet
    split
    · exact h
    · exact State.putStored_geometryFollows h _ (Preset.clamp_inRange _)
  | geometryTrim dv dh => exact State.putStored_geometryFollows h _ (Preset.clampMoved_nudge_inRange h.1 _ _)
  | presetStore =>
    refine (State.queueKind_untouched _ _).geometryFollows rfl ?_
    obtain ⟨active, presets⟩ := h.inRange.store s.switch.routed
    obtain ⟨-, -, derived⟩ := h
    exact ⟨active, presets, derived⟩
  | tiltReport tilt => exact s.putGeometry_geometryFollows h.inRange
  | settingWrite id value =>
    unfold ownSettingWrite
    split
    · exact h
    · exact State.settingTaken_geometryFollows h _ _
  | sourceSelect plate => exact State.requestSwitch_geometryFollows h _ _
  | clockSet date hour minute =>
    unfold ownClockSet
    split
    · exact h
    · rename_i c _
      exact State.recompute_runner_geometryFollows ((State.raise_untouched _ .clock).geometryFollows rfl
        ((s.clock_update_untouched c).geometryFollows rfl h)) _ _
  | entryPut raw =>
    unfold ownEntryPut
    split
    · exact h
    · split
      · exact State.putEntry_geometryFollows h _
      · exact h
  | entryDelete id =>
    unfold ownEntryDelete
    split
    · exact State.changeTable_geometryFollows h _ _
    · exact h
  | scheduleClear =>
    unfold ownScheduleClear
    split
    · exact h
    · exact State.changeTable_geometryFollows h _ _
  | roomRead | countersRead | lampRead | sourceRead | plateRead | lockoutRead | clockRead | entryList | occurrenceRead
  | countersClear | restart => exact h
  | noticeRead =>
    exact h.congr (State.setLink_geometry s l _) (congrArg Settings.panelWidth (State.setLink_settings s l _))
      (congrArg Settings.panelHeight (State.setLink_settings s l _))
  | geometryRead plate =>
    cases plate with
    | none => exact h
    | some plate =>
      simp only [ownGeometryRead]
      split <;> exact h
  | entryRead id =>
    unfold ownEntryRead
    split <;> exact h
  | settingRead id =>
    unfold ownSettingRead
    split <;> exact h
  | sessionStart | sessionEnd | sessionExtend | lampLevel => exact (answerSession_untouched s _).geometryFollows rfl h
  | lampReplaced =>
    unfold ownLampReplaced
    split
    · exact (s.serviceAccount_untouched _).geometryFollows rfl h
    · exact h
  | accountSet hours =>
    unfold ownAccountSet
    split
    · exact (s.serviceAccount_untouched _).geometryFollows rfl h
    · exact h
  | pictureMute onOff =>
    unfold ownPictureMute
    split
    · exact h
    · exact (State.settleMute_untouched _).geometryFollows rfl h
  | engineReport temperature =>
    unfold ownEngineReport
    split
    · exact h
    · exact (s.setTemp_untouched _).geometryFollows rfl h
  | overrideSet level minutes =>
    unfold ownOverrideSet
    split
    · exact h
    · split
      · exact h
      · exact (s.setOverride_untouched _).geometryFollows rfl h
  | overrideClear => exact (s.setOverride_untouched _).geometryFollows rfl h

theorem geometryFollows_keptByRequests : KeptByRequests State.geometryFollows where
  line h := h.geometryFollows rfl
  owner _ owned := owned.geometryFollows

/-! ## Resets and start-up -/

/-- R104: after any reset the geometry, its presets and the corners are zero. -/
theorem State.afterReset_geometryFollows (s : State) (cause : Cause) (cut : SlotLeft) :
    (s.afterReset cause cut).geometryFollows :=
  reset_geometryFollows.congr (s := State.reset) rfl rfl rfl

/-- R89, R184: the presets are loaded in range, and the corners derived for the W and H loaded. -/
theorem State.backed_geometryFollows {s : State} (h : s.geometryFollows) : s.backed.geometryFollows := by
  have geometry : s.preset.geometry = { s.geometry with
      presets := (loadedPresets s.store.slots).getD (List.replicate 13 {}) } := rfl
  have range : s.preset.geometry.inRange := by
    rw [geometry]
    exact ⟨h.1, loadedPresets_inRange _⟩
  exact s.preset.deriveLoaded.checked_untouched.geometryFollows rfl
    ((State.geometryFollows_iff s.preset.deriveLoaded).mpr ⟨range, rfl⟩)

/-- R93, R184: the tilt-silence timer starts, and no corner reads it. -/
theorem State.release_geometryFollows {s : State} (h : s.geometryFollows) : s.release.geometryFollows := by
  have released := s.linksReleased_untouched.geometryFollows rfl h
  exact released

theorem State.startUp_geometryFollows {s : State} (h : s.geometryFollows) : s.startUp.geometryFollows := by
  unfold State.startUp
  split
  · exact h
  · rw [State.backed_eq]
    have evaluated : s.backed.evaluateSession.geometryFollows :=
      State.recompute_runner_geometryFollows (State.backed_geometryFollows h) _ _
    have released := State.release_geometryFollows evaluated
    exact State.startCycle_geometryFollows ((State.watchSupply_startWrite _).1.geometryFollows rfl released)

theorem State.responseSent_geometryFollows {s : State} (h : s.geometryFollows) (l : Link) (cut : SlotLeft) :
    (s.responseSent l cut).geometryFollows := by
  unfold State.responseSent
  split
  · split
    · exact State.afterReset_geometryFollows _ _ _
    · exact (s.finishResponse_untouched l).geometryFollows rfl h
  · exact h

/-! ## Every step -/

theorem exec_geometryFollows (c : Instr) {s t : State} (h : s.geometryFollows) (taken : exec c s = .next t) :
    t.geometryFollows := by
  cases c
  case powerOn cut backup => cases taken; exact State.afterReset_geometryFollows _ _ _
  case resetPin cut => cases taken; exact State.afterReset_geometryFollows _ _ _
  case supplyDrop cut => cases taken; exact State.afterReset_geometryFollows _ _ _
  case startUpComplete => cases taken; exact State.startUp_geometryFollows h
  case receiveByte l b => cases taken; exact (s.byteArrives_untouched l b).geometryFollows rfl h
  case gap l => cases taken; exact (s.gapExpires_untouched l).geometryFollows rfl h
  case frameTake l => cases taken; exact geometryFollows_keptByRequests.takeNext l h
  case responseSent l cut => cases taken; exact State.responseSent_geometryFollows h l cut
  case engineSilence => cases taken; exact s.silenceFound_untouched.geometryFollows rfl h
  case secondEvent => cases taken; exact State.secondPasses_geometryFollows h _ _
  case litChange high dt => cases taken; exact ((s.elapse dt).litChanges_untouched high).geometryFollows rfl h
  case litConfirmed => cases taken; exact s.litConfirms_untouched.geometryFollows rfl h
  case outage => cases taken; exact s.outageFalls_untouched.geometryFollows rfl h
  case strikeWindowExpiry => cases taken; exact s.strikeWindowEnds_untouched.geometryFollows rfl h
  case retryWaitExpiry => cases taken; exact s.retryWaitEnds_untouched.geometryFollows rfl h
  case warmUpExpiry => cases taken; exact s.warmUpEnds_untouched.geometryFollows rfl h
  case cooldownExpiry => cases taken; exact s.cooldownEnds_untouched.geometryFollows rfl h
  case pollSent => cases taken; exact State.pollEnds_geometryFollows h
  case busByteReceived b => cases taken; exact State.busByte_geometryFollows h b
  case replyWindowExpiry => cases taken; exact State.windowEnds_geometryFollows h
  case cycleGapExpiry => cases taken; exact State.cycleGapEnds_geometryFollows h
  case vsyncEdge edge dt => cases taken; exact ((s.elapse dt).vsync_untouched edge).geometryFollows rfl h
  case muteLeadExpiry => cases taken; exact State.muteLeadEnds_geometryFollows h
  case maskExpiry => cases taken; exact State.maskEnds_geometryFollows h
  case seekWindowExpiry => cases taken; exact State.seekEnds_geometryFollows h
  case confirmDelayExpiry => cases taken; exact State.confirmEnds_geometryFollows h
  case syncWatchExpiry => cases taken; exact State.watchEnds_geometryFollows h
  case tiltSilenceExpiry => cases taken; exact State.tiltGoesSilent_geometryFollows h
  case writeComplete readBack => cases taken; exact (s.completeWrite_untouched readBack).geometryFollows rfl h
  case supplyWarning =>
    cases taken
    split
    · exact (State.startWrite_untouched _).geometryFollows rfl h
    · exact h
  case supplyRecover => cases taken; exact h
  all_goals
    rw [exec_request rfl] at taken
    cases taken
    exact geometryFollows_keptByRequests.takeRequest _ _ _ h

/-! ## The corners (R96) -/

/-- R96: the displacement of a correction `v` over a panel of `size` pixels is at most that of the largest of both. -/
theorem displacement_le {size v maxSize maxV : Nat} (panel : size ≤ maxSize) (correction : v ≤ maxV) :
    (2 * (size * v) + 256) / 512 ≤ (2 * (maxSize * maxV) + 256) / 512 := by
  have product := Nat.mul_le_mul panel correction
  exact Nat.div_le_div_right (by omega)

/-- Settles O8: the geometry unit derives the corners with everything it takes, so an operation owes it stored fields in their
ranges; the corners and their bounds are read off R96's rule. -/
theorem cornersFollowTheStoredGeometry : Obligations.CornersFollowTheStoredGeometry := by
  refine ⟨keptByEveryStep_of_exec (fun frame => frame.geometryFollows rfl) exec_geometryFollows,
    fun v h width height => ⟨rfl, rfl, rfl, rfl, fun panel range => ?_, fun panel range => ?_⟩⟩
  · exact Int.ofNat_le.mpr (displacement_le panel range)
  · exact Int.ofNat_le.mpr (displacement_le panel range)

end Sys2Proof.Machine
end

section
/-! GEOMETRY_SET, GEOMETRY_TRIM and PRESET_STORE (R95 to R102). -/

namespace Sys2Proof.Machine

open Sys2Proof.Config

/-! ## The notice of a changed geometry (R97) -/

theorem geometryNoticed_iff {old new : Geometry} :
    geometryNoticed old new = true ↔
      old.corners ≠ new.corners ∨ old.tiltStale ≠ new.tiltStale ∨ old.clamped ≠ new.clamped := by
  simp [geometryNoticed, or_assoc]

theorem State.putGeometry_raises {s : State} {g : Geometry}
    (changed : geometryNoticed s.geometry (s.putGeometry g).geometry = true) : Pending .geometry (s.putGeometry g) := by
  rw [State.putGeometry_geometry] at changed
  exact Pending.of_raiseIf changed _

/-- R97: a geometry that looks the same raises nothing. -/
theorem State.putGeometry_quiet {s : State} {g : Geometry}
    (same : geometryNoticed s.geometry (s.putGeometry g).geometry = false) : Untouched [.geometry] s (s.putGeometry g) := by
  rw [State.putGeometry_geometry] at same
  simp only [State.putGeometry, same, State.raiseIf]
  exact s.geometry_update_untouched _

/-! ## New stored fields (R95, R98, R99) -/

@[simp] theorem State.putStored_geometry (s : State) (asked kept : Preset) :
    (s.putStored asked kept).geometry =
      { s.geometry with active := kept, requestClamp := decide (kept ≠ asked) }.derive s.settings.panelWidth
        s.settings.panelHeight := by
  have cut : (kept != asked) = decide (kept ≠ asked) := Bool.eq_iff_iff.mpr (by simp)
  rw [State.putStored, State.putGeometry_geometry, cut]

/-- R95, R97: what new stored fields leave, told from a state `s` before the frame of the request was heard. -/
theorem State.putStored_leaves {s r : State} (geometry : r.geometry = s.geometry) (settings : r.settings = s.settings)
    (asked kept : Preset) :
    let u := r.putStored asked kept
    u.geometry = { s.geometry with active := kept, requestClamp := decide (kept ≠ asked) }.derive s.settings.panelWidth
        s.settings.panelHeight
      ∧ (u.geometry.corners ≠ s.geometry.corners ∨ u.geometry.clamped ≠ s.geometry.clamped → Pending .geometry u)
      ∧ (u.geometry.corners = s.geometry.corners → u.geometry.clamped = s.geometry.clamped → Untouched [.geometry] r u)
      ∧ Untouched [.geometry, .notice .geometry, .attention] r u := by
  intro u
  rw [← geometry, ← settings]
  have stale : u.geometry.tiltStale = r.geometry.tiltStale := by
    rw [State.putStored_geometry]
    rfl
  refine ⟨r.putStored_geometry asked kept, fun changed => ?_, fun corners clamped => ?_, r.putGeometry_untouched _⟩
  · refine State.putGeometry_raises (geometryNoticed_iff.mpr ?_)
    rcases changed with corners | clamped
    · exact .inl corners.symm
    · exact .inr (.inr clamped.symm)
  · refine State.putGeometry_quiet (Bool.eq_false_iff.mpr fun noticed => ?_)
    rcases geometryNoticed_iff.mp noticed with other | other | other
    · exact other corners.symm
    · exact other stale.symm
    · exact other clamped.symm

/-! ## GEOMETRY_SET (R98) -/

theorem modeOfCode_byte_code (m : GeometryMode) : modeOfCode (byte m.code).toNat = some m := by cases m <;> rfl

theorem modeOfCode_above {n : Nat} (above : 1 < n) : modeOfCode n = none := by
  match n, above with
  | n + 2, _ => rfl

section
variable {l : Link} {s : State}

theorem exec_geometrySet_unknown {mode v h trim : Byte} (admitted : Admitted .geometrySet l s) (above : 1 < mode.toNat) :
    exec (.geometrySet l mode v h trim) s
      = answered .geometrySet l (s.hearing (.geometrySet l mode v h trim)) .badArgument [] := by
  rw [exec_admitted (i := .geometrySet l mode v h trim) (own := ownGeometrySet mode v h trim) rfl admitted
    (by decide : 4 ≤ 59) rfl]
  simp only [ownGeometrySet, modeOfCode_above above]

theorem exec_geometrySet (m : GeometryMode) {v h trim : Byte} (admitted : Admitted .geometrySet l s) :
    let asked : Preset := ⟨m, v.toInt, h.toInt, trim.toInt⟩
    exec (.geometrySet l (byte m.code) v h trim) s
      = answered .geometrySet l ((s.hearing (.geometrySet l (byte m.code) v h trim)).putStored asked asked.clamp) .ok
        (storedBytes asked.clamp) := by
  intro asked
  rw [exec_admitted (i := .geometrySet l (byte m.code) v h trim) (own := ownGeometrySet (byte m.code) v h trim) rfl admitted
    (by decide : 4 ≤ 59) rfl]
  simp only [ownGeometrySet, modeOfCode_byte_code, State.putStored_geometry]
  rfl

/-! ## GEOMETRY_TRIM (R99) -/

theorem exec_geometryTrim {dv dh : Byte} (admitted : Admitted .geometryTrim l s) :
    let asked := s.geometry.active.nudge dv.toInt dh.toInt
    exec (.geometryTrim l dv dh) s
      = answered .geometryTrim l ((s.hearing (.geometryTrim l dv dh)).putStored asked asked.clampMoved) .ok
        (storedBytes asked.clampMoved) := by
  intro asked
  have geometry : (s.hearing (.geometryTrim l dv dh)).geometry = s.geometry := s.hearing_untouched _ .geometry (by decide)
  rw [exec_admitted (i := .geometryTrim l dv dh) (own := ownGeometryTrim dv dh) rfl admitted (by decide : 2 ≤ 59) rfl]
  simp only [ownGeometryTrim, State.putStored_geometry, geometry]
  rfl

end

theorem Preset.nudge_manual {p : Preset} (manual : p.mode = .manual) (dv dh : Int) :
    p.nudge dv dh = { p with vManual := p.vManual + dv, h := p.h + dh } := by simp [Preset.nudge, manual]

theorem Preset.nudge_auto {p : Preset} (auto : p.mode = .auto) (dv dh : Int) :
    p.nudge dv dh = { p with vTrim := p.vTrim + dv, h := p.h + dh } := by simp [Preset.nudge, auto]

theorem Preset.clampMoved_manual {p : Preset} (manual : p.mode = .manual) :
    p.clampMoved = { p with vManual := max (-40) (min 40 p.vManual), h := max (-30) (min 30 p.h) } := by
  simp [Preset.clampMoved, manual, clampInt]

theorem Preset.clampMoved_auto {p : Preset} (auto : p.mode = .auto) :
    p.clampMoved = { p with vTrim := max (-10) (min 10 p.vTrim), h := max (-30) (min 30 p.h) } := by
  simp [Preset.clampMoved, auto, clampInt]

/-- Settles O38: each request puts the cut fields in place, and what that leaves is told once for all three. -/
theorem geometryRequestsAreClamped : Obligations.GeometryRequestsAreClamped := by
  intro l mode b1 b2 b3 s cut answer leaves
  have leave := fun (i : Instr) => State.putStored_leaves (s.hearing_untouched i .geometry (by decide))
    (s.hearing_untouched i .settings (by decide))
  refine ⟨fun admitted => ⟨exec_geometrySet_unknown admitted, ?_⟩, fun admitted manual => ?_, fun admitted auto => ?_⟩
  · rintro m rfl asked kept
    exact ⟨_, exec_geometrySet m admitted, leave _ asked kept⟩
  · intro p asked kept
    have nudged : p.nudge b1.toInt b2.toInt = asked := Preset.nudge_manual manual _ _
    have clamped : asked.clampMoved = kept := Preset.clampMoved_manual manual
    refine ⟨_, ?_, leave _ asked kept⟩
    rw [exec_geometryTrim admitted, nudged, clamped]
    rfl
  · intro p asked kept
    have nudged : p.nudge b1.toInt b2.toInt = asked := Preset.nudge_auto auto _ _
    have clamped : asked.clampMoved = kept := Preset.clampMoved_auto auto
    refine ⟨_, ?_, leave _ asked kept⟩
    rw [exec_geometryTrim admitted, nudged, clamped]
    rfl

/-! ## PRESET_STORE (R100) -/

/-- R100: the active geometry stored as the routed plate's preset, the record not yet queued. -/
def State.presetStored (s : State) : State :=
  { s with geometry := { s.geometry with presets := s.geometry.presets.set s.switch.routed s.geometry.active } }

theorem ownPresetStore_eq (s : State) : ownPresetStore s = ⟨s.presetStored.queueKind .presets, .ok, []⟩ := rfl

/-- Settles O39: the preset is in place before PRESETS is queued, so a write that begins at once holds it. -/
theorem presetStoreSavesTheActiveGeometry : Obligations.PresetStoreSavesTheActiveGeometry := by
  intro l s admitted
  obtain ⟨switch, -, -, -, -, geometry, -⟩ := s.hearing_pictureFields (.presetStore l)
  generalize heard : s.hearing (.presetStore l) = r at switch geometry
  have stored : (r.presetStored.queueKind .presets).geometry =
      { s.geometry with presets := s.geometry.presets.set s.switch.routed s.geometry.active } := by
    rw [State.queueKind_geometry, State.presetStored, geometry, switch]
  have queued := r.presetStored.queueKind_queued .presets
  refine ⟨r.presetStored.queueKind .presets, ?_, stored, fun inTable => ?_, ?_, ?_⟩
  · rw [exec_admitted (i := .presetStore l) rfl admitted (Nat.zero_le _) rfl, heard, ownPresetStore_eq]
  · rw [stored, List.getElem?_set_self inTable]
  · rw [State.queueKind_geometry]
    subst heard
    exact Queued.of_hearing (queued.congr rfl rfl rfl rfl)
  · exact (r.geometry_update_untouched _).andThen (State.queueKind_untouched _ _) rfl rfl

end Sys2Proof.Machine
end

section
/-! TILT_REPORT and the tilt silence (R90 to R94, R97). -/

namespace Sys2Proof.Machine

open Sys2Proof.Config

/-! ## Rounding (R92) -/

/-- CONVENTIONS: round-half-away, written with the sign outside the division. -/
theorem roundHalfAway_eq (n : Int) (d : Nat) :
    roundHalfAway n d = if n < 0 then -((2 * n.natAbs + d) / (2 * d) : Int) else (2 * n + d) / (2 * d) := by
  unfold roundHalfAway roundHalfUp
  split
  · push_cast
    rfl
  · have magnitude : (n.natAbs : Int) = n := Int.natAbs_of_nonneg (by omega)
    push_cast [magnitude]
    rfl

/-- R92: the mean of the newest reports. -/
theorem tiltAverage_eq (ring : List Int) (n : Nat) :
    tiltAverage ring n = if newest n ring = [] then 0 else roundHalfAway (newest n ring).sum (newest n ring).length := by
  simp [tiltAverage]

/-! ## TILT_REPORT (R91) -/

/-- R91: the ring, the silence timer and TILT_STALE as a report leaves them, nothing derived yet. -/
def Geometry.reported (g : Geometry) (tilt : BitVec 16) (now : Nat) : Geometry :=
  { g with
    ring := newest 8 (g.ring ++ [clampInt (-900) 900 tilt.toInt])
    tiltTimer := some (now + staleTime)
    tiltStale := false }

/-- R91, R92, R94: the state with a report taken. -/
def State.tilted (s : State) (tilt : BitVec 16) : State :=
  s.putGeometry ((s.geometry.reported tilt s.now).deriveTilt s.settings.tiltAveraging s.settings.tiltGain)

theorem State.tilted_geometry (s : State) (tilt : BitVec 16) :
    (s.tilted tilt).geometry =
      ((s.geometry.reported tilt s.now).deriveTilt s.settings.tiltAveraging s.settings.tiltGain).derive
        s.settings.panelWidth s.settings.panelHeight := State.putGeometry_geometry _ _

theorem exec_tiltReport {l : Link} {tilt : BitVec 16} {s : State} (admitted : Admitted .tiltReport l s) :
    exec (.tiltReport l tilt) s
      = answered .tiltReport l ((s.hearing (.tiltReport l tilt)).tilted tilt) .ok [] := by
  have fields : ownerOf .tiltReport l (payloadOf (.tiltReport l tilt)) = some (ownTiltReport tilt) :=
    congrArg (fun w => some (ownTiltReport w)) (wordBytes_joined tilt)
  exact exec_admitted (i := .tiltReport l tilt) rfl admitted (by decide : 2 ≤ 59) fields

/-- R97: a report clears TILT_STALE, so one that finds it set raises GEOMETRY. -/
theorem State.tilted_raises {s : State} {tilt : BitVec 16}
    (changed : s.geometry.tiltStale = true ∨ (s.tilted tilt).geometry.corners ≠ s.geometry.corners
      ∨ (s.tilted tilt).geometry.clamped ≠ s.geometry.clamped) : Pending .geometry (s.tilted tilt) := by
  have fresh : (s.tilted tilt).geometry.tiltStale = false := by
    rw [State.tilted_geometry]
    rfl
  refine State.putGeometry_raises (geometryNoticed_iff.mpr ?_)
  rcases changed with stale | corners | clamped
  · exact .inr (.inl fun same => Bool.false_ne_true (fresh.symm.trans (same.symm.trans stale)))
  · exact .inl corners.symm
  · exact .inr (.inr clamped.symm)

/-! ## The tilt silence (R93) -/

theorem State.tiltGoesSilent_stopped {s : State} (stopped : s.geometry.tiltTimer = none) : s.tiltGoesSilent = s := by
  simp only [State.tiltGoesSilent, stopped]

theorem State.tiltGoesSilent_running {s : State} {till : Nat} (running : s.geometry.tiltTimer = some till) :
    s.tiltGoesSilent =
      State.raise { s.reach till with geometry := { s.geometry with tiltStale := true, tiltTimer := none } } .geometry := by
  simp only [State.tiltGoesSilent, running]
  rfl

/-- Settles O40: the figures of a report by R92's two roundings, and the silence by its timer. -/
theorem tiltReportsFillTheRing : Obligations.TiltReportsFillTheRing := by
  refine fun l tilt s => ⟨fun admitted => ?_, fun till running => ?_, fun stopped => ?_⟩
  · intro ring away used average v
    obtain ⟨-, -, -, settings, now, geometry, -⟩ := s.hearing_pictureFields (.tiltReport l tilt)
    generalize heard : s.hearing (.tiltReport l tilt) = r at settings now geometry
    have averaged : tiltAverage ring s.settings.tiltAveraging = average := by
      rw [tiltAverage_eq, roundHalfAway_eq]
      rfl
    have auto : vAutoOf average s.settings.tiltGain = v := roundHalfAway_eq _ _
    have taken : (r.tilted tilt).geometry = Geometry.derive { s.geometry with
        ring := ring, tiltTimer := some (s.now + 5000000), tiltStale := false, average := average, vAuto := v }
        s.settings.panelWidth s.settings.panelHeight := by
      rw [State.tilted_geometry, settings, now, geometry, ← auto, ← averaged]
      rfl
    refine ⟨r.tilted tilt, ?_, ?_, fun mode => ?_, fun mode => ?_, fun changed => ?_, r.putGeometry_untouched _⟩
    · rw [exec_tiltReport admitted, heard]
    · rw [taken]
      rfl
    · rw [taken]
      simp [Geometry.derive, vEffOf, mode, clampInt]
    · rw [taken]
      simp [Geometry.derive, vEffOf, mode]
    · rw [← geometry] at changed
      exact State.tilted_raises changed
  · refine ⟨_, congrArg Host.Outcome.next (State.tiltGoesSilent_running running), rfl, rfl, Pending.of_raise _ _, ?_⟩
    rw [← State.tiltGoesSilent_running running]
    exact s.tiltGoesSilent_untouched
  · exact congrArg Host.Outcome.next (State.tiltGoesSilent_stopped stopped)

end Sys2Proof.Machine
end

section
/-! The values handed over stay with their takers: the policy unit derives its level, and the lamp controller and the
sequencer hold the session record's orders (R106, R110, R143). -/

namespace Sys2Proof.Machine

open Sys2Proof.Config

/-! ## The invariant, part by part -/

/-- R143: the lamp controller and the sequencer hold the values of the session record. -/
def State.ordersTaken (s : State) : Prop :=
  s.lamp.requested = s.session.requested ∧ s.lamp.demand = s.session.demand
    ∧ s.switch.bridgeMute = s.session.use.bridgeMute

theorem State.handedOver_iff (s : State) :
    s.handedOver ↔ s.policy.effective = s.policy.derived ∧ s.policy.base = s.baseLevel ∧ s.ordersTaken := Iff.rfl

theorem State.handedOver.orders {s : State} (h : s.handedOver) : s.ordersTaken := ((State.handedOver_iff s).mp h).2.2

/-- R106: what the base level is read from. -/
theorem State.baseLevel_of_same {s t : State} (use : t.session.use = s.session.use) (table : t.table = s.table)
    (idle : t.settings.idleLevel = s.settings.idleLevel) (walkup : t.settings.walkupLevel = s.settings.walkupLevel) :
    t.baseLevel = s.baseLevel := by
  simp only [State.baseLevel, use, table, idle, walkup]

/-- A block apart from those an operation touches is the same after it. -/
theorem Untouched.same_of_apart {A B : List Block} {s t : State} (h : Untouched A s t)
    (apart : B.all (fun b => decide (b ∉ A)) = true) {b : Block} (mem : b ∈ B) : b.same s t :=
  h b (of_decide_eq_true (List.all_eq_true.mp apart b mem))

theorem Untouched.baseLevel {A : List Block} {s t : State} (h : Untouched A s t)
    (apart : [Block.session, .table, .settings].all (fun b => decide (b ∉ A)) = true) : t.baseLevel = s.baseLevel := by
  have session : t.session = s.session := h.same_of_apart apart (b := .session) (by simp)
  have table : t.table = s.table := h.same_of_apart apart (b := .table) (by simp)
  have settings : t.settings = s.settings := h.same_of_apart apart (b := .settings) (by simp)
  exact State.baseLevel_of_same (by rw [session]) table (by rw [settings]) (by rw [settings])

/-- The orders stay taken while the record, the lamp's two fields and bridge mute stay. -/
theorem State.ordersTaken.of_same {s t : State} (h : s.ordersTaken) (session : t.session = s.session)
    (orders : SameOrders s t) (mute : t.switch.bridgeMute = s.switch.bridgeMute) : t.ordersTaken := by
  obtain ⟨requested, demand, bridge⟩ := h
  rw [State.ordersTaken, session, orders.1, orders.2, mute]
  exact ⟨requested, demand, bridge⟩

/-- An operation within its own blocks keeps the invariant when the orders stay with their takers. -/
theorem Untouched.handedOver_of_takers {A : List Block} {s t : State} (h : Untouched A s t)
    (apart : [Block.session, .table, .settings, .policy].all (fun b => decide (b ∉ A)) = true) (orders : SameOrders s t)
    (mute : t.switch.bridgeMute = s.switch.bridgeMute) (f : s.handedOver) : t.handedOver := by
  obtain ⟨effective, base, taken⟩ := (State.handedOver_iff s).mp f
  have policy : t.policy = s.policy := h.same_of_apart apart (b := .policy) (by simp)
  have session : t.session = s.session := h.same_of_apart apart (b := .session) (by simp)
  have level : t.baseLevel = s.baseLevel := h.baseLevel (by simp_all)
  rw [State.handedOver_iff, policy, level]
  exact ⟨effective, base, taken.of_same session orders mute⟩

theorem SameOrders.of_lamp {s t : State} (lamp : t.lamp = s.lamp) : SameOrders s t := ⟨by rw [lamp], by rw [lamp]⟩

/-- An operation of the lamp controller that keeps the session's orders keeps the invariant. -/
theorem Untouched.handedOver_of_orders {A : List Block} {s t : State} (h : Untouched A s t)
    (apart : [Block.session, .table, .settings, .policy, .switch].all (fun b => decide (b ∉ A)) = true)
    (orders : SameOrders s t) (f : s.handedOver) : t.handedOver := by
  have switch : t.switch = s.switch := h.same_of_apart apart (b := .switch) (by simp)
  exact h.handedOver_of_takers (by simp_all) orders (by rw [switch]) f

/-- An operation of the sequencer that keeps bridge mute keeps the invariant. -/
theorem Untouched.handedOver_of_bridgeMute {A : List Block} {s t : State} (h : Untouched A s t)
    (apart : [Block.session, .table, .settings, .policy, .lamp].all (fun b => decide (b ∉ A)) = true)
    (mute : t.switch.bridgeMute = s.switch.bridgeMute) (f : s.handedOver) : t.handedOver :=
  h.handedOver_of_takers (by simp_all) (.of_lamp (h.same_of_apart apart (b := .lamp) (by simp))) mute f

/-- An operation that touches none of the blocks the invariant reads keeps it. -/
theorem Untouched.handedOver {A : List Block} {s t : State} (h : Untouched A s t)
    (apart : [Block.session, .table, .settings, .policy, .lamp, .switch].all (fun b => decide (b ∉ A)) = true)
    (f : s.handedOver) : t.handedOver := by
  have switch : t.switch = s.switch := h.same_of_apart apart (b := .switch) (by simp)
  exact h.handedOver_of_bridgeMute (by simp_all) (by rw [switch]) f

/-! ## The lamp controller keeps the session's orders -/

theorem State.settleLamp_orders (s : State) (old : Lamp) : SameOrders s (s.settleLamp old) := by
  constructor <;> rw [State.settleLamp_lamp]

/-- A lamp whose orders stand is settled with them. -/
theorem State.settleNewLamp_orders {s t : State} (old : Lamp) (orders : SameOrders s t) : SameOrders s (t.settleLamp old) :=
  orders.trans (t.settleLamp_orders old)

/-- R23, R33: a strike passes the gate or is held. -/
theorem State.gate_orders (s : State) (first : Bool) :
    SameOrders s (if s.gatePasses then s.startAttempt first else s.holdStrike s.blockCause) := by
  split
  · exact s.startAttempt_orders first
  · exact s.holdStrike_orders _

theorem State.handAccount_orders (s : State) (old : Account) : SameOrders s (s.handAccount old) := by
  unfold State.handAccount
  split
  · exact .of_lamp rfl
  · exact (s.settleLamp_orders _).trans (State.recheckStrike_orders _)

theorem State.setTemp_orders (s : State) (t : TempState) : SameOrders s (s.setTemp t) := by
  by_cases same : s.lamp.temp = t
  · exact .of_lamp (by rw [State.setTemp_same same])
  · have taken : SameOrders s (s.tempTaken t) := State.settleNewLamp_orders _ ⟨rfl, rfl⟩
    rw [State.setTemp_eq same]
    split
    · exact taken.trans (State.extinguish_orders _ _)
    · exact taken.trans (State.recheckStrike_orders _)

theorem State.silenceFound_orders (s : State) : SameOrders s s.silenceFound := by
  unfold State.silenceFound
  split
  · exact .of_lamp rfl
  · exact State.setTemp_orders (s.reach _) .unknown

theorem State.strikeWindowEnds_orders (s : State) : SameOrders s s.strikeWindowEnds := by
  unfold State.strikeWindowEnds
  split
  · dsimp only
    split <;> exact State.settleNewLamp_orders _ ⟨rfl, rfl⟩
  · exact .of_lamp rfl

theorem State.retryWaitEnds_orders (s : State) : SameOrders s s.retryWaitEnds := by
  unfold State.retryWaitEnds
  split
  · exact (s.reach s.lamp.timerEnd).gate_orders false
  · exact .of_lamp rfl

theorem State.warmUpEnds_orders (s : State) : SameOrders s s.warmUpEnds := by
  unfold State.warmUpEnds
  split
  · exact State.settleNewLamp_orders _ ⟨rfl, rfl⟩
  · exact .of_lamp rfl

theorem State.cooldownEnds_orders (s : State) : SameOrders s s.cooldownEnds := by
  unfold State.cooldownEnds
  split
  · have cooled : SameOrders s s.cooled := State.settleNewLamp_orders _ ⟨rfl, rfl⟩
    dsimp only
    split
    · exact cooled.trans (State.strikeOrHold_orders _)
    · exact cooled
  · exact .of_lamp rfl

theorem State.litConfirms_orders (s : State) : SameOrders s s.litConfirms := by
  unfold State.litConfirms
  split
  · split
    · rename_i rise _ _ _
      have lamp : (s.reach (rise + litHold)).countIgnition.lamp = s.lamp :=
        State.countIgnition_untouched _ .lamp (by decide)
      exact State.settleNewLamp_orders _ ⟨(congrArg Lamp.demand lamp :), (congrArg Lamp.requested lamp :)⟩
    · exact .of_lamp rfl
  · exact .of_lamp rfl

theorem State.outageFalls_orders (s : State) : SameOrders s s.outageFalls := by
  unfold State.outageFalls
  split
  · split
    · exact State.extinguish_orders (s.reach _) true
    · exact .of_lamp rfl
  · exact .of_lamp rfl

/-- R25, R31: LIT is an input; watching it moves the 100 ms alone. -/
theorem State.litChanges_orders (s : State) (high : Bool) : SameOrders s (s.litChanges high) := by
  simp only [State.litChanges]
  split
  · exact .of_lamp rfl
  · split <;> exact ⟨rfl, rfl⟩

theorem State.accountSecond_orders (s : State) : SameOrders s s.accountSecond :=
  ⟨(congrArg Lamp.demand s.chargeSecond_lamp :), (congrArg Lamp.requested s.chargeSecond_lamp :)⟩

theorem State.serviceAccount_orders (s : State) (a : Account) : SameOrders s (s.serviceAccount a) := by
  refine SameOrders.trans (.of_lamp ?_) (State.handAccount_orders _ _)
  simp

/-! ## The sequencer and the room bus keep bridge mute -/

@[simp] theorem State.enterSettled_bridgeMute (s : State) (x : SwitchState) :
    (s.enterSettled x).switch.bridgeMute = s.switch.bridgeMute := by simp [State.enterSettled]

@[simp] theorem State.loseSync_bridgeMute (s : State) (r : Option Nat) :
    (s.loseSync r).switch.bridgeMute = s.switch.bridgeMute := by simp [State.loseSync]

@[simp] theorem State.becomeStable_bridgeMute (s : State) : s.becomeStable.switch.bridgeMute = s.switch.bridgeMute := by
  simp [State.becomeStable]

theorem State.judgeSeeking_bridgeMute (s : State) (i : Nat) :
    (s.judgeSeeking i).switch.bridgeMute = s.switch.bridgeMute := by
  simp only [State.judgeSeeking]
  split
  · rfl
  · split
    · rfl
    · split
      · split
        · exact State.becomeStable_bridgeMute _
        · rfl
      · rfl

theorem State.judgeShowing_bridgeMute (s : State) (i : Nat) :
    (s.judgeShowing i).switch.bridgeMute = s.switch.bridgeMute := by
  unfold State.judgeShowing
  split
  · rfl
  · split
    · exact s.loseSync_bridgeMute _
    · rfl

theorem State.takeEdge_bridgeMute (s : State) : s.takeEdge.switch.bridgeMute = s.switch.bridgeMute := by
  simp only [State.takeEdge]
  split
  · split <;> rfl
  · split
    · exact State.judgeShowing_bridgeMute _ _
    · exact State.judgeSeeking_bridgeMute _ _

theorem State.vsync_bridgeMute (s : State) (e : SyncEdge) : (s.vsync e).switch.bridgeMute = s.switch.bridgeMute := by
  unfold State.vsync
  split
  · exact s.takeEdge_bridgeMute
  · rfl

theorem State.muteLeadEnds_bridgeMute (s : State) : s.muteLeadEnds.switch.bridgeMute = s.switch.bridgeMute := by
  unfold State.muteLeadEnds
  split
  · exact State.routingAction_bridgeMute _ _
  · rfl

theorem State.maskEnds_bridgeMute (s : State) : s.maskEnds.switch.bridgeMute = s.switch.bridgeMute := by
  unfold State.maskEnds
  split
  · dsimp only
    split
    · exact State.enterSettled_bridgeMute _ _
    · exact State.enterSeeking_bridgeMute _ _
  · rfl

theorem State.seekEnds_bridgeMute (s : State) : s.seekEnds.switch.bridgeMute = s.switch.bridgeMute := by
  unfold State.seekEnds
  split
  · dsimp only
    split
    · exact State.routingAction_bridgeMute _ _
    · exact State.enterSettled_bridgeMute _ _
  · rfl

theorem State.confirmEnds_bridgeMute (s : State) : s.confirmEnds.switch.bridgeMute = s.switch.bridgeMute := by
  unfold State.confirmEnds
  split
  · exact State.enterSettled_bridgeMute _ _
  · rfl

theorem State.watchEnds_bridgeMute (s : State) : s.watchEnds.switch.bridgeMute = s.switch.bridgeMute := by
  unfold State.watchEnds
  split
  · exact State.loseSync_bridgeMute _ _
  · rfl

/-- What a slot that makes no request can touch (R45, R46, R54, R56). -/
def slotBlocks : List Block := [.scanner, .notice .plates, .attention, .pins]

theorem State.slotFails_bridgeMute (s : State) (n : Nat) (bad : Bool) :
    (s.slotFails n bad).switch.bridgeMute = s.switch.bridgeMute := by
  have slot : Untouched slotBlocks s (s.slotFails n bad) :=
    (s.failedAt_untouched n bad).andThen (State.endSlot_untouched _ n) rfl rfl
  exact congrArg Switch.bridgeMute (slot .switch (by decide))

theorem State.answerPlate_bridgeMute (s : State) (n : Nat) (c : Option Requester) :
    (s.answerPlate n c).switch.bridgeMute = s.switch.bridgeMute := by
  cases c with
  | none => rfl
  | some c =>
    simp only [State.answerPlate, State.plateRequest]
    split
    · exact s.requestSwitch_bridgeMute n c
    · rfl

/-- R50 to R52: a good reply reaches the sequencer through the request it makes alone. -/
theorem State.goodReply_bridgeMute (s : State) (n : Nat) (r : Reply) :
    (s.goodReply n r).switch.bridgeMute = s.switch.bridgeMute := by
  rw [State.goodReply_eq]
  have slot := State.endSlot_untouched ((s.heard n r).answerPlate n (r.request (s.plate n) s.settings.follow)) n .switch
    (by decide)
  have heard := s.heard_untouched n r .switch (by decide)
  exact (congrArg Switch.bridgeMute slot).trans
    ((State.answerPlate_bridgeMute _ _ _).trans (congrArg Switch.bridgeMute heard))

theorem State.busByte_bridgeMute (s : State) (b : Byte) : (s.busByte b).switch.bridgeMute = s.switch.bridgeMute := by
  unfold State.busByte
  split
  · unfold State.judgeReply
    split
    · split
      · exact State.slotFails_bridgeMute _ _ _
      · split
        · exact State.goodReply_bridgeMute _ _ _
        · rfl
    · rfl
  · rfl

theorem State.startCycle_switch (s : State) : s.startCycle.switch = s.switch := by
  have cycle : Untouched slotBlocks s s.startCycle :=
    ((s.scanner_update_untouched _).andThen (State.raiseIf_untouched _ _ _) (C := slotBlocks) rfl rfl).andThen
      (State.startPoll_untouched _ 1) rfl rfl
  exact cycle .switch (by decide)

theorem State.pollEnds_bridgeMute (s : State) : s.pollEnds.switch.bridgeMute = s.switch.bridgeMute := by
  unfold State.pollEnds
  split <;> rfl

theorem State.windowEnds_bridgeMute (s : State) : s.windowEnds.switch.bridgeMute = s.switch.bridgeMute := by
  unfold State.windowEnds
  split
  · exact State.slotFails_bridgeMute _ _ _
  · rfl

theorem State.cycleGapEnds_bridgeMute (s : State) : s.cycleGapEnds.switch.bridgeMute = s.switch.bridgeMute := by
  unfold State.cycleGapEnds
  split
  · exact congrArg Switch.bridgeMute (State.startCycle_switch _)
  · rfl

/-! ## The policy unit and the session controller -/

theorem State.deriveEffective_orders (s : State) (q : Bool) : SameOrders s (s.deriveEffective q) := by
  unfold State.deriveEffective
  split
  · exact .of_lamp rfl
  · refine SameOrders.trans (.of_lamp ?_) (State.recheckStrike_orders _)
    rw [State.raiseIf_lamp]

/-- R107 to R110: a new override record, whatever it is, leaves the effective level derived and all else handed over. -/
theorem State.setOverride_handedOver {s : State} (h : s.handedOver) (o : Option Override) :
    (s.setOverride o).handedOver := by
  obtain ⟨_, base, taken⟩ := (State.handedOver_iff s).mp h
  have frame := s.setOverride_untouched o
  have level : (s.setOverride o).baseLevel = s.baseLevel := frame.baseLevel rfl
  have session : (s.setOverride o).session = s.session := frame .session (by decide)
  have switch : (s.setOverride o).switch = s.switch := frame .switch (by decide)
  rw [State.handedOver_iff, level, State.setOverride_policy]
  exact ⟨rfl, base, taken.of_same session (State.deriveEffective_orders _ false) (by rw [switch])⟩

/-- R106, R110: the base level handed over anew is the record's, whatever was held before. -/
theorem State.levelWritten_handedOver {s : State} (taken : s.ordersTaken) : s.levelWritten.handedOver := by
  have frame := s.setBase_untouched s.baseLevel false
  have level : s.levelWritten.baseLevel = s.baseLevel := frame.baseLevel rfl
  have session : s.levelWritten.session = s.session := frame .session (by decide)
  have switch : s.levelWritten.switch = s.switch := frame .switch (by decide)
  rw [State.handedOver_iff, level]
  refine ⟨?_, s.levelWritten_base, taken.of_same session (State.deriveEffective_orders _ false) (by rw [switch])⟩
  rw [State.levelWritten, State.setBase_policy]
  rfl

/-- R143: the handing over establishes the invariant, whatever the takers held. -/
theorem State.handOver_handedOver (s : State) (q : Bool) : (s.handOver q).handedOver := by
  obtain ⟨base, demand, requested, mute, session⟩ := s.handOver_handed q
  have level : (s.handOver q).baseLevel = s.baseLevel := (s.handOver_untouched q).baseLevel rfl
  refine (State.handedOver_iff _).mpr ⟨?_, base.trans level.symm, ?_⟩
  · rw [s.handOver_policy q, State.setBase_policy]
    rfl
  · rw [State.ordersTaken, session]
    exact ⟨requested, demand, mute⟩

/-- R139: what a session record owes. -/
def Session.owed (r : Session) : Option Nat :=
  match r.use with
  | .booked b => b.owed
  | _ => none

theorem Session.owing_owed (r : Session) : r.owing r.owed = r := by
  obtain ⟨use, demand, requested⟩ := r
  cases use <;> rfl

/-- R146: what is owed is no order of the session record. -/
theorem Session.owing_orders (r : Session) (owed : Option Nat) :
    (r.owing owed).use.bridgeMute = r.use.bridgeMute ∧ (r.owing owed).demand = r.demand
      ∧ (r.owing owed).requested = r.requested := by
  obtain ⟨use, demand, requested⟩ := r
  cases use <;> exact ⟨rfl, rfl, rfl⟩

theorem State.baseLevel_of_owing {s t : State} {owed : Option Nat} (session : t.session = s.session.owing owed)
    (table : t.table = s.table) (settings : t.settings = s.settings) : t.baseLevel = s.baseLevel := by
  cases use : s.session.use <;> simp [State.baseLevel, session, table, settings, Session.owing, use]

/-- R146: serving the source changes what is owed alone, which no taker is handed. -/
theorem State.serveSource_handedOver {s : State} (h : s.handedOver) (started : Bool) :
    (s.serveSource started).handedOver := by
  obtain ⟨session, policy, lamp, mute⟩ := s.serveSource_spec started
  have frame := s.serveSource_untouched started
  have rewritten : ∃ owed, (s.serveSource started).session = s.session.owing owed := by
    rcases session with same | owing
    · exact ⟨s.session.owed, same.trans s.session.owing_owed.symm⟩
    · exact owing
  obtain ⟨owed, owing⟩ := rewritten
  obtain ⟨effective, base, requested, demand, bridge⟩ := (State.handedOver_iff s).mp h
  obtain ⟨keptMute, keptDemand, keptRequested⟩ := s.session.owing_orders owed
  have level : (s.serveSource started).baseLevel = s.baseLevel :=
    State.baseLevel_of_owing owing (frame .table (by decide)) (frame .settings (by decide))
  rw [State.handedOver_iff, State.ordersTaken, policy, level, lamp, mute, owing, keptMute, keptDemand, keptRequested]
  exact ⟨effective, base, requested, demand, bridge⟩

/-- R143: a raised notice moves no value. -/
theorem State.raiseIf_handedOver {s : State} (h : s.handedOver) (c : Bool) (n : Notice) : (s.raiseIf c n).handedOver :=
  (s.raiseIf_untouched c n).handedOver rfl h

theorem State.putSession_handedOver (s : State) (r : Session) : (s.putSession r).handedOver :=
  State.raiseIf_handedOver (State.handOver_handedOver _ _) _ _

/-- R142, R143: so does every runner event, the first of start-up among them. -/
theorem State.runner_handedOver (s : State) (ev : RunnerEvent) : (s.runner ev).handedOver :=
  State.raiseIf_handedOver (State.serveSource_handedOver (State.handOver_handedOver _ _) _) _ _

theorem State.takeMinute_handedOver {s : State} (h : s.handedOver) (wrapped first : Bool) :
    (s.takeMinute wrapped first).handedOver := by
  unfold State.takeMinute
  split
  · exact h
  · split
    · exact State.runner_handedOver _ _
    · exact State.setOverride_handedOver (State.runner_handedOver _ _) _

theorem State.accountSecond_handedOver {s : State} (h : s.handedOver) : s.accountSecond.handedOver :=
  s.accountSecond_untouched.handedOver_of_orders rfl s.accountSecond_orders h

theorem State.secondPasses_handedOver {s : State} (h : s.handedOver) (chargeFirst countdownFirst : Bool) :
    (s.secondPasses chargeFirst countdownFirst).handedOver := by
  have clock := s.advanceClock_untouched.handedOver rfl h
  simp only [State.secondPasses]
  split
  · exact State.accountSecond_handedOver clock
  · split
    · exact State.takeMinute_handedOver (State.accountSecond_handedOver clock) _ _
    · exact State.accountSecond_handedOver (State.takeMinute_handedOver clock _ _)

/-! ## The requests -/

theorem answerSession_handedOver {s : State} (h : s.handedOver) (r : Session × Status) :
    (answerSession s r).state.handedOver := by
  simp only [answerSession]
  split
  · split
    · exact h
    · exact s.putSession_handedOver _
  · exact h

/-- R106: the two settings that a base level is read from. -/
def SettingId.givesLevel : SettingId → Bool
  | .idleLevel | .walkupLevel => true
  | _ => false

/-- R106, R181: any other setting leaves the base level as it is. -/
theorem State.settingPut_handedOver {s : State} (h : s.handedOver) {i : SettingId} (other : i.givesLevel = false)
    (n : Nat) : (s.settingPut i n).handedOver := by
  obtain ⟨effective, base, taken⟩ := (State.handedOver_iff s).mp h
  have levels : (s.settings.put i n).idleLevel = s.settings.idleLevel
      ∧ (s.settings.put i n).walkupLevel = s.settings.walkupLevel := by
    cases i with
    | idleLevel | walkupLevel => cases other
    | rate l | mask l => cases l <;> exact ⟨rfl, rfl⟩
    | _ => exact ⟨rfl, rfl⟩
  have level : (s.settingPut i n).baseLevel = s.baseLevel := State.baseLevel_of_same rfl rfl levels.1 levels.2
  exact (State.handedOver_iff _).mpr ⟨effective, base.trans level.symm, taken⟩

theorem State.settingWritten_handedOver {s : State} (h : s.handedOver) {i : SettingId} (other : i.givesLevel = false) :
    (s.settingWritten i).handedOver := by
  have limit : s.limitWritten.handedOver := s.limitWritten_untouched.handedOver_of_orders rfl
    ((SameOrders.of_lamp s.deriveStatus_lamp).trans (State.handAccount_orders _ _)) h
  cases i with
  | lifeLimit | warningMargin => exact limit
  | missLimit => exact s.missLimitWritten_untouched.handedOver rfl h
  | panelWidth | panelHeight => exact (s.putGeometry_untouched _).handedOver rfl h
  | tiltGain | tiltAveraging => exact s.tiltSettingWritten_untouched.handedOver rfl h
  | idleLevel | walkupLevel => cases other
  | rate l => exact (s.rateWritten_untouched l).handedOver rfl h
  | mask l => exact (s.settleLine_untouched l).handedOver rfl h
  | _ => exact h

/-- R106, R181: the idle and the walk-up level are handed over at once; no base level is read from the others. -/
theorem State.settingTaken_handedOver {s : State} (h : s.handedOver) (i : SettingId) (n : Nat) :
    (s.settingTaken i n).handedOver := by
  refine (s.settingTaken_after i n).handedOver rfl ?_
  have orders : (s.settingPut i n).ordersTaken := h.orders
  by_cases level : i.givesLevel = true
  · cases i with
    | idleLevel | walkupLevel => exact State.levelWritten_handedOver orders
    | _ => cases level
  · have other : i.givesLevel = false := by simpa using level
    exact State.settingWritten_handedOver (State.settingPut_handedOver h other n) other

theorem State.putEntry_handedOver {s : State} (h : s.handedOver) (e : Entry) : (s.putEntry e).state.handedOver := by
  unfold State.putEntry
  split
  · exact h
  · dsimp only
    split
    · exact h
    · exact State.runner_handedOver _ _

/-- Every owner of a request keeps the invariant: those that make a runner event or put a session hand over anew. -/
theorem Owned.handedOver {l : Link} {own : State → Answer} (owned : Owned l own) {s : State} (h : s.handedOver) :
    (own s).state.handedOver := by
  have serviced := fun a => (s.serviceAccount_untouched a).handedOver_of_orders rfl (s.serviceAccount_orders a) h
  cases owned with
  | roomRead | countersRead | lampRead | sourceRead | plateRead | lockoutRead | clockRead | entryList | occurrenceRead
  | countersClear | restart => exact h
  | noticeRead => cases l <;> exact h
  | sessionStart | sessionEnd | sessionExtend | lampLevel => exact answerSession_handedOver h _
  | lampReplaced =>
    unfold ownLampReplaced
    split
    · exact serviced _
    · exact h
  | accountSet hours =>
    unfold ownAccountSet
    split
    · exact serviced _
    · exact h
  | sourceSelect plate =>
    exact (s.requestSwitch_untouched _ _).handedOver_of_bridgeMute rfl (s.requestSwitch_bridgeMute _ _) h
  | pictureMute onOff =>
    unfold ownPictureMute
    split
    · exact h
    · exact (State.settleMute_untouched _).handedOver rfl h
  | geometrySet mode v hor trim =>
    unfold ownGeometrySet
    split
    · exact h
    · exact (s.putGeometry_untouched _).handedOver rfl h
  | geometryTrim | tiltReport => exact (s.putGeometry_untouched _).handedOver rfl h
  | presetStore =>
    exact (State.queueKind_untouched _ _).handedOver rfl ((s.geometry_update_untouched _).handedOver rfl h)
  | geometryRead plate =>
    cases plate with
    | none => exact h
    | some plate =>
      simp only [ownGeometryRead]
      split <;> exact h
  | engineReport temperature =>
    unfold ownEngineReport
    split
    · exact h
    · exact (s.setTemp_untouched _).handedOver_of_orders rfl (s.setTemp_orders _) h
  | overrideSet level minutes =>
    unfold ownOverrideSet
    split
    · exact h
    · split
      · exact h
      · exact State.setOverride_handedOver h _
  | overrideClear => exact State.setOverride_handedOver h _
  | clockSet date hour minute =>
    unfold ownClockSet
    split
    · exact h
    · exact State.runner_handedOver _ _
  | entryPut raw =>
    unfold ownEntryPut
    split
    · exact h
    · split
      · exact State.putEntry_handedOver h _
      · exact h
  | entryDelete id =>
    unfold ownEntryDelete
    split
    · exact State.runner_handedOver _ _
    · exact h
  | entryRead id =>
    unfold ownEntryRead
    split <;> exact h
  | scheduleClear =>
    unfold ownScheduleClear
    split
    · exact h
    · exact State.runner_handedOver _ _
  | settingWrite id value =>
    unfold ownSettingWrite
    split
    · exact h
    · exact State.settingTaken_handedOver h _ _
  | settingRead id =>
    unfold ownSettingRead
    split <;> exact h

theorem handedOver_keptByRequests : KeptByRequests State.handedOver where
  line h := h.handedOver rfl
  owner _ owned := owned.handedOver

/-! ## Resets and start-up -/

/-- R42, R119, R160: after any reset no session is in force and every taker holds what that calls for. -/
theorem State.afterReset_handedOver (s : State) (cause : Cause) (cut : SlotLeft) : (s.afterReset cause cut).handedOver :=
  ⟨rfl, rfl, rfl, rfl, rfl⟩

theorem State.watchSupply_handedOver {s : State} (h : s.handedOver) : s.watchSupply.handedOver := by
  unfold State.watchSupply
  split
  · exact (State.startWrite_untouched _).handedOver rfl h
  · exact h

/-- R160, R184: start-up's first evaluation hands over; what follows it moves no taker. -/
theorem State.startUp_handedOver {s : State} (h : s.handedOver) : s.startUp.handedOver := by
  unfold State.startUp
  split
  · exact h
  · have evaluated : s.loadRecords.checkBackup.evaluateSession.handedOver := State.runner_handedOver _ _
    have watched := State.watchSupply_handedOver ((State.release_untouched _).handedOver rfl evaluated)
    exact (State.startCycle_untouched _).handedOver_of_bridgeMute rfl (congrArg _ (State.startCycle_switch _))
      ((State.startWrite_untouched _).handedOver rfl watched)

theorem State.responseSent_handedOver {s : State} (h : s.handedOver) (l : Link) (cut : SlotLeft) :
    (s.responseSent l cut).handedOver := by
  unfold State.responseSent
  split
  · split
    · exact State.afterReset_handedOver _ _ _
    · exact (s.finishResponse_untouched l).handedOver rfl h
  · exact h

/-! ## Every step -/

theorem exec_handedOver (c : Instr) {s t : State} (h : s.handedOver) (taken : exec c s = .next t) : t.handedOver := by
  cases c
  case powerOn cut backup => cases taken; exact State.afterReset_handedOver _ _ _
  case resetPin cut => cases taken; exact State.afterReset_handedOver _ _ _
  case supplyDrop cut => cases taken; exact State.afterReset_handedOver _ _ _
  case startUpComplete => cases taken; exact State.startUp_handedOver h
  case receiveByte l b => cases taken; exact (s.byteArrives_untouched l b).handedOver rfl h
  case gap l => cases taken; exact (s.gapExpires_untouched l).handedOver rfl h
  case frameTake l => cases taken; exact handedOver_keptByRequests.takeNext l h
  case responseSent l cut => cases taken; exact State.responseSent_handedOver h l cut
  case engineSilence =>
    cases taken; exact s.silenceFound_untouched.handedOver_of_orders rfl s.silenceFound_orders h
  case secondEvent => cases taken; exact State.secondPasses_handedOver h _ _
  case litChange high dt =>
    cases taken
    exact (State.litChanges_untouched _ high).handedOver_of_orders rfl (State.litChanges_orders _ high)
      ((s.elapse_untouched dt).handedOver rfl h)
  case litConfirmed => cases taken; exact s.litConfirms_untouched.handedOver_of_orders rfl s.litConfirms_orders h
  case outage => cases taken; exact s.outageFalls_untouched.handedOver_of_orders rfl s.outageFalls_orders h
  case strikeWindowExpiry =>
    cases taken; exact s.strikeWindowEnds_untouched.handedOver_of_orders rfl s.strikeWindowEnds_orders h
  case retryWaitExpiry => cases taken; exact s.retryWaitEnds_untouched.handedOver_of_orders rfl s.retryWaitEnds_orders h
  case warmUpExpiry => cases taken; exact s.warmUpEnds_untouched.handedOver_of_orders rfl s.warmUpEnds_orders h
  case cooldownExpiry => cases taken; exact s.cooldownEnds_untouched.handedOver_of_orders rfl s.cooldownEnds_orders h
  case pollSent => cases taken; exact s.pollEnds_untouched.handedOver_of_bridgeMute rfl s.pollEnds_bridgeMute h
  case busByteReceived b =>
    cases taken; exact (s.busByte_untouched b).handedOver_of_bridgeMute rfl (s.busByte_bridgeMute b) h
  case replyWindowExpiry => cases taken; exact s.windowEnds_untouched.handedOver_of_bridgeMute rfl s.windowEnds_bridgeMute h
  case cycleGapExpiry =>
    cases taken; exact s.cycleGapEnds_untouched.handedOver_of_bridgeMute rfl s.cycleGapEnds_bridgeMute h
  case vsyncEdge edge dt =>
    cases taken
    exact (State.vsync_untouched _ edge).handedOver_of_bridgeMute rfl (State.vsync_bridgeMute _ edge)
      ((s.elapse_untouched dt).handedOver rfl h)
  case muteLeadExpiry =>
    cases taken; exact s.muteLeadEnds_untouched.handedOver_of_bridgeMute rfl s.muteLeadEnds_bridgeMute h
  case maskExpiry => cases taken; exact s.maskEnds_untouched.handedOver_of_bridgeMute rfl s.maskEnds_bridgeMute h
  case seekWindowExpiry => cases taken; exact s.seekEnds_untouched.handedOver_of_bridgeMute rfl s.seekEnds_bridgeMute h
  case confirmDelayExpiry =>
    cases taken; exact s.confirmEnds_untouched.handedOver_of_bridgeMute rfl s.confirmEnds_bridgeMute h
  case syncWatchExpiry => cases taken; exact s.watchEnds_untouched.handedOver_of_bridgeMute rfl s.watchEnds_bridgeMute h
  case tiltSilenceExpiry => cases taken; exact s.tiltGoesSilent_untouched.handedOver rfl h
  case writeComplete readBack => cases taken; exact (s.completeWrite_untouched readBack).handedOver rfl h
  case supplyWarning =>
    cases taken
    split
    · exact (State.startWrite_untouched _).handedOver rfl h
    · exact h
  case supplyRecover => cases taken; exact h
  all_goals
    rw [exec_request rfl] at taken
    cases taken
    exact handedOver_keptByRequests.takeRequest _ _ _ h

/-- Settles O9: a session record that changes is handed over anew, and nothing else reaches its takers' values. -/
theorem handedOverValuesAreHeldByTheirTakers : Obligations.HandedOverValuesAreHeldByTheirTakers :=
  keptByEveryStep_of_exec (fun frame => frame.handedOver rfl) exec_handedOver

end Sys2Proof.Machine
end

section
/-! Requests that are refused, and requests that wait for the answering side (R111, R161, R164, R166, R168, R175, R176). -/

namespace Sys2Proof.Machine

open Sys2Proof.Config

/-! ## The judging of a request (R111, R168) -/

theorem judge_not_accepted {c : Command} {l : Link} (refused : c.acceptedOn l = false) (level : Level) :
    judge c l level = some .wrongLink := by simp [judge, refused]

theorem judge_accepted {c : Command} {l : Link} (accepted : c.acceptedOn l = true) (level : Level) :
    judge c l level = if c.judgement.permits (requesterOf l) level then none else some .refusedLockout := by
  cases permitted : c.judgement.permits (requesterOf l) level <;> simp [judge, accepted, permitted]

/-! ## The frames that wait on a link -/

theorem Untouched.frames {A : List Block} {s t : State} (h : Untouched A s t) (apart : Block.links ∉ A) (l : Link) :
    (t.link l).frames = (s.link l).frames := (congrArg LinkState.frames (h .links apart l) :)

/-- R161: SETTING_WRITE comes over the campus link, whose own new rate waits and so empties no buffer there. -/
theorem ownSettingWrite_frames (id : Byte) (value : BitVec 32) (s : State) :
    ((ownSettingWrite id value s).state.link .campus).frames = (s.link .campus).frames := by
  unfold ownSettingWrite
  split
  · rfl
  · rename_i i _
    have queued := State.queueKind_untouched (State.settingWritten { s with settings := s.settings.put i value.toNat } i)
      .settings
    refine (queued.frames (by decide) .campus).trans ?_
    cases i with
    | rate k => cases k <;> rfl
    | mask k => cases k <;> rfl
    | lifeLimit | warningMargin => exact (State.limitWritten_untouched _).frames (by decide) .campus
    | missLimit => exact (State.missLimitWritten_untouched _).frames (by decide) .campus
    | panelWidth | panelHeight => exact (State.putGeometry_untouched _ _).frames (by decide) .campus
    | tiltGain | tiltAveraging => exact (State.tiltSettingWritten_untouched _).frames (by decide) .campus
    | idleLevel | walkupLevel => exact (State.setBase_untouched _ _ _).frames (by decide) .campus
    | _ => rfl

/-- R166: carrying out a request that its link accepts leaves the frames that wait behind it. -/
theorem ownerOf_frames {c : Command} {l : Link} {payload : List Byte} {own : State → Answer}
    (fields : ownerOf c l payload = some own) (accepted : c.acceptedOn l = true) (s : State) :
    ((own s).state.link l).frames = (s.link l).frames := by
  cases c
  case settingWrite =>
    have campus : l = .campus := eq_of_beq accepted
    rcases payload with _ | ⟨_, _ | ⟨_, _ | ⟨_, _ | ⟨_, _ | ⟨_, _ | ⟨_, _⟩⟩⟩⟩⟩⟩ <;> cases fields
    rw [campus]
    exact ownSettingWrite_frames _ _ s
  case roomRead | noticeRead | countersRead | countersClear | restart | lampRead | sourceRead | plateRead | lockoutRead
      | clockRead | entryList | occurrenceRead =>
    cases payload <;> cases fields
    cases l <;> rfl
  case sessionStart | sessionEnd | sessionExtend =>
    cases payload <;> cases fields
    exact (answerSession_untouched s _).frames (by decide) l
  case lampLevel =>
    rcases payload with _ | ⟨_, _ | ⟨_, _⟩⟩ <;> cases fields
    exact (answerSession_untouched s _).frames (by decide) l
  case lampReplaced =>
    cases payload <;> cases fields
    unfold ownLampReplaced
    split
    · exact (s.serviceAccount_untouched _).frames (by decide) l
    · rfl
  case accountSet =>
    rcases payload with _ | ⟨_, _ | ⟨_, _ | ⟨_, _⟩⟩⟩ <;> cases fields
    unfold ownAccountSet
    split
    · exact (s.serviceAccount_untouched _).frames (by decide) l
    · rfl
  case sourceSelect =>
    rcases payload with _ | ⟨_, _ | ⟨_, _⟩⟩ <;> cases fields
    exact (s.requestSwitch_untouched _ _).frames (by decide) l
  case pictureMute =>
    rcases payload with _ | ⟨_, _ | ⟨_, _⟩⟩ <;> cases fields
    unfold ownPictureMute
    split
    · rfl
    · exact (State.settleMute_untouched _).frames (by decide) l
  case geometrySet =>
    rcases payload with _ | ⟨_, _ | ⟨_, _ | ⟨_, _ | ⟨_, _ | ⟨_, _⟩⟩⟩⟩⟩ <;> cases fields
    unfold ownGeometrySet
    split
    · rfl
    · exact (s.putGeometry_untouched _).frames (by decide) l
  case geometryTrim =>
    rcases payload with _ | ⟨_, _ | ⟨_, _ | ⟨_, _⟩⟩⟩ <;> cases fields
    exact (s.putGeometry_untouched _).frames (by decide) l
  case presetStore =>
    cases payload <;> cases fields
    exact (State.queueKind_untouched _ _).frames (by decide) l
  case geometryRead =>
    rcases payload with _ | ⟨plate, _ | ⟨_, _⟩⟩ <;> cases fields
    · rfl
    · simp only [ownGeometryRead]
      split <;> rfl
  case tiltReport =>
    rcases payload with _ | ⟨_, _ | ⟨_, _ | ⟨_, _⟩⟩⟩ <;> cases fields
    exact (s.putGeometry_untouched _).frames (by decide) l
  case engineReport =>
    rcases payload with _ | ⟨_, _ | ⟨_, _⟩⟩ <;> cases fields
    unfold ownEngineReport
    split
    · rfl
    · exact (s.setTemp_untouched _).frames (by decide) l
  case overrideSet =>
    have set : ∀ level minutes, ((ownOverrideSet level minutes s).state.link l).frames = (s.link l).frames := by
      intro level minutes
      unfold ownOverrideSet
      split
      · rfl
      · split
        · rfl
        · exact (s.setOverride_untouched _).frames (by decide) l
    rcases payload with _ | ⟨_, _ | ⟨_, _ | ⟨_, _ | ⟨_, _⟩⟩⟩⟩ <;> cases fields
    · exact set _ none
    · exact set _ (some _)
  case overrideClear =>
    cases payload <;> cases fields
    exact (s.setOverride_untouched none).frames (by decide) l
  case clockSet =>
    rcases payload with _ | ⟨_, _ | ⟨_, _ | ⟨_, _ | ⟨_, _ | ⟨_, _ | ⟨_, _ | ⟨_, _⟩⟩⟩⟩⟩⟩⟩ <;> cases fields
    unfold ownClockSet
    split
    · rfl
    · refine ((State.runner_untouched _ _).frames (by decide) l).trans
        (((State.recompute_untouched _ false).frames (by decide) l).trans ?_)
      exact (State.raise_untouched _ .clock).frames (by decide) l
  case entryPut =>
    have put : (rawEntryOf payload).map ownEntryPut = some own := fields
    obtain ⟨raw, _, rfl⟩ := Option.map_eq_some_iff.mp put
    unfold ownEntryPut
    split
    · rfl
    · split
      · exact (s.putEntry_untouched _).frames (by decide) l
      · rfl
  case entryDelete =>
    rcases payload with _ | ⟨_, _ | ⟨_, _⟩⟩ <;> cases fields
    unfold ownEntryDelete
    split
    · exact (s.changeTable_untouched _ _).frames (by decide) l
    · rfl
  case entryRead =>
    rcases payload with _ | ⟨_, _ | ⟨_, _⟩⟩ <;> cases fields
    unfold ownEntryRead
    split <;> rfl
  case settingRead =>
    rcases payload with _ | ⟨_, _ | ⟨_, _⟩⟩ <;> cases fields
    unfold ownSettingRead
    split <;> rfl
  case scheduleClear =>
    cases payload <;> cases fields
    unfold ownScheduleClear
    split
    · rfl
    · exact (s.changeTable_untouched _ _).frames (by decide) l

theorem State.respond_frames (l : Link) (code : Byte) (a : Answer) :
    ((State.respond l code a).link l).frames = (a.state.link l).frames := by simp [State.respond]

theorem State.carryOut_frames (s : State) (c : Command) (l : Link) (payload : List Byte) :
    ((s.carryOut c l (lengthChecked (ownerOf c l payload))).link l).frames = (s.link l).frames := by
  have heard : ((s.hear l).link l).frames = (s.link l).frames := by rw [State.link_hear]
  refine (State.respond_frames _ _ _).trans (Eq.trans ?_ heard)
  unfold judged
  split
  · rfl
  · rename_i unrefused
    have accepted : c.acceptedOn l = true := by
      cases refused : c.acceptedOn l with
      | true => rfl
      | false =>
        rw [judge_not_accepted refused] at unrefused
        cases unrefused
    cases fields : ownerOf c l payload with
    | none => rfl
    | some own => exact ownerOf_frames fields accepted _

theorem State.countError_frames (s : State) (l : Link) (e : ErrorCounter) :
    ((s.countError l e).link l).frames = (s.link l).frames := by
  unfold State.countError
  split
  · cases e <;> simp [State.raiseLink, LinkState.note, LinkState.setCount]
  · rfl

/-- R165, R166: whatever frame is taken, those behind it wait on. -/
theorem State.takeFrame_frames (s : State) (l : Link) (f : List Byte) (rest : List (List Byte)) :
    ((s.takeFrame l f rest).link l).frames = rest := by
  simp only [State.takeFrame]
  split
  · have taken : ∀ u : State, (u.link l).frames = rest → ∀ code payload,
        ((u.decodeFrame l code payload).link l).frames = rest := by
      intro u waiting code payload
      unfold State.decodeFrame
      split
      · rw [State.respond_frames, State.link_hear, waiting]
      · rw [State.carryOut_frames, waiting]
    exact taken _ (by simp) _ _
  · rw [State.countError_frames, State.link_setLink_same]

/-! ## The turns of a link -/

theorem State.takeNext_ready {s : State} {l : Link} (ready : (s.link l).answering = .ready) {f : List Byte}
    {rest : List (List Byte)} (waiting : (s.link l).frames = f :: rest) : s.takeNext l = s.takeFrame l f rest := by
  simp [State.takeNext, ready, waiting]

theorem State.takeNext_empty {s : State} {l : Link} (empty : (s.link l).frames = []) : s.takeNext l = s := by
  unfold State.takeNext
  split
  · rename_i waiting
    rw [empty] at waiting
    cases waiting
  · rfl

/-- R166: a link that does not send comes to its next frame at once. -/
theorem State.takeTurn_idle {s : State} {l : Link} (idle : (s.link l).answering ≠ .sending) :
    s.takeTurn l = s.takeNext l := by
  unfold State.takeTurn
  split
  · rename_i sending; exact (idle sending).elim
  · rfl

/-- R161, R166: one that sends comes to it once its response is sent. -/
theorem State.takeTurn_sending {s : State} {l : Link} (sending : (s.link l).answering = .sending)
    (stays : s.restartArmed = false ∨ l ≠ .campus) : s.takeTurn l = (s.finishResponse l).takeNext l := by
  have no : (s.restartArmed && l == .campus) = false := by rcases stays with h | h <;> simp [h]
  simp [State.takeTurn, sending, no]

/-- R175: the campus link that sends the answer to a permitted RESTART takes no frame. -/
theorem State.takeTurns_restarting {s : State} (sending : (s.link .campus).answering = .sending)
    (armed : s.restartArmed = true) (n : Nat) : State.takeTurns .campus n s = s := by
  induction n with
  | zero => rfl
  | succ n ih => simpa [State.takeTurns, State.takeTurn, sending, armed] using ih

theorem State.takeTurns_empty {s : State} {l : Link} (ready : (s.link l).answering = .ready)
    (empty : (s.link l).frames = []) (n : Nat) : State.takeTurns l n s = s := by
  induction n with
  | zero => rfl
  | succ n ih => rw [State.takeTurns, State.takeTurn_idle (by rw [ready]; decide), State.takeNext_empty empty, ih]

theorem State.finishResponse_link (s : State) (l : Link) :
    (s.finishResponse l).link l = (s.link l).answeredOut.applyRate (s.settings.rateOf l) := by
  rw [State.finishResponse_eq, State.link_setLink_same]

/-- R161: a rate that is due empties the buffer at the end of the response. -/
theorem State.finishResponse_rateDue {s : State} {l : Link} (due : (s.link l).rateDue = true) :
    ((s.finishResponse l).link l).answering = .ready ∧ ((s.finishResponse l).link l).frames = [] := by
  rw [State.finishResponse_link, LinkState.applyRate_ready rfl]
  simp [LinkState.answeredOut, due]

/-! ## The request's frame, waiting -/

/-- R162: every request that can be sent has at most 59 bytes of payload. -/
theorem payloadOf_sendable {i : Instr} (sendable : i.wellFormed = true) : (payloadOf i).length ≤ 59 := by
  cases i with
  | entryPut l entry =>
    have label : entry.label.length ≤ 36 := of_decide_eq_true sendable
    simp [payloadOf, entryPayload, rawDateBytes, wordBytes]
    omega
  | overrideSet l level minutes => cases minutes <;> exact Nat.le_of_ble_eq_true rfl
  | geometryRead l plate => cases plate <;> exact Nat.le_of_ble_eq_true rfl
  | _ => exact Nat.le_of_ble_eq_true rfl

section
variable {i : Instr} {l : Link} {c : Command} (row : requestOf i = some (l, c)) {s : State}
include row

theorem State.waiting_eq : s.waiting i = s.setLink l { s.link l with
    lastByteAt := s.now, frames := (s.link l).frames ++ [requestFrame c (payloadOf i)] } := by
  simp only [State.waiting, row]

theorem State.hearing_eq : s.hearing i =
    (s.setLink l { s.link l with lastByteAt := s.now, inHand := some (requestFrame c (payloadOf i)) }).hear l := by
  simp only [State.hearing, row]

/-- R162: the link with the frame of the row behind its others. -/
theorem State.waiting_link : (s.waiting i).link l = { s.link l with
    lastByteAt := s.now, frames := (s.link l).frames ++ [requestFrame c (payloadOf i)] } := by
  rw [State.waiting_eq row, State.link_setLink_same]

/-- A row whose frame finds room is the turns of the frames before it and its own. -/
theorem exec_waiting (sendable : i.wellFormed = true) (on : s.receiversOn = true) (hunt : (s.link l).collecting = none)
    (room : (s.link l).held + (requestFrame c (payloadOf i)).length ≤ 64) :
    exec i s = .next (State.takeTurns l ((s.link l).frames.length + 1) (s.waiting i)) := by
  rw [exec_request row, State.takeRequest_arrives c on hunt (payloadOf_sendable sendable) room, State.waiting_eq row]

/-- R111, R168: on a listening link a request that is refused is answered so, on the state that has heard its frame. -/
theorem exec_refused (sendable : i.wellFormed = true) (listening : Listening l s) {refusal : Status}
    (refused : judge c l s.policy.effective = some refusal) : exec i s = answered c l (s.hearing i) refusal [] := by
  have level : (s.hearing i).policy = s.policy := s.hearing_untouched i .policy (by decide)
  rw [← level] at refused
  rw [exec_request row, State.takeRequest_listening listening (payloadOf_sendable sendable), State.carryOut,
    ← State.hearing_eq row, judged, refused]
  rfl

end

theorem State.hearing_untouched_links (s : State) (i : Instr) : Untouched [.links, .silence] s (s.hearing i) := by
  unfold State.hearing
  split
  · exact (State.setLink_untouched_links (by rfl) (by rfl)).andThen (State.hear_untouched _ _) (by rfl) (by rfl)
  · exact .refl _ _

theorem State.hearing_otherLinks (s : State) {i : Instr} {l : Link} {c : Command} (row : requestOf i = some (l, c)) :
    OtherLinksSame l s (s.hearing i) := by
  intro k other
  rw [State.hearing_eq row, State.link_hear, State.link_setLink_other _ _ _ _ other]

/-! ## Where the row's frame comes to its turn -/

section
variable {i : Instr} {l : Link} {c : Command} (row : requestOf i = some (l, c)) {s : State}
include row

/-- What the row's frame, waiting, leaves of what the turns go by. -/
theorem State.waiting_turns : ((s.waiting i).link l).answering = (s.link l).answering
    ∧ ((s.waiting i).link l).rateDue = (s.link l).rateDue ∧ (s.waiting i).restartArmed = s.restartArmed := by
  rw [State.waiting_link row, State.waiting_eq row, State.setLink_restartArmed]
  exact ⟨rfl, rfl, rfl⟩

/-- R161: a rate due at the end of the response under way empties the buffer, the row's frame with it. -/
theorem takeTurns_rateDue (sending : (s.link l).answering = .sending) (stays : s.restartArmed = false ∨ l ≠ .campus)
    (due : (s.link l).rateDue = true) (n : Nat) (cut : SlotLeft) :
    .next (State.takeTurns l (n + 1) (s.waiting i)) = exec (.responseSent l cut) (s.waiting i) := by
  obtain ⟨answering, rateDue, armed⟩ := State.waiting_turns row (s := s)
  rw [← answering] at sending
  rw [← armed] at stays
  rw [← rateDue] at due
  obtain ⟨ready, empty⟩ := State.finishResponse_rateDue due
  rw [State.takeTurns, State.takeTurn_sending sending stays, State.takeNext_empty empty, State.takeTurns_empty ready empty]
  exact congrArg Host.Outcome.next (State.responseSent_finishes sending stays cut).symm

/-- R166: a READY link with one frame before the row's takes that one, then comes to the row's. -/
theorem State.waiting_second (ready : (s.link l).answering = .ready) {f : List Byte} (first : (s.link l).frames = [f]) :
    ((((s.waiting i).takeNext l).link l).frames = [requestFrame c (payloadOf i)])
      ∧ State.takeTurns l 2 (s.waiting i) = ((s.waiting i).takeNext l).takeTurn l := by
  have waits : ((s.waiting i).link l).answering = .ready := (State.waiting_turns row).1.trans ready
  have queue : ((s.waiting i).link l).frames = f :: [requestFrame c (payloadOf i)] := by
    rw [State.waiting_link row, first]
    rfl
  have turn : (s.waiting i).takeTurn l = (s.waiting i).takeNext l := State.takeTurn_idle (by rw [waits]; decide)
  refine ⟨?_, by rw [← turn]; rfl⟩
  rw [State.takeNext_ready waits queue, State.takeFrame_frames]

end

/-- A link comes to its next frame as its commands let it: by FRAME_TAKE, behind RESPONSE_SENT, or not at all (R175). -/
theorem exec_of_takeTurn {i : Instr} {l : Link} {s u : State} (turn : exec i s = .next (u.takeTurn l)) :
    ((u.link l).answering = .ready → exec i s = exec (.frameTake l) u)
      ∧ ((u.link l).answering = .sending → (u.restartArmed = false ∨ l ≠ .campus) → ∀ cut,
          ∃ v, exec (.responseSent l cut) u = .next v ∧ exec i s = exec (.frameTake l) v)
      ∧ ((u.link l).answering = .sending → u.restartArmed = true → l = .campus → exec i s = .next u) := by
  refine ⟨fun ready => ?_, fun sending stays cut => ⟨u.finishResponse l, ?_, ?_⟩, fun sending armed campus => ?_⟩
  · rw [turn, State.takeTurn_idle (by rw [ready]; decide)]
    rfl
  · exact congrArg Host.Outcome.next (State.responseSent_finishes sending stays cut)
  · rw [turn, State.takeTurn_sending sending stays]
    rfl
  · subst campus
    rw [turn]
    exact congrArg Host.Outcome.next (State.takeTurns_restarting sending armed 1)

/-- Settles O16: a refused request changes its link and the silence count alone; any other is the turns of the frames that
wait, which the link takes as it comes to be READY. -/
theorem refusedRequestsChangeNothingAndOthersWait : Obligations.RefusedRequestsChangeNothingAndOthersWait := by
  refine ⟨fun i l c s row sendable listening => ⟨fun notAccepted => ?_, fun accepted notPermitted => ?_,
    s.hearing_silence row, s.hearing_untouched_links i, s.hearing_otherLinks row⟩,
    fun i l c s row sendable on hunt room => ?_, fun i l c s row lost => ?_⟩
  · exact exec_refused row sendable listening (judge_not_accepted notAccepted _)
  · exact exec_refused row sendable listening (by rw [judge_accepted accepted, notPermitted]; rfl)
  · have turns := exec_waiting row sendable on hunt room
    obtain ⟨answering, _, armed⟩ := State.waiting_turns row (s := s)
    refine ⟨fun held => ?_, fun sending restarting campus => ?_,
      fun sending stays cut => ⟨fun due => ?_, fun _ empty => ?_⟩, fun f ready first => ?_⟩
    · rw [turns, State.takeTurns_held _ (answering.trans held)]
    · subst campus
      rw [turns, State.takeTurns_restarting (answering.trans sending) (armed.trans restarting)]
    · rw [turns, takeTurns_rateDue row sending stays due _ cut]
    · rw [empty] at turns
      rw [← answering] at sending
      rw [← armed] at stays
      exact (exec_of_takeTurn turns).2.1 sending stays cut
    · rw [first] at turns
      obtain ⟨waits, second⟩ := State.waiting_second row ready first
      exact ⟨_, rfl, waits, exec_of_takeTurn (turns.trans (congrArg _ second))⟩
  · rw [exec_request row]
    simp only [State.takeRequest, if_neg (Nat.not_lt.mpr lost)]

end Sys2Proof.Machine
end

section
/-! OVERRIDE_SET and OVERRIDE_CLEAR (R107, R108, R110). -/

namespace Sys2Proof.Machine

open Sys2Proof.Config

/-! ## A new override record (R110) -/

/-- R110: a record that derives the level in force reaches the policy unit alone. -/
theorem State.setOverride_quiet {s : State} {o : Option Override}
    (same : ({ s.policy with override := o } : Policy).derived = s.policy.effective) :
    s.setOverride o = { s with policy := { s.policy with override := o } } := if_pos same

/-- R110: one that derives another raises LOCKOUT. -/
theorem State.setOverride_raises {s : State} {o : Option Override}
    (change : ({ s.policy with override := o } : Policy).derived ≠ s.policy.effective) : Pending .lockout (s.setOverride o) :=
  State.deriveEffective_raises _ change

/-- R107, R108, R110: what a new override record leaves, by the level it derives. -/
theorem State.setOverride_leaves (s : State) (o : Option Override) {level : Level}
    (derived : ({ s.policy with override := o } : Policy).derived = level) :
    (s.setOverride o).policy = { s.policy with override := o, effective := level }
      ∧ (s.policy.effective ≠ level → Pending .lockout (s.setOverride o) ∧ Untouched policyBlocks s (s.setOverride o))
      ∧ (s.policy.effective = level → Untouched [.policy] s (s.setOverride o)) := by
  subst derived
  refine ⟨s.setOverride_policy o, fun change => ⟨State.setOverride_raises change.symm, s.setOverride_untouched o⟩,
    fun same => ?_⟩
  rw [State.setOverride_quiet same.symm]
  exact s.policy_update_untouched _

/-! ## OVERRIDE_SET (R107) -/

theorem levelOfCode_above {n : Nat} (above : 4 < n) : levelOfCode n = none := by
  match n, above with
  | n + 5, _ => rfl

theorem levelOfCode_byte (level : Level) : levelOfCode (byte level.code).toNat = some level := by cases level <;> rfl

/-- R107: the minutes that are refused, in the statement's terms. -/
theorem minutesRefused_iff (minutes : Option (BitVec 16)) :
    minutesRefused minutes = true ↔ ∃ m, minutes = some m ∧ (m = 0 ∨ 1440 < m.toNat) := by
  cases minutes with
  | none => simp [minutesRefused]
  | some m =>
    have zero : m.toNat = 0 ↔ m = 0 := by rw [← BitVec.toNat_inj]; rfl
    simp [minutesRefused, zero]

theorem exec_overrideSet {l : Link} {s : State} (h : Admitted .overrideSet l s) (b : Byte) (minutes : Option (BitVec 16)) :
    let a := ownOverrideSet b minutes (s.hearing (.overrideSet l b minutes))
    exec (.overrideSet l b minutes) s = answered .overrideSet l a.state a.status a.payload := by
  cases minutes with
  | none => exact exec_admitted (i := .overrideSet l b none) rfl h (by decide : 1 ≤ 59) rfl
  | some m =>
    have fields : ownerOf .overrideSet l (payloadOf (.overrideSet l b (some m))) = some (ownOverrideSet b (some m)) :=
      congrArg (fun w => some (ownOverrideSet b (some w))) (wordBytes_joined m)
    exact exec_admitted (i := .overrideSet l b (some m)) rfl h (by decide : 3 ≤ 59) fields

theorem ownOverrideSet_refused {b : Byte} {minutes : Option (BitVec 16)}
    (bad : 4 < b.toNat ∨ minutesRefused minutes = true) (s : State) :
    ownOverrideSet b minutes s = ⟨s, .badArgument, []⟩ := by
  unfold ownOverrideSet
  rcases bad with above | refused
  · rw [levelOfCode_above above]
  · split
    · rfl
    · rw [if_pos refused]

theorem ownOverrideSet_taken (level : Level) {minutes : Option (BitVec 16)} (good : minutesRefused minutes = false)
    (s : State) :
    ownOverrideSet (byte level.code) minutes s = ⟨s.setOverride (some ⟨level, minutes.map BitVec.toNat⟩), .ok,
      [byte level.code, 1, byte level.code] ++ be16 ((minutes.map BitVec.toNat).getD 0)⟩ := by
  unfold ownOverrideSet
  rw [levelOfCode_byte]
  simp only [good, Bool.false_eq_true, if_false, State.setOverride_policy]
  rfl

/-- Settles O41: the record given is the one the effective level is derived from. -/
theorem overrideSetReplacesTheRecord : Obligations.OverrideSetReplacesTheRecord := by
  intro l b minutes s h bad
  have owned := exec_overrideSet h b minutes
  have policy : (s.hearing (.overrideSet l b minutes)).policy = s.policy := s.hearing_untouched _ .policy (by decide)
  refine ⟨fun refused => ?_, fun level code good => ?_⟩
  · rw [owned, ownOverrideSet_refused (refused.imp_right (minutesRefused_iff minutes).mpr)]
  · have taken : minutesRefused minutes = false := by
      rw [← Bool.not_eq_true, minutesRefused_iff]
      exact good
    subst code
    rw [ownOverrideSet_taken level taken] at owned
    obtain ⟨record, change, same⟩ := (s.hearing (.overrideSet l (byte level.code) minutes)).setOverride_leaves
      (some ⟨level, minutes.map BitVec.toNat⟩) (level := level) rfl
    rw [policy] at record change same
    exact ⟨_, owned, record, change, same⟩

/-! ## OVERRIDE_CLEAR (R108) -/

theorem exec_overrideClear {s : State} (h : Listening .campus s) :
    exec (.overrideClear .campus) s = answered .overrideClear .campus
      ((s.hearing (.overrideClear .campus)).setOverride none) .ok [byte s.policy.base.code] := by
  have policy : (s.hearing (.overrideClear .campus)).policy = s.policy := s.hearing_untouched _ .policy (by decide)
  rw [exec_admitted (i := .overrideClear .campus) rfl (admitted_of_enquiry h rfl rfl) (Nat.zero_le _) rfl]
  simp only [ownOverrideClear, State.setOverride_policy, policy]
  rfl

/-- Settles O42: with no override the effective level is derived from the base level. -/
theorem overrideClearReturnsToTheBaseLevel : Obligations.OverrideClearReturnsToTheBaseLevel := by
  refine fun l s h => ⟨fun other => ?_, ?_⟩
  · have refused : Command.overrideClear.acceptedOn l = false := beq_eq_false_iff_ne.mpr other
    exact exec_refused rfl rfl h (judge_not_accepted refused _)
  · rintro rfl
    have owned := exec_overrideClear h
    have policy : (s.hearing (.overrideClear .campus)).policy = s.policy := s.hearing_untouched _ .policy (by decide)
    obtain ⟨record, change, same⟩ := (s.hearing (.overrideClear .campus)).setOverride_leaves none
      (level := s.policy.base) (by rw [policy]; rfl)
    rw [policy] at record change same
    refine ⟨fun absent inLine => ?_, _, owned, record, change, same⟩
    have kept : (s.hearing (.overrideClear .campus)).setOverride none = s.hearing (.overrideClear .campus) := by
      rw [State.setOverride_quiet (by rw [policy]; exact inLine.symm), policy, ← absent, ← policy]
    rw [owned, kept, inLine]

end Sys2Proof.Machine
end

section
/-! LOCKOUT_READ, CLOCK_READ, ENTRY_LIST and OCCURRENCE_READ (R118, R125, R132, R136). -/

namespace Sys2Proof.Machine

open Sys2Proof.Config

/-- What these reads report of the state is the same once the frame is heard. -/
theorem State.hearing_timetableFields (s : State) (i : Instr) :
    (s.hearing i).policy = s.policy ∧ (s.hearing i).clock = s.clock ∧ (s.hearing i).table = s.table
      ∧ (s.hearing i).finder = s.finder :=
  have frame := s.hearing_untouched i
  ⟨frame .policy (by decide), frame .clock (by decide), frame .table (by decide), frame .finder (by decide)⟩

/-- A read that every link may make at every level is answered with what its owner says of the state. -/
theorem exec_read {i : Instr} {l : Link} {c : Command} {s : State} (row : requestOf i = some (l, c)) (h : Listening l s)
    (accepted : c.acceptedOn l = true) (every : c.judgement = .everyLevel) (empty : payloadOf i = [])
    {own : State → Answer} (fields : ownerOf c l [] = some own) {payload : List Byte}
    (reads : own (s.hearing i) = ⟨s.hearing i, .ok, payload⟩) : exec i s = answered c l (s.hearing i) .ok payload := by
  rw [exec_admitted row (admitted_of_enquiry h accepted every) (by rw [empty]; exact Nat.zero_le _)
    (by rw [empty]; exact fields), reads]

/-! ## LOCKOUT_READ (R118) -/

/-- R107: a standing override has no minutes to report. -/
theorem overrideBytes_standing (level : Level) : overrideBytes (some ⟨level, none⟩) = [1, byte level.code, 0, 0] := by
  simp [overrideBytes, be16, byte]

theorem answered_lockoutRead {l : Link} {s : State} (h : Listening l s) :
    exec (.lockoutRead l) s = answered .lockoutRead l (s.hearing (.lockoutRead l)) .ok (ownLockoutRead l s).payload := by
  obtain ⟨policy, _⟩ := s.hearing_timetableFields (.lockoutRead l)
  refine exec_read rfl h rfl rfl rfl rfl ?_
  simp only [ownLockoutRead, policy]

/-- R116: SELECTABLE. -/
theorem selectable_iff (level : Level) : selectable level = true ↔ level = .openRoom ∨ level = .present := by
  cases level <;> decide

/-- 11, LOCKOUT_READ ANSWER, offset 6: the request of each row of the policy table. -/
theorem permittedBits_flags (c : Requester) (level : Level) :
    let x := permittedBits c level
    x.getLsbD 0 = permits .sessionStart c level ∧ x.getLsbD 1 = permits .sessionEnd c level
      ∧ x.getLsbD 2 = permits .sessionExtend c level ∧ x.getLsbD 3 = permits .lampLevel c level
      ∧ x.getLsbD 4 = permits .sourceSelect c level ∧ x.getLsbD 5 = permits .pictureMute c level
      ∧ x.getLsbD 6 = permits .geometry c level ∧ x.getLsbD 7 = false :=
  byte_of_flags _ _ _ _ _ _ _ false

theorem byte_of_bit (b : Bool) : byte (bit b 0) = if b then 1 else 0 := by cases b <;> rfl

/-! ## OCCURRENCE_READ (R136) -/

/-- 11, OCCURRENCE_READ ANSWER: the fields of one block. -/
theorem occurrenceBytes_fields (table : List Entry) (o : Option Occurrence) :
    (o = none → occurrenceBytes table o = List.replicate 26 0)
      ∧ ∀ x, o = some x → (occurrenceBytes table o).take 9 =
          byte x.id :: be16 x.date.year ++ [byte x.date.month, byte x.date.day] ++ be16 x.start ++ be16 x.stop
        ∧ ∀ e, entryOf table x.id = some e → e.label.length ≤ 16 → (occurrenceBytes table o).length = 26
          ∧ (occurrenceBytes table o).drop 9 = byte e.label.length :: e.label ++ List.replicate (16 - e.label.length) 0 := by
  refine ⟨fun absent => by rw [absent]; rfl, fun x held => ?_⟩
  subst held
  refine ⟨rfl, fun e entry fits => ?_⟩
  have label : entryLabel table x.id = e.label := by simp only [entryLabel, entry]
  have tail : (occurrenceBytes table (some x)).drop 9
      = byte e.label.length :: e.label ++ List.replicate (16 - e.label.length) 0 := by
    rw [← label]
    rfl
  refine ⟨?_, tail⟩
  have head : ((occurrenceBytes table (some x)).take 9).length = 9 := rfl
  rw [← List.take_append_drop 9 (occurrenceBytes table (some x)), List.length_append, head, tail]
  simp
  omega

/-- Settles O27: each read's bytes, and the fields of its flags and blocks. -/
theorem lockoutAndTimetableReadsReportTheirRecords : Obligations.LockoutAndTimetableReadsReportTheirRecords := by
  refine ⟨fun l s h => ⟨permittedBits (requesterOf l) s.policy.effective, ?_, permittedBits_flags _ _⟩,
    fun l s h => ⟨?_, ?_, occurrenceBytes s.table s.finder.current, occurrenceBytes s.table s.finder.next, ?_, ?_⟩⟩
  · rw [answered_lockoutRead h]
    simp only [ownLockoutRead, byte_of_bit, selectable_iff]
    rcases s.policy.override with _ | ⟨level, _ | m⟩
    · rfl
    · rw [overrideBytes_standing]
    · rfl
  · obtain ⟨_, clock, _⟩ := s.hearing_timetableFields (.clockRead l)
    refine exec_read rfl h rfl rfl rfl rfl ?_
    simp only [ownClockRead, clockBytes, dateBytes, clock, byte_of_bit, List.append_assoc]
    rfl
  · obtain ⟨_, _, table, _⟩ := s.hearing_timetableFields (.entryList l)
    refine exec_read rfl h rfl rfl rfl rfl ?_
    simp only [ownEntryList, table]
  · obtain ⟨_, clock, table, finder⟩ := s.hearing_timetableFields (.occurrenceRead l)
    refine exec_read rfl h rfl rfl rfl rfl ?_
    simp only [ownOccurrenceRead, clock, table, finder, byte_of_bit]
  · rintro o b (⟨rfl, rfl⟩ | ⟨rfl, rfl⟩) <;> exact occurrenceBytes_fields _ _

end Sys2Proof.Machine
end

section
/-! The policy table (R112), with R113, R116 and R168. -/

namespace Sys2Proof.Machine

open Sys2Proof.Config

/-- R112: CAMPUS and SCHEDULE stand in every cell. -/
theorem permits_iff (row : PolicyRow) (c : Requester) (level : Level) :
    permits row c level = true ↔ c = .campus ∨ c = .schedule ∨ c ∈ row.admits level := by
  simp [permits, or_assoc]

/-- R105: no link is a plate or a followed plate. -/
theorem requesterOf_link (l : Link) : requesterOf l ≠ .plate ∧ requesterOf l ≠ .follow := by cases l <;> decide

/-- Settles O60: each cell of the table, and each command's judgement and links. -/
theorem policyTableAdmitsTheClassesOfItsCells : Obligations.PolicyTableAdmitsTheClassesOfItsCells := by
  unfold Obligations.PolicyTableAdmitsTheClassesOfItsCells
  intro table rowOf ofEngine ofCampus serviceOnly row c level
  refine ⟨?_, selectable_iff level, fun cmd l => ⟨fun ofRow classOf accepted => ?_, fun noRow accepted => ?_, ?_,
    fun refused => judge_not_accepted refused level, requesterOf_link l⟩⟩
  · have cell : c ∈ nth (table row) level.code [] ↔ c = .campus ∨ c ∈ row.admits level := by
      cases row <;> cases level <;> simp [table, nth, Level.code, PolicyRow.admits, or_comm, or_left_comm]
    rw [permits_iff, cell, or_left_comm]
  · have judgement : cmd.judgement = .row row := by
      cases cmd <;> cases ofRow <;> rfl
    rw [judge_accepted accepted, judgement, classOf]
    rfl
  · have judgement : cmd.judgement = if cmd ∈ serviceOnly then .serviceOnly else .everyLevel := by
      cases cmd <;> cases noRow <;> rfl
    rw [judge_accepted accepted, judgement]
    by_cases service : cmd ∈ serviceOnly
    · cases level <;> simp [service, Judgement.permits]
    · simp [service, Judgement.permits]
  · cases cmd <;> simp [Command.acceptedOn, ofEngine, ofCampus]

end Sys2Proof.Machine
end

section
/-! The calendar: the dates of the range and the numbers below 36,525 name each other (R121, R122). -/

namespace Sys2Proof.Machine

open Sys2Proof.Config

/-! ## A day of a year, by month and day of the month -/

/-- A day within a list of month lengths lies in one of the months. -/
theorem exists_month_of_lt_sum {lengths : List Nat} {n : Nat} (within : n < lengths.sum) :
    ∃ i d, i < lengths.length ∧ d < lengths.getD i 0 ∧ n = (lengths.take i).sum + d := by
  induction lengths generalizing n with
  | nil => simp at within
  | cons len rest ih =>
    by_cases first : n < len
    · exact ⟨0, n, by simp, by simpa using first, by simp⟩
    · obtain ⟨i, d, inYear, inMonth, split⟩ := ih (n := n - len) (by simp at within; omega)
      exact ⟨i + 1, d, by simpa using inYear, by simpa using inMonth, by simp; omega⟩

theorem monthAndDay_eq (m : Nat) {lengths : List Nat} {i d : Nat} (inYear : i < lengths.length)
    (inMonth : d < lengths.getD i 0) : monthAndDay m lengths ((lengths.take i).sum + d) = (m + i, d + 1) := by
  induction lengths generalizing m i with
  | nil => simp at inYear
  | cons len rest ih =>
    cases i with
    | zero =>
      have first : d < len := by simpa using inMonth
      simp [monthAndDay, first]
    | succ i =>
      have later := ih (m + 1) (i := i) (by simpa using inYear) (by simpa using inMonth)
      have days : ((len :: rest).take (i + 1)).sum + d = len + ((rest.take i).sum + d) := by
        rw [List.take_succ_cons, List.sum_cons, Nat.add_assoc]
      rw [days, monthAndDay, if_neg (by omega), Nat.add_sub_cancel_left, later, Nat.add_right_comm, Nat.add_assoc m]

@[simp] theorem monthLengths_length (leap : Bool) : (monthLengths leap).length = 12 := rfl

/-- R121: the days of a year. -/
theorem monthLengths_sum (leap : Bool) : (monthLengths leap).sum = if leap then 366 else 365 := by cases leap <;> rfl

/-- The days of the year before the month with index `i`, its own included, are days of the year. -/
theorem monthLengths_before (leap : Bool) {i d : Nat} (inYear : i < 12) (inMonth : d < (monthLengths leap).getD i 0) :
    ((monthLengths leap).take i).sum + d < (monthLengths leap).sum := by
  have split : ((monthLengths leap).take i).sum + (monthLengths leap).getD i 0 ≤ (monthLengths leap).sum := by
    interval_cases i <;> cases leap <;> decide
  omega

/-! ## A day number, by year and day of the year -/

theorem leapYear_iff (y : Nat) : leapYear (2000 + y) = true ↔ y % 4 = 0 := by
  simp only [leapYear, beq_iff_eq]
  omega

/-- R122: the number of a date, by its year and its day of the year. -/
theorem dateOfNumber_of_year {y k : Nat} (inYear : k < (monthLengths (leapYear (2000 + y))).sum) :
    dateOfNumber (365 * y + (y + 3) / 4 + k) =
      ⟨2000 + y, (monthAndDay 1 (monthLengths (leapYear (2000 + y))) k).1,
        (monthAndDay 1 (monthLengths (leapYear (2000 + y))) k).2⟩ := by
  obtain ⟨n, hn⟩ : ∃ n, n = 365 * y + (y + 3) / 4 + k := ⟨_, rfl⟩
  rw [monthLengths_sum] at inYear
  have cycle : (2000 + 4 * (n / 1461) + (if n % 1461 < 366 then 0 else 1 + (n % 1461 - 366) / 365) = 2000 + y)
      ∧ (if n % 1461 < 366 then n % 1461 else (n % 1461 - 366) % 365) = k := by
    by_cases leap : y % 4 = 0
    · rw [if_pos ((leapYear_iff y).mpr leap)] at inYear
      have quotient : n / 1461 = y / 4 := by omega
      have remainder : n % 1461 = k := by omega
      rw [quotient, remainder, if_pos inYear, if_pos inYear]
      omega
    · rw [if_neg (mt (leapYear_iff y).mp leap)] at inYear
      have quotient : n / 1461 = y / 4 := by omega
      have remainder : n % 1461 = 366 + 365 * (y % 4 - 1) + k := by omega
      have past : ¬366 + 365 * (y % 4 - 1) + k < 366 := by omega
      rw [quotient, remainder, if_neg past, if_neg past]
      omega
  simp only [dateOfNumber, ← hn, cycle.1, cycle.2]

/-- Each number below 36,525 is a day of a year of the range. -/
theorem exists_year_of_number {n : Nat} (inRange : n < 36525) :
    ∃ y k, y ≤ 99 ∧ k < (monthLengths (leapYear (2000 + y))).sum ∧ n = 365 * y + (y + 3) / 4 + k := by
  obtain ⟨q, r, small, split⟩ : ∃ q r, r < 1461 ∧ n = 1461 * q + r :=
    ⟨n / 1461, n % 1461, Nat.mod_lt _ (by decide), (Nat.div_add_mod n 1461).symm⟩
  by_cases first : r < 366
  · refine ⟨4 * q, r, by omega, ?_, by omega⟩
    rw [monthLengths_sum, if_pos ((leapYear_iff _).mpr (by omega))]
    exact first
  · refine ⟨4 * q + 1 + (r - 366) / 365, (r - 366) % 365, by omega, ?_, by omega⟩
    rw [monthLengths_sum]
    split <;> omega

/-- R121: a valid date, by the index of its month and the days before it. -/
theorem Date.valid_iff_index (y i d : Nat) :
    (⟨2000 + y, 1 + i, d + 1⟩ : Date).valid = true
      ↔ y ≤ 99 ∧ i < 12 ∧ d < (monthLengths (leapYear (2000 + y))).getD i 0 := by
  have length : monthLength (2000 + y) (1 + i) = (monthLengths (leapYear (2000 + y))).getD i 0 := by
    rw [monthLength, if_neg (by omega), Nat.add_sub_cancel_left]
    rfl
  rw [Date.valid_iff, length]
  omega

theorem Date.number_index (y i d : Nat) :
    (⟨2000 + y, 1 + i, d + 1⟩ : Date).number
      = 365 * y + (y + 3) / 4 + (((monthLengths (leapYear (2000 + y))).take i).sum + d) := by
  simp only [Date.number, Nat.add_sub_cancel_left, Nat.add_sub_cancel]
  omega

/-- R122: the inverse of the day number on the range. -/
theorem dateOfNumber_valid {n : Nat} (inRange : n < 36525) :
    (dateOfNumber n).valid = true ∧ (dateOfNumber n).number = n := by
  obtain ⟨y, k, century, inYear, rfl⟩ := exists_year_of_number inRange
  obtain ⟨i, d, month, inMonth, rfl⟩ := exists_month_of_lt_sum inYear
  rw [dateOfNumber_of_year inYear, monthAndDay_eq 1 month inMonth]
  exact ⟨(Date.valid_iff_index y i d).mpr ⟨century, month, inMonth⟩, Date.number_index y i d⟩

theorem Date.number_of_valid {d : Date} (valid : d.valid = true) : d.number < 36525 ∧ dateOfNumber d.number = d := by
  obtain ⟨year, month, day⟩ := d
  obtain ⟨from2000, -, first, -, firstDay, -⟩ := (Date.valid_iff _ _ _).mp valid
  obtain ⟨y, rfl⟩ : ∃ y, year = 2000 + y := ⟨year - 2000, by omega⟩
  obtain ⟨i, rfl⟩ : ∃ i, month = 1 + i := ⟨month - 1, by omega⟩
  obtain ⟨d, rfl⟩ : ∃ d, day = d + 1 := ⟨day - 1, by omega⟩
  obtain ⟨century, inYear, inMonth⟩ := (Date.valid_iff_index y i d).mp valid
  have before := monthLengths_before (leapYear (2000 + y)) inYear inMonth
  rw [Date.number_index, dateOfNumber_of_year before, monthAndDay_eq 1 inYear inMonth]
  refine ⟨?_, rfl⟩
  rw [monthLengths_sum] at before
  by_cases leap : y % 4 = 0
  · rw [if_pos ((leapYear_iff y).mpr leap)] at before
    omega
  · rw [if_neg (mt (leapYear_iff y).mp leap)] at before
    omega

/-! ## The lengths of the months, the weekday -/

theorem monthLength_eq (y : Nat) {m : Nat} (first : 1 ≤ m) (last : m ≤ 12) :
    monthLength y m = if m = 2 then (if y % 4 = 0 then 29 else 28) else if m ∈ [4, 6, 9, 11] then 30 else 31 := by
  have leap : leapYear y = decide (y % 4 = 0) := rfl
  rw [monthLength, if_neg (by omega), leap]
  by_cases four : y % 4 = 0 <;> simp only [four, decide_true, decide_false, if_true, if_false] <;> interval_cases m <;> rfl

/-- R121: the day after a date other than the last of the range. -/
theorem Date.next_eq {d : Date} (valid : d.valid = true) (notLast : d ≠ ⟨2099, 12, 31⟩) :
    d.next = if d.day < monthLength d.year d.month then ⟨d.year, d.month, d.day + 1⟩
      else if d.month = 12 then ⟨d.year + 1, 1, 1⟩ else ⟨d.year, d.month + 1, 1⟩ := by
  obtain ⟨year, month, day⟩ := d
  obtain ⟨-, to2099, -, last, -, lastDay⟩ := (Date.valid_iff _ _ _).mp valid
  simp only [Date.next]
  split
  · rfl
  · rename_i monthEnds
    by_cases december : month = 12
    · subst december
      have dayIs : day = 31 := by
        have thirtyOne : monthLength year 12 = 31 := rfl
        omega
      have more : year < 2099 := by
        by_contra range
        exact notLast (by rw [dayIs, show year = 2099 by omega])
      simp [more]
    · rw [if_pos (by omega), if_neg december]

/-- R122: 2000-01-01 is a Saturday. -/
theorem Date.weekday_eq (d : Date) : d.weekday = (match d.number % 7 with
    | 0 => 5
    | 1 => 6
    | 2 => 0
    | 3 => 1
    | 4 => 2
    | 5 => 3
    | _ => 4) := by
  have days : d.weekday = (d.number % 7 + 5) % 7 := by rw [Date.weekday]; omega
  have week : d.number % 7 < 7 := Nat.mod_lt _ (by decide)
  rw [days]
  interval_cases d.number % 7 <;> rfl

/-- Settles O59: a day number is a year and a day of that year, which is a month and a day of that month. -/
theorem dayNumbersFollowTheCalendar : Obligations.DayNumbersFollowTheCalendar :=
  ⟨fun _ => dateOfNumber_valid, fun _ => Date.number_of_valid, rfl, rfl, rfl, fun y _ => monthLength_eq y,
    fun _ valid notLast => ⟨(Date.next_number valid notLast).1, Date.next_eq valid notLast⟩, Date.weekday_eq⟩

end Sys2Proof.Machine
end

section
/-! What each command can do to the room's timetable: the settings, the clock, the table, the finder and the session. -/

namespace Sys2Proof.Machine

open Sys2Proof.Config

/-! ## What the timetable's laws read -/

/-- The blocks that the laws of the timetable read, the links aside. -/
def roomBlocks : List Block := [.settings, .clock, .table, .finder, .session, .startUp]

/-- The timetable's blocks are the same in two states. -/
structure SameRoom (s t : State) : Prop where
  settings : t.settings = s.settings
  clock : t.clock = s.clock
  table : t.table = s.table
  finder : t.finder = s.finder
  session : t.session = s.session
  startUp : t.startUpDone = s.startUpDone

theorem SameRoom.refl (s : State) : SameRoom s s := ⟨rfl, rfl, rfl, rfl, rfl, rfl⟩

theorem SameRoom.trans {s t u : State} (h : SameRoom s t) (k : SameRoom t u) : SameRoom s u :=
  ⟨k.settings.trans h.settings, k.clock.trans h.clock, k.table.trans h.table, k.finder.trans h.finder,
    k.session.trans h.session, k.startUp.trans h.startUp⟩

theorem Untouched.sameRoom {A : List Block} {s t : State} (h : Untouched A s t)
    (apart : roomBlocks.all (fun b => decide (b ∉ A)) = true) : SameRoom s t where
  settings := h.same_of_apart apart (b := .settings) (by decide)
  clock := h.same_of_apart apart (b := .clock) (by decide)
  table := h.same_of_apart apart (b := .table) (by decide)
  finder := h.same_of_apart apart (b := .finder) (by decide)
  session := h.same_of_apart apart (b := .session) (by decide)
  startUp := h.same_of_apart apart (b := .startUp) (by decide)

/-- Every link that is HELD in one state is HELD in the other. -/
def StayHeld (s t : State) : Prop := ∀ l, (s.link l).answering = .held → (t.link l).answering = .held

theorem StayHeld.refl (s : State) : StayHeld s s := fun _ h => h

theorem StayHeld.trans {s t u : State} (h : StayHeld s t) (k : StayHeld t u) : StayHeld s u := fun l held => k l (h l held)

theorem Untouched.stayHeld {A : List Block} {s t : State} (h : Untouched A s t) (apart : Block.links ∉ A) : StayHeld s t :=
  fun l held => by
    have same : (t.link l).quiet = (s.link l).quiet := h .links apart l
    exact (congrArg LinkState.answering same :).trans held

/-! ## Requests (R124, R130, R131, R151 to R157, R181) -/

/-- R151 to R157: the record that a granted session request leaves. -/
inductive SessionGranted (s : State) : Session → Prop
  | start (ok : (startSession s).2 = .ok) : SessionGranted s (startSession s).1
  | finish (ok : (endSession s).2 = .ok) : SessionGranted s (endSession s).1
  | extend (ok : (extendSession s).2 = .ok) : SessionGranted s (extendSession s).1
  | level (code : Byte) (ok : (levelSession code s).2 = .ok) : SessionGranted s (levelSession code s).1

/-- R130, R131: the tables that a change of the table leads to. -/
inductive TableChange (t : List Entry) : List Entry → Prop
  | put (e : Entry) (valid : e.valid = true) (free : conflictsWith t e = [])
      (room : (entryOf t e.id).isSome = true ∨ t.length < tableSize) : TableChange t (insertEntry e t)
  | delete (id : Nat) : TableChange t (t.filter fun e => e.id != id)
  | clear : TableChange t []

/-- R124: the state that CLOCK_SET leaves. -/
def State.setClock (s : State) (c : Clock) : State :=
  (({ s with clock := c }.raise .clock).recompute false).runner { clockSet := true }

/-- What carrying out a request can do to the timetable. -/
inductive RoomRequest (s : State) : State → Prop
  | elsewhere {t : State} (same : SameRoom s t) : RoomRequest s t
  | session {r : Session} (granted : SessionGranted s r) : RoomRequest s (s.putSession r)
  | clock {date : RawDate} {hour minute : Byte} {c : Clock} (set : clockSetTo s.clock s.now date hour minute = some c) :
      RoomRequest s (s.setClock c)
  | table {table : List Entry} (change : TableChange s.table table) (replaced : Option Nat) :
      RoomRequest s (s.changeTable table replaced)
  | setting (i : SettingId) (n : Nat) : RoomRequest s (s.settingTaken i n)

theorem RoomRequest.of_untouched {A : List Block} {s t : State} (h : Untouched A s t)
    (apart : roomBlocks.all (fun b => decide (b ∉ A)) = true) : RoomRequest s t := .elsewhere (h.sameRoom apart)

theorem RoomRequest.unchanged (s : State) : RoomRequest s s := .elsewhere (.refl s)

theorem answerSession_room {s : State} {r : Session × Status} (granted : r.2 = .ok → SessionGranted s r.1) :
    RoomRequest s (answerSession s r).state := by
  by_cases ok : r.2 = .ok
  · by_cases same : r.1 = s.session
    · rw [answerSession_same ok same]
      exact .unchanged s
    · rw [answerSession_put ok same]
      exact .session (granted ok)
  · rw [answerSession_refused ok]
    exact .unchanged s

theorem ownEntryPut_room (raw : RawEntry) (s : State) : RoomRequest s (ownEntryPut raw s).state := by
  unfold ownEntryPut State.putEntry
  split
  · exact .unchanged s
  · rename_i e _
    split
    · rename_i valid
      split
      · exact .unchanged s
      · rename_i free
        dsimp only
        split
        · exact .unchanged s
        · rename_i room
          refine .table (.put e valid (List.map_eq_nil_iff.mp free) ?_) _
          by_cases held : (entryOf s.table e.id).isSome = true
          · exact .inl held
          · exact .inr (by simpa [held] using room)
    · exact .unchanged s

/-- What each owner of a request can do to the timetable. -/
theorem Owned.room {l : Link} {own : State → Answer} (owned : Owned l own) (s : State) : RoomRequest s (own s).state := by
  have serviced := fun a => RoomRequest.of_untouched (s.serviceAccount_untouched a) rfl
  cases owned with
  | roomRead | countersRead | lampRead | sourceRead | plateRead | lockoutRead | clockRead | entryList | occurrenceRead =>
    exact .unchanged s
  | countersClear => exact .of_untouched (ownCountersClear_untouched s) rfl
  | restart => exact .elsewhere ⟨rfl, rfl, rfl, rfl, rfl, rfl⟩
  | noticeRead => cases l <;> exact .elsewhere ⟨rfl, rfl, rfl, rfl, rfl, rfl⟩
  | sessionStart => exact answerSession_room .start
  | sessionEnd => exact answerSession_room .finish
  | sessionExtend => exact answerSession_room .extend
  | lampLevel code => exact answerSession_room (.level code)
  | lampReplaced =>
    unfold ownLampReplaced
    split
    · exact serviced _
    · exact .unchanged s
  | accountSet hours =>
    unfold ownAccountSet
    split
    · exact serviced _
    · exact .unchanged s
  | sourceSelect plate => exact .of_untouched (s.requestSwitch_untouched _ _) rfl
  | pictureMute onOff =>
    unfold ownPictureMute
    split
    · exact .unchanged s
    · exact .of_untouched ((s.switch_update_untouched _).andThen (State.settleMute_untouched _)
        (C := .switch :: muteBlocks) rfl rfl) rfl
  | geometrySet mode v hor trim =>
    unfold ownGeometrySet
    split
    · exact .unchanged s
    · exact .of_untouched (s.putGeometry_untouched _) rfl
  | geometryTrim | tiltReport => exact .of_untouched (s.putGeometry_untouched _) rfl
  | presetStore =>
    exact .of_untouched ((s.geometry_update_untouched _).andThen (State.queueKind_untouched _ _)
      (C := [.geometry, .store]) rfl rfl) rfl
  | geometryRead plate =>
    cases plate with
    | none => exact .unchanged s
    | some plate =>
      simp only [ownGeometryRead]
      split <;> exact .unchanged s
  | engineReport temperature =>
    unfold ownEngineReport
    split
    · exact .unchanged s
    · exact .of_untouched (s.setTemp_untouched _) rfl
  | overrideSet level minutes =>
    unfold ownOverrideSet
    split
    · exact .unchanged s
    · split
      · exact .unchanged s
      · exact .of_untouched (s.setOverride_untouched _) rfl
  | overrideClear => exact .of_untouched (s.setOverride_untouched _) rfl
  | clockSet date hour minute =>
    unfold ownClockSet
    split
    · exact .unchanged s
    · rename_i c set
      exact .clock set
  | entryPut raw => exact ownEntryPut_room raw s
  | entryDelete id =>
    unfold ownEntryDelete
    split
    · exact .table (.delete _) none
    · exact .unchanged s
  | entryRead id =>
    unfold ownEntryRead
    split <;> exact .unchanged s
  | scheduleClear =>
    unfold ownScheduleClear
    split
    · exact .unchanged s
    · exact .table .clear none
  | settingWrite id value =>
    unfold ownSettingWrite
    split
    · exact .unchanged s
    · exact .setting _ _
  | settingRead id =>
    unfold ownSettingRead
    split <;> exact .unchanged s

/-- A property that what one request does to the timetable keeps is kept by every request row. -/
theorem keptByRequests_of_room {Inv : State → Prop} (kept : ∀ {s t : State}, RoomRequest s t → Inv s → Inv t) :
    KeptByRequests Inv where
  line h := kept (.of_untouched h rfl)
  owner s owned := kept (owned.room s)

/-! ## HELD links (R176) -/

theorem State.setLink_stayHeld {s : State} {l : Link} {x : LinkState} (same : x.answering = (s.link l).answering) :
    StayHeld s (s.setLink l x) := by
  intro k held
  by_cases e : k = l
  · subst e
    rw [State.link_setLink_same, same, held]
  · rw [State.link_setLink_other _ _ _ _ e, held]

theorem State.countError_stayHeld (s : State) (l : Link) (c : ErrorCounter) : StayHeld s (s.countError l c) := by
  unfold State.countError
  split
  · refine StayHeld.trans (State.setLink_stayHeld (x := (s.link l).setCount c ((s.link l).count c + 1)) ?_)
      ((State.raiseLink_untouched _ l).stayHeld (by decide))
    cases c <;> rfl
  · exact .refl s

theorem State.storeByte_stayHeld (s : State) (l : Link) (bytes : List Byte) (b : Byte) : StayHeld s (s.storeByte l bytes b) := by
  unfold State.storeByte
  dsimp only
  split
  · exact (State.setLink_stayHeld (x := { s.link l with collecting := none }) rfl).trans (State.countError_stayHeld _ _ _)
  · split
    · exact State.setLink_stayHeld rfl
    · exact State.setLink_stayHeld rfl

theorem State.receive_stayHeld (s : State) (l : Link) (b : Byte) : StayHeld s (s.receive l b) := by
  unfold State.receive
  dsimp only
  split
  · split
    · exact .refl s
    · split
      · exact State.countError_stayHeld _ _ _
      · exact State.setLink_stayHeld rfl
  · split
    · exact (State.setLink_stayHeld (x := { s.link l with collecting := none }) rfl).trans (State.countError_stayHeld _ _ _)
    · exact s.storeByte_stayHeld _ _ _

theorem State.byteArrives_stayHeld (s : State) (l : Link) (b : Byte) : StayHeld s (s.byteArrives l b) := by
  have counted := fun on => (s.receivers_update_untouched (s.choices + 1) on).stayHeld (by decide)
  simp only [State.byteArrives]
  split
  · exact s.receive_stayHeld l b
  · split
    · exact (counted true).trans (State.receive_stayHeld _ l b)
    · exact counted s.receiversOn

theorem State.bytesArrive_stayHeld (s : State) (l : Link) (bytes : List Byte) : StayHeld s (s.bytesArrive l bytes) := by
  induction bytes generalizing s with
  | nil => exact .refl s
  | cons b rest ih => exact (s.byteArrives_stayHeld l b).trans (ih _)

theorem State.gapExpires_stayHeld (s : State) (l : Link) : StayHeld s (s.gapExpires l) := by
  unfold State.gapExpires
  split
  · exact .refl s
  · exact (((s.reach_untouched _).stayHeld (by decide)).trans (State.setLink_stayHeld (by rfl))).trans
      (State.countError_stayHeld _ _ _)

/-- R176: on a HELD link the frame of a request row waits. -/
theorem State.takeRequest_held {s : State} {l : Link} (held : (s.link l).answering = .held) (c : Command)
    (payload : List Byte) : s.takeRequest c l payload = s.bytesArrive l (requestFrame c payload) := by
  simp only [State.takeRequest]
  split
  · exact State.takeTurns_held _ (s.bytesArrive_stayHeld l _ l held)
  · rfl

theorem State.takeNext_held {s : State} {l : Link} (held : (s.link l).answering = .held) : s.takeNext l = s := by
  simp [State.takeNext, held]

/-! ## Every command -/

/-- R120, R126, R183: what every reset leaves of the timetable and the links. -/
structure ResetRoom (s t : State) : Prop where
  clock : t.clock = s.clock ∨ ∃ backup, t.clock = s.clock.afterPowerOn backup
  settings : t.settings = {}
  table : t.table = []
  finder : t.finder = {}
  session : t.session = {}
  startUp : t.startUpDone = false
  held : ∀ l, (t.link l).answering = .held

theorem State.afterReset_room {s u : State} (clock : u.clock = s.clock ∨ ∃ backup, u.clock = s.clock.afterPowerOn backup)
    (cause : Cause) (cut : SlotLeft) : ResetRoom s (u.afterReset cause cut) :=
  ⟨clock, rfl, rfl, rfl, rfl, rfl, fun l => by cases l <;> rfl⟩

/-- What a command can do to the timetable and to HELD links. -/
inductive RoomStep (s : State) : State → Prop
  | elsewhere {t : State} (same : SameRoom s t) (held : StayHeld s t) : RoomStep s t
  | request (c : Command) (l : Link) (payload : List Byte) : RoomStep s (s.takeRequest c l payload)
  | frame (l : Link) : RoomStep s (s.takeNext l)
  | reset {t : State} (room : ResetRoom s t) : RoomStep s t
  | startUp : RoomStep s s.startUp
  | second (a b : Bool) : RoomStep s (s.secondPasses a b)

theorem RoomStep.of_untouched {A : List Block} {s t : State} (h : Untouched A s t)
    (apart : (Block.links :: roomBlocks).all (fun b => decide (b ∉ A)) = true) : RoomStep s t := by
  rw [List.all_cons, Bool.and_eq_true, decide_eq_true_eq] at apart
  exact .elsewhere (h.sameRoom apart.2) (h.stayHeld apart.1)

theorem State.responseSent_room (s : State) (l : Link) (cut : SlotLeft) : RoomStep s (s.responseSent l cut) := by
  unfold State.responseSent
  split
  · rename_i sending
    split
    · exact .reset (State.afterReset_room (s := s) (u := s.reach (s.link l).sendEnd) (.inl rfl) .restart cut)
    · refine .elsewhere ((s.finishResponse_untouched l).sameRoom rfl) fun k held => ?_
      have other : k ≠ l := by
        rintro rfl
        rw [sending] at held
        cases held
      rw [State.finishResponse, State.link_setLink_other _ _ _ _ other]
      cases k <;> exact held
  · exact .elsewhere (.refl s) (.refl s)

theorem exec_room (c : Instr) {s t : State} (taken : exec c s = .next t) : RoomStep s t := by
  cases c
  case powerOn cut backup => cases taken; exact .reset (State.afterReset_room (.inr ⟨backup, rfl⟩) _ _)
  case resetPin cut => cases taken; exact .reset (State.afterReset_room (.inl rfl) _ _)
  case supplyDrop cut => cases taken; exact .reset (State.afterReset_room (.inl rfl) _ _)
  case startUpComplete => cases taken; exact .startUp
  case receiveByte l b =>
    cases taken; exact .elsewhere ((s.byteArrives_untouched l b).sameRoom rfl) (s.byteArrives_stayHeld l b)
  case gap l => cases taken; exact .elsewhere ((s.gapExpires_untouched l).sameRoom rfl) (s.gapExpires_stayHeld l)
  case frameTake l => cases taken; exact .frame l
  case responseSent l cut => cases taken; exact s.responseSent_room l cut
  case engineSilence => cases taken; exact .of_untouched s.silenceFound_untouched rfl
  case secondEvent => cases taken; exact .second _ _
  case litChange high dt =>
    cases taken
    exact .of_untouched ((s.elapse_untouched dt).andThen (State.litChanges_untouched _ high) (C := [.time, .pins, .lamp])
      rfl rfl) rfl
  case litConfirmed => cases taken; exact .of_untouched s.litConfirms_untouched rfl
  case outage => cases taken; exact .of_untouched s.outageFalls_untouched rfl
  case strikeWindowExpiry => cases taken; exact .of_untouched s.strikeWindowEnds_untouched rfl
  case retryWaitExpiry => cases taken; exact .of_untouched s.retryWaitEnds_untouched rfl
  case warmUpExpiry => cases taken; exact .of_untouched s.warmUpEnds_untouched rfl
  case cooldownExpiry => cases taken; exact .of_untouched s.cooldownEnds_untouched rfl
  case pollSent => cases taken; exact .of_untouched s.pollEnds_untouched rfl
  case busByteReceived b => cases taken; exact .of_untouched (s.busByte_untouched b) rfl
  case replyWindowExpiry => cases taken; exact .of_untouched s.windowEnds_untouched rfl
  case cycleGapExpiry => cases taken; exact .of_untouched s.cycleGapEnds_untouched rfl
  case vsyncEdge edge dt =>
    cases taken
    exact .of_untouched ((s.elapse_untouched dt).andThen (State.vsync_untouched _ edge) (C := .time :: routeBlocks) rfl rfl) rfl
  case muteLeadExpiry => cases taken; exact .of_untouched s.muteLeadEnds_untouched rfl
  case maskExpiry => cases taken; exact .of_untouched s.maskEnds_untouched rfl
  case seekWindowExpiry => cases taken; exact .of_untouched s.seekEnds_untouched rfl
  case confirmDelayExpiry => cases taken; exact .of_untouched s.confirmEnds_untouched rfl
  case syncWatchExpiry => cases taken; exact .of_untouched s.watchEnds_untouched rfl
  case tiltSilenceExpiry => cases taken; exact .of_untouched s.tiltGoesSilent_untouched rfl
  case writeComplete readBack => cases taken; exact .of_untouched (s.completeWrite_untouched readBack) rfl
  case supplyWarning =>
    cases taken
    split
    · refine .of_untouched (A := [.supply, .account, .store]) ?_ rfl
      refine Untouched.andThen (A := [.supply, .account, .store]) ?_ (State.startWrite_untouched _) rfl rfl
      intro b outside
      cases b with
      | supply | account | store => exact (outside (by decide)).elim
      | links | notice _ | attention => intro l; cases l <;> rfl
      | _ => rfl
    · exact .elsewhere ⟨rfl, rfl, rfl, rfl, rfl, rfl⟩ fun l held => by cases l <;> exact held
  case supplyRecover =>
    cases taken
    exact .elsewhere ⟨rfl, rfl, rfl, rfl, rfl, rfl⟩ fun l held => by cases l <;> exact held
  all_goals
    rw [exec_request rfl] at taken
    cases taken
    exact .request _ _ _

/-- A property of the timetable that what a request can do keeps is kept by every step, when resets, start-up and the second
event keep it. -/
theorem keptByEveryStep_of_room {Inv : State → Prop} (request : ∀ {s t : State}, RoomRequest s t → Inv s → Inv t)
    (reset : ∀ {s t : State}, ResetRoom s t → Inv s → Inv t) (startUp : ∀ {s : State}, Inv s → Inv s.startUp)
    (second : ∀ {s : State} (a b : Bool), Inv s → Inv (s.secondPasses a b)) : KeptByEveryStep Inv := by
  have requests := keptByRequests_of_room request
  refine keptByEveryStep_of_exec (fun frame => request (.of_untouched frame rfl)) fun c s t h taken => ?_
  cases exec_room c taken with
  | elsewhere same => exact request (.elsewhere same) h
  | request c l payload => exact requests.takeRequest c l payload h
  | frame l => exact requests.takeNext l h
  | reset room => exact reset room h
  | startUp => exact startUp h
  | second a b => exact second a b h

end Sys2Proof.Machine
end

section
/-! The schedule table: what a put, a deletion and a loaded record leave of it (R127 to R131, R138). -/

namespace Sys2Proof.Machine

open Sys2Proof.Config

/-! ## Conflicts (R129) -/

theorem intervalsMeet_comm (s1 e1 s2 e2 : Nat) : intervalsMeet s1 e1 s2 e2 = intervalsMeet s2 e2 s1 e1 := by
  simp only [intervalsMeet, Bool.and_comm]

theorem rangesMeet_comm (f1 l1 f2 l2 : Option Date) : rangesMeet f1 l1 f2 l2 = rangesMeet f2 l2 f1 l1 := by
  simp only [rangesMeet, Bool.and_comm]

theorem EntryKind.conflicts_comm (a b : EntryKind) : a.conflicts b = b.conflicts a := by
  cases a with
  | weekly d f l t =>
    cases b with
    | weekly d' f' l' t' => simp only [EntryKind.conflicts, BitVec.and_comm d d', rangesMeet_comm f l]
    | _ => rfl
  | dated x t => cases b <;> simp only [EntryKind.conflicts, Bool.beq_comm]
  | skip x => cases b <;> simp only [EntryKind.conflicts, Bool.beq_comm]

theorem Entry.conflicts_comm (a b : Entry) : a.conflicts b = b.conflicts a := by
  rw [Entry.conflicts, intervalsMeet_comm, EntryKind.conflicts_comm]
  rfl

/-! ## Ascending tables -/

/-- R130: the ids ascend. -/
def Ascending (t : List Entry) : Prop := t.Pairwise fun a b => a.id < b.id

theorem Ascending.nodup {t : List Entry} (h : Ascending t) : (t.map Entry.id).Nodup :=
  List.pairwise_map.mpr (h.imp fun lt => Nat.ne_of_lt lt)

theorem Ascending.eq_of_id {t : List Entry} (h : Ascending t) {a b : Entry} (ha : a ∈ t) (hb : b ∈ t) (same : a.id = b.id) :
    a = b := List.inj_on_of_nodup_map h.nodup ha hb same

/-- R130: an entry put into an ascending table takes the place of the one with its id, and every other entry stays. -/
theorem mem_insertEntry {e : Entry} {t : List Entry} (h : Ascending t) {x : Entry} :
    x ∈ insertEntry e t ↔ x = e ∨ (x ∈ t ∧ x.id ≠ e.id) := by
  induction t with
  | nil => simp [insertEntry]
  | cons y rest ih =>
    obtain ⟨first, later⟩ := List.pairwise_cons.mp h
    have behind : ∀ z ∈ rest, y.id < z.id := first
    unfold insertEntry
    split
    · rename_i before
      have other : ∀ z ∈ y :: rest, z.id ≠ e.id := by
        intro z member
        rcases List.mem_cons.mp member with rfl | member
        · omega
        · have := behind z member
          omega
      grind
    · split
      · rename_i same
        have other : ∀ z ∈ rest, z.id ≠ e.id := fun z member => by have := behind z member; omega
        grind
      · rename_i after other
        simp only [List.mem_cons, ih later]
        grind

theorem insertEntry_ascending {e : Entry} {t : List Entry} (h : Ascending t) : Ascending (insertEntry e t) := by
  induction t with
  | nil => exact List.pairwise_singleton _ _
  | cons y rest ih =>
    obtain ⟨first, later⟩ := List.pairwise_cons.mp h
    unfold insertEntry
    split
    · rename_i before
      refine List.pairwise_cons.mpr ⟨fun z member => ?_, h⟩
      rcases List.mem_cons.mp member with rfl | member
      · exact before
      · exact before.trans (first z member)
    · split
      · rename_i same
        exact List.pairwise_cons.mpr ⟨fun z member => same ▸ first z member, later⟩
      · refine List.pairwise_cons.mpr ⟨fun z member => ?_, ih later⟩
        rcases (mem_insertEntry later).mp member with rfl | ⟨member, -⟩
        · omega
        · exact first z member

theorem insertEntry_length_le (e : Entry) (t : List Entry) : (insertEntry e t).length ≤ t.length + 1 := by
  induction t with
  | nil => exact Nat.le_refl 1
  | cons y rest ih =>
    unfold insertEntry
    split
    · exact Nat.le_refl _
    · split
      · exact Nat.le_succ _
      · exact Nat.succ_le_succ ih

/-- R130: an entry that replaces another leaves the size of the table. -/
theorem insertEntry_length_held {e : Entry} {t : List Entry} (h : Ascending t) (held : (entryOf t e.id).isSome = true) :
    (insertEntry e t).length = t.length := by
  induction t with
  | nil => cases held
  | cons y rest ih =>
    obtain ⟨first, later⟩ := List.pairwise_cons.mp h
    have member : ∃ z ∈ y :: rest, z.id = e.id := by simpa [entryOf] using held
    obtain ⟨z, member, same⟩ := member
    have front : y.id ≤ e.id := by
      rcases List.mem_cons.mp member with rfl | member
      · exact Nat.le_of_eq same
      · have := first z member
        omega
    rw [insertEntry, if_neg (by omega)]
    split
    · rfl
    · rename_i other
      have inRest : z ∈ rest := (List.mem_cons.mp member).resolve_left fun eq => other (eq ▸ same).symm
      have heldLater : (entryOf rest e.id).isSome = true := List.find?_isSome.mpr ⟨z, inRest, by simpa using same⟩
      simp only [List.length_cons, ih later heldLater]

/-! ## Good tables (R127 to R130, Law 8) -/

/-- R127 to R130: the table of a state whose table is good. -/
structure TableGood (t : List Entry) : Prop where
  size : t.length ≤ tableSize
  valid : ∀ e ∈ t, e.valid = true
  ascending : Ascending t
  free : ∀ a ∈ t, ∀ b ∈ t, a.id ≠ b.id → a.conflicts b = false

theorem State.tableGood_iff (s : State) : s.tableGood ↔ TableGood s.table := by
  constructor
  · rintro ⟨size, valid, good⟩
    have symm : Std.Symm fun a b : Entry => a.conflicts b = false := ⟨fun a b h => (Entry.conflicts_comm b a).trans h⟩
    exact ⟨size, valid, good.imp And.left, fun a ha b hb other =>
      (good.imp And.right : s.table.Pairwise fun a b => a.conflicts b = false).forall ha hb fun same =>
        other (congrArg Entry.id same)⟩
  · rintro ⟨size, valid, ascending, free⟩
    exact ⟨size, valid, ascending.imp_of_mem fun ha hb lt => ⟨lt, free _ ha _ hb (Nat.ne_of_lt lt)⟩⟩

theorem TableGood.nil : TableGood [] :=
  { size := Nat.zero_le _, valid := fun _ h => (List.not_mem_nil h).elim, ascending := List.Pairwise.nil
    free := fun _ h => (List.not_mem_nil h).elim }

theorem TableGood.filter {t : List Entry} (h : TableGood t) (p : Entry → Bool) : TableGood (t.filter p) where
  size := (List.length_filter_le p t).trans h.size
  valid e member := h.valid e (List.mem_of_mem_filter member)
  ascending := List.Pairwise.filter p h.ascending
  free a ha b hb := h.free a (List.mem_of_mem_filter ha) b (List.mem_of_mem_filter hb)

theorem conflictsWith_eq_nil_iff (t : List Entry) (e : Entry) :
    conflictsWith t e = [] ↔ ∀ x ∈ t, x.id ≠ e.id → e.conflicts x = false := by
  simp [conflictsWith, List.filter_eq_nil_iff]

/-- An entry joins a table: the entries with its id go, and it conflicts with none of the others. -/
theorem free_insertEntry {t : List Entry} (ascending : Ascending t)
    (free : ∀ a ∈ t, ∀ b ∈ t, a.id ≠ b.id → a.conflicts b = false) {e : Entry}
    (joins : ∀ x ∈ t, x.id ≠ e.id → e.conflicts x = false) :
    ∀ a ∈ insertEntry e t, ∀ b ∈ insertEntry e t, a.id ≠ b.id → a.conflicts b = false := by
  intro a ha b hb other
  rcases (mem_insertEntry ascending).mp ha with rfl | ⟨inTable, -⟩
  · rcases (mem_insertEntry ascending).mp hb with rfl | ⟨hb, idB⟩
    · exact (other rfl).elim
    · exact joins b hb idB
  · rcases (mem_insertEntry ascending).mp hb with rfl | ⟨hb, idB⟩
    · rw [Entry.conflicts_comm]
      exact joins a inTable other
    · exact free a inTable b hb other

theorem TableChange.good {t t' : List Entry} (change : TableChange t t') (h : TableGood t) : TableGood t' := by
  cases change with
  | put e valid free room =>
    refine ⟨?_, fun x member => ?_, insertEntry_ascending h.ascending,
      free_insertEntry h.ascending h.free ((conflictsWith_eq_nil_iff t e).mp free)⟩
    · rcases room with held | room
      · rw [insertEntry_length_held h.ascending held]
        exact h.size
      · exact (insertEntry_length_le e t).trans room
    · rcases (mem_insertEntry h.ascending).mp member with rfl | ⟨member, -⟩
      · exact valid
      · exact h.valid x member
  | delete id => exact h.filter _
  | clear => exact .nil

/-! ## The table that start-up takes (R138) -/

theorem entriesGood_cons {e : Entry} {rest : List Entry} (good : entriesGood (e :: rest) = true) :
    e.valid = true ∧ (∀ x ∈ rest, e.id ≠ x.id ∧ e.conflicts x = false) ∧ entriesGood rest = true := by
  simpa [entriesGood, and_assoc] using good

theorem insertAll_good {rest acc : List Entry} (size : acc.length + rest.length ≤ tableSize) (acc_good : TableGood acc)
    (good : entriesGood rest = true) (joins : ∀ x ∈ acc, ∀ e ∈ rest, e.conflicts x = false) :
    TableGood (rest.foldl (fun acc e => insertEntry e acc) acc) := by
  induction rest generalizing acc with
  | nil => exact acc_good
  | cons e rest ih =>
    obtain ⟨valid, apart, later⟩ := entriesGood_cons good
    have front : ∀ x ∈ acc, e.conflicts x = false := fun x hx => joins x hx e (List.mem_cons_self ..)
    have grown := insertEntry_length_le e acc
    rw [List.length_cons] at size
    refine ih (acc := insertEntry e acc) (by omega) ⟨by omega, fun x member => ?_, insertEntry_ascending acc_good.ascending,
      free_insertEntry acc_good.ascending acc_good.free fun x hx _ => front x hx⟩ later fun x member y hy => ?_
    · rcases (mem_insertEntry acc_good.ascending).mp member with rfl | ⟨member, -⟩
      · exact valid
      · exact acc_good.valid x member
    · rcases (mem_insertEntry acc_good.ascending).mp member with rfl | ⟨member, -⟩
      · rw [Entry.conflicts_comm]
        exact (apart y hy).2
      · exact joins x member y (List.mem_cons_of_mem _ hy)

theorem tableOfStored_good {r : List RawEntry} {t : List Entry} (taken : tableOfStored r = some t) : TableGood t := by
  unfold tableOfStored at taken
  split at taken
  · rename_i entries _
    split at taken
    · rename_i checks
      cases taken
      obtain ⟨good, size⟩ : entriesGood entries = true ∧ entries.length ≤ tableSize := by
        simpa [tableTaken] using checks
      exact insertAll_good (by simpa using size) .nil good fun _ h => nomatch h
    · cases taken
  · cases taken

/-- R138: what start-up takes of the schedule's slot is a good table. -/
theorem loadedTable_tableGood (x : PerKind StoreSlot) : TableGood ((loadedTable x).getD []) := by
  cases loaded : loadedTable x with
  | none => exact .nil
  | some t =>
    unfold loadedTable at loaded
    split at loaded
    · exact tableOfStored_good loaded
    · cases loaded

/-- What start-up leaves as the evaluation of the session found it. -/
theorem State.startUp_evaluated {s : State} (down : s.startUpDone = false) :
    Untouched (busBlocks ++ releaseBlocks) s.evaluated s.startUp := by
  rw [State.startUp, if_neg (by rw [down]; decide), State.evaluateSession_eq]
  exact s.watched_untouched.andThen (State.startCycle_untouched _) rfl rfl

/-- What start-up leaves as its records gave it. -/
theorem State.startUp_backed {s : State} (down : s.startUpDone = false) :
    Untouched (busBlocks ++ releaseBlocks ++ .finder :: runnerBlocks) s.backed s.startUp :=
  ((s.backed.finder_update_untouched _).andThen (State.runner_untouched s.atEvaluation _) (C := .finder :: runnerBlocks)
    rfl rfl).andThen (State.startUp_evaluated down) rfl rfl

theorem State.startUp_up {s : State} (up : s.startUpDone = true) : s.startUp = s := by rw [State.startUp, if_pos up]

theorem State.startUp_tableGood {s : State} (h : s.tableGood) : s.startUp.tableGood := by
  cases up : s.startUpDone with
  | true => rwa [State.startUp_up up]
  | false =>
    have table : s.startUp.table = (loadedTable s.store.slots).getD [] :=
      (State.startUp_backed up .table (by decide)).trans s.backed_table
    rw [State.tableGood_iff, table]
    exact loadedTable_tableGood _

/-! ## The table after each request -/

theorem State.setClock_untouched (s : State) (c : Clock) :
    Untouched (.clock :: .notice .clock :: .finder :: .notice .schedule :: runnerBlocks) s (s.setClock c) :=
  (((s.clock_update_untouched c).andThen (State.raise_untouched _ _)
    (C := .clock :: .notice .clock :: .finder :: .notice .schedule :: runnerBlocks) rfl rfl).andThen
    (State.recompute_untouched _ _) (C := .clock :: .notice .clock :: .finder :: .notice .schedule :: runnerBlocks)
    rfl rfl).andThen (State.runner_untouched _ _) rfl rfl

theorem State.settingTaken_untouched (s : State) (i : SettingId) (n : Nat) :
    Untouched (.settings :: .store :: settingBlocks) s (s.settingTaken i n) :=
  ((s.settings_update_untouched _).andThen (State.settingWritten_untouched _ i) (C := .settings :: .store :: settingBlocks)
    rfl rfl).andThen (State.queueKind_untouched _ _) rfl rfl

/-- R130, R131: the table after a change is the one it was changed to. -/
theorem State.changeTable_table (s : State) (table : List Entry) (replaced : Option Nat) :
    (s.changeTable table replaced).table = table := by
  have runner := State.runner_untouched (((({ s with table := table }).raise .schedule).queueKind .schedule).recompute false)
    { tableChange := true, replaced := replaced } .table (by decide)
  exact runner.trans (by rw [State.recompute_table, State.queueKind_table, State.raise_table])

theorem RoomRequest.tableGood {s t : State} (request : RoomRequest s t) (h : s.tableGood) : t.tableGood := by
  rw [State.tableGood_iff] at h ⊢
  cases request with
  | elsewhere same => rwa [same.table]
  | session => rwa [State.putSession_untouched _ _ .table (by decide)]
  | clock => rwa [State.setClock_untouched _ _ .table (by decide)]
  | table change =>
    rw [State.changeTable_table]
    exact change.good h
  | setting i n => rwa [State.settingTaken_untouched _ _ _ .table (by decide)]

/-- Settles O7: a put joins an entry free of conflict, a deletion leaves a part of the table, and start-up takes a checked
one. -/
theorem scheduleTableStaysValidAndFreeOfConflict : Obligations.ScheduleTableStaysValidAndFreeOfConflict := by
  unfold Obligations.ScheduleTableStaysValidAndFreeOfConflict
  refine keptByEveryStep_of_room (fun request => request.tableGood) (fun {s t} room _ => ?_) State.startUp_tableGood
    (fun {s} a b h => ?_)
  · rw [State.tableGood_iff, room.table]
    exact .nil
  · rw [State.tableGood_iff] at h ⊢
    rwa [s.secondPasses_frame a b .table (by decide)]

end Sys2Proof.Machine
end

section
/-! The minute event as one runner event, with what is taken of the second and the count-down before it and after it (R121,
R142, log entry 7). -/

namespace Sys2Proof.Machine

open Sys2Proof.Config

/-! ## The account's and the count-down's parts -/

/-- R3, R6: the account takes the second event at this place of the passes, or at the other. -/
def State.chargedIf (s : State) (here : Bool) : State := if here then s.accountSecond else s

/-- R109: the count-down is taken at this place of the passes, or at the other. -/
def State.countedIf (s : State) (here : Bool) : State := if here then s.countOverride else s

/-- What the charge and the count-down can touch. -/
def asideBlocks : List Block := .store :: policyBlocks

theorem State.chargedIf_untouched (s : State) (c : Bool) : Untouched asideBlocks s (s.chargedIf c) := by
  cases c
  · exact .refl _ _
  · exact s.accountSecond_untouched.mono rfl

theorem State.countedIf_untouched (s : State) (c : Bool) : Untouched asideBlocks s (s.countedIf c) := by
  cases c
  · exact .refl _ _
  · exact s.countOverride_untouched.mono rfl

theorem State.chargedIf_keeps (s : State) (c : Bool) : KeepsNotices s (s.chargedIf c) := by
  cases c
  · exact .refl s
  · exact s.accountSecond_keeps

theorem State.countedIf_keeps (s : State) (c : Bool) : KeepsNotices s (s.countedIf c) := by
  cases c
  · exact .refl s
  · exact s.setOverride_keeps _

theorem State.chargedIf_handedOver {s : State} (h : s.handedOver) (c : Bool) : (s.chargedIf c).handedOver := by
  cases c
  · exact h
  · exact State.accountSecond_handedOver h

theorem State.countedIf_handedOver {s : State} (h : s.handedOver) (c : Bool) : (s.countedIf c).handedOver := by
  cases c
  · exact h
  · exact State.setOverride_handedOver h _

theorem State.chargedIf_lampState (s : State) (c : Bool) : (s.chargedIf c).lamp.state = s.lamp.state := by
  cases c
  · rfl
  · exact (congrArg Lamp.state s.chargeSecond_lamp :)

theorem State.countOverride_lampState {s : State} (free : ∀ c, s.lamp.state = .off c → c = .none) :
    s.countOverride.lamp.state = s.lamp.state := by
  rw [State.countOverride, State.setOverride, State.deriveEffective]
  split
  · rfl
  · rw [State.recheckStrike_idle _ (by simpa using free)]
    simp

theorem State.countedIf_lampState {s : State} {c : Bool} (free : c = false ∨ ∀ x, s.lamp.state = .off x → x = .none) :
    (s.countedIf c).lamp.state = s.lamp.state := by
  cases c
  · rfl
  · exact State.countOverride_lampState (free.resolve_left (by decide))

/-! ## The passes of a minute event -/

/-- The state in which the runner takes the minute event. -/
def State.atMinute (s : State) (a b : Bool) : State := ((s.advanceClock.chargedIf a).countedIf b).recompute false

/-- R121: the runner event of the minute. -/
def State.minuteTaken (s : State) : RunnerEvent := { clockSet := s.clock.tickKind == .wrap }

theorem State.secondPasses_runner {s : State} (ends : 59 ≤ s.clock.second) (up : s.startUpDone = true) (a b : Bool) :
    s.secondPasses a b = (((s.atMinute a b).runner s.minuteTaken).countedIf (!b)).chargedIf (!a) := by
  have upNow : (s.advanceClock.chargedIf a).startUpDone = true :=
    ((s.advanceClock.chargedIf_untouched a) .startUp (by decide)).trans
      ((s.advanceClock_untouched .startUp (by decide)).trans up)
  have taken : (s.advanceClock.chargedIf a).takeMinute (s.clock.tickKind == .wrap) b
      = ((s.atMinute a b).runner s.minuteTaken).countedIf (!b) := by
    rw [State.takeMinute, if_neg (by simp [upNow])]
    cases b <;> rfl
  rw [State.secondPasses_minute ends]
  cases a
  · exact congrArg State.accountSecond taken
  · exact taken

/-- What the minute's runner event leaves but for the other takers' parts. -/
theorem State.secondPasses_after {s : State} (ends : 59 ≤ s.clock.second) (up : s.startUpDone = true) (a b : Bool) :
    Untouched asideBlocks ((s.atMinute a b).runner s.minuteTaken) (s.secondPasses a b)
      ∧ KeepsNotices ((s.atMinute a b).runner s.minuteTaken) (s.secondPasses a b)
      ∧ (s.secondPasses a b).handedOver := by
  rw [State.secondPasses_runner ends up]
  exact ⟨(State.countedIf_untouched _ _).andThen (State.chargedIf_untouched _ _) rfl rfl,
    (State.countedIf_keeps _ _).trans (State.chargedIf_keeps _ _),
    State.chargedIf_handedOver (State.countedIf_handedOver (State.runner_handedOver _ _) _) _⟩

/-- The state that the minute's runner event is taken in, but for clock, finder and the other takers' parts. -/
theorem State.atMinute_untouched (s : State) (a b : Bool) :
    Untouched (.time :: .clock :: .notice .clock :: .finder :: .notice .schedule :: asideBlocks) s (s.atMinute a b) :=
  ((s.advanceClock_untouched.andThen (State.chargedIf_untouched _ _)
    (C := .time :: .clock :: .notice .clock :: .finder :: .notice .schedule :: asideBlocks) rfl rfl).andThen
    (State.countedIf_untouched _ _) (C := .time :: .clock :: .notice .clock :: .finder :: .notice .schedule :: asideBlocks)
    rfl rfl).andThen (State.recompute_untouched _ _) rfl rfl

/-- R134: the finder reads the day and the minute of the clock. -/
theorem found_congr {c d : Clock} (table : List Entry) (unset : d.unset = c.unset) (date : d.date = c.date)
    (minute : d.minuteOfDay = c.minuteOfDay) : found table d = found table c := by
  unfold found nextOf currentOf leadTo
  rw [unset, date, minute]

theorem State.atMinute_clock (s : State) (a b : Bool) :
    (s.atMinute a b).clock = { s.clock.tick with secondStart := s.clock.secondStart + 1000000 } := by
  rw [State.atMinute, State.recompute_clock, State.countedIf_untouched _ _ .clock (by decide),
    State.chargedIf_untouched _ _ .clock (by decide), State.advanceClock_clock]

theorem State.atMinute_finder (s : State) (a b : Bool) : (s.atMinute a b).finder = found s.table s.clock.tick := by
  have table : ((s.advanceClock.chargedIf a).countedIf b).table = s.table :=
    (State.countedIf_untouched _ _ .table (by decide)).trans
      ((State.chargedIf_untouched _ _ .table (by decide)).trans (s.advanceClock_untouched .table (by decide)))
  have clock : ((s.advanceClock.chargedIf a).countedIf b).clock = (s.atMinute a b).clock := (State.recompute_clock _ _).symm
  have finder : (s.atMinute a b).finder = found ((s.advanceClock.chargedIf a).countedIf b).table
      ((s.advanceClock.chargedIf a).countedIf b).clock := by simp [State.atMinute, State.recompute]
  rw [finder, table, clock, s.atMinute_clock]
  exact found_congr _ rfl rfl rfl

/-- R135: the finder is in line with the table and the clock. -/
theorem State.atMinute_found (s : State) (a b : Bool) :
    (s.atMinute a b).finder = found (s.atMinute a b).table (s.atMinute a b).clock := by
  rw [s.atMinute_finder, s.atMinute_untouched a b .table (by decide), s.atMinute_clock]
  exact (found_congr _ rfl rfl rfl).symm

theorem State.atMinute_now (s : State) (a b : Bool) : (s.atMinute a b).clock.minuteCount = s.clock.tick.minuteCount := by
  rw [s.atMinute_clock]
  rfl

theorem State.atMinute_lampState {s : State} {a b : Bool} (free : b = false ∨ ∀ x, s.lamp.state = .off x → x = .none) :
    (s.atMinute a b).lamp.state = s.lamp.state := by
  have charged : (s.advanceClock.chargedIf a).lamp.state = s.lamp.state :=
    (State.chargedIf_lampState _ _).trans (congrArg Lamp.state (s.advanceClock_untouched .lamp (by decide)))
  rw [State.atMinute, State.recompute_lamp, State.countedIf_lampState (by rwa [charged]), charged]

/-- Before start-up has ended, and within a minute, a second is the clock's and the account's alone (log entry 25). -/
theorem State.secondPasses_alone {s : State} (alone : s.clock.second < 59 ∨ s.startUpDone = false) (a b : Bool) :
    s.secondPasses a b = s.advanceClock.accountSecond := by
  by_cases within : s.clock.second < 59
  · exact if_pos (if_pos within)
  · exact State.secondPasses_down (by omega) (alone.resolve_left within) a b

end Sys2Proof.Machine
end

section
/-! The runner's record by what is current, and what a runner event leaves of the use of the room (R142 to R150). -/

namespace Sys2Proof.Machine

open Sys2Proof.Config

/-! ## The steps of the record (R142) -/

/-- R156: the session with its end clamped. -/
def State.clampedSession (s : State) (ev : RunnerEvent) : Session :=
  { s.session with use := clampEnd ev s.clock.minuteCount s.settings.bridgeMax s.finder.nextStart s.session.use }

/-- R147: the session is marked ending. -/
def State.sessionEnding (s : State) (ev : RunnerEvent) : Bool :=
  ending ev s.clock.minuteCount s.settings.lead s.finder (s.clampedSession ev).use

/-- R148: the session once it has ended, when it is marked. -/
def State.endedSession (s : State) (ev : RunnerEvent) : Session :=
  if s.sessionEnding ev then
    endOutcome s.settings s.finder s.lamp.state s.clock.minuteCount (s.clampedSession ev)
  else s.clampedSession ev

/-- R155: a record with the walk-up warning settled. -/
def Session.warned (r : Session) (now : Nat) : Session := { r with use := warnWalkup now r.use }

theorem runRecord_start {s : State} {ev : RunnerEvent} {c : Occurrence} (current : s.finder.current = some c)
    (due : startDue (s.clampedSession ev) (s.sessionEnding ev) c = true) :
    runRecord s ev = (bookedStart s.table (s.clampedSession ev) c, true) := by
  simp only [runRecord, current]
  exact if_pos due

theorem runRecord_goesOn {s : State} {ev : RunnerEvent} {c : Occurrence} (current : s.finder.current = some c)
    (due : startDue (s.clampedSession ev) (s.sessionEnding ev) c = false) :
    runRecord s ev = ((s.clampedSession ev).warned s.clock.minuteCount, false) := by
  simp only [runRecord, current]
  exact if_neg (by simpa [State.sessionEnding, State.clampedSession] using due)

theorem runRecord_dark {s : State} {ev : RunnerEvent} (current : s.finder.current = none) :
    runRecord s ev =
      ((prewarm s.settings s.table s.finder (s.endedSession ev)).warned s.clock.minuteCount, false) := by
  simp only [runRecord, current]
  rfl

theorem clampEnd_booked (ev : RunnerEvent) (now bridgeMax : Nat) (next : Option Nat) (b : Booking) :
    clampEnd ev now bridgeMax next (.booked b) = .booked b := by
  unfold clampEnd
  split <;> rfl

theorem clampEnd_none (ev : RunnerEvent) (now bridgeMax : Nat) (next : Option Nat) :
    clampEnd ev now bridgeMax next .none = .none := by
  unfold clampEnd
  split <;> rfl

theorem clampEnd_untold {ev : RunnerEvent} (untold : (ev.clockSet || ev.tableChange) = false) (now bridgeMax : Nat)
    (next : Option Nat) (u : RoomUse) : clampEnd ev now bridgeMax next u = u := if_neg (by rw [untold]; decide)

/-- A booking has no end to clamp, and neither has no session. -/
theorem State.clampedSession_booked {s : State} {b : Booking} (use : s.session.use = .booked b) (ev : RunnerEvent) :
    s.clampedSession ev = s.session := by
  rw [State.clampedSession, use, clampEnd_booked, ← use]

theorem State.clampedSession_none {s : State} (use : s.session.use = .none) (ev : RunnerEvent) :
    s.clampedSession ev = s.session := by
  rw [State.clampedSession, use, clampEnd_none, ← use]

/-- R156: at an event that is neither a clock set nor a table change no end is clamped. -/
theorem State.clampedSession_untold (s : State) {ev : RunnerEvent} (untold : (ev.clockSet || ev.tableChange) = false) :
    s.clampedSession ev = s.session := by
  rw [State.clampedSession, clampEnd_untold untold]

theorem warnWalkup_eq_booked_iff {now : Nat} {u : RoomUse} {b : Booking} : warnWalkup now u = .booked b ↔ u = .booked b := by
  cases u <;> simp [warnWalkup]

theorem warnWalkup_eq_none_iff {now : Nat} {u : RoomUse} : warnWalkup now u = .none ↔ u = .none := by
  cases u <;> simp [warnWalkup]

theorem Session.warned_of_none {r : Session} (use : r.use = .none) (now : Nat) : r.warned now = r := by
  rw [Session.warned, warnWalkup_eq_none_iff.mpr use, ← use]

theorem Session.warned_of_booked {r : Session} {b : Booking} (use : r.use = .booked b) (now : Nat) : r.warned now = r := by
  rw [Session.warned, warnWalkup_eq_booked_iff.mpr use, ← use]

/-- R142: a current occurrence that makes no booked start is the one that runs. -/
theorem startDue_false {r : Session} {mark : Bool} {c : Occurrence} (due : startDue r mark c = false) :
    ∃ b, r.use = .booked b ∧ b.running = true ∧ b.isOf (some c) = true ∧ mark = false := by
  unfold startDue at due
  split at due
  · rename_i b use
    obtain ⟨⟨running, isOf⟩, unmarked⟩ : (b.running = true ∧ b.isOf (some c) = true) ∧ mark = false := by
      simpa using due
    exact ⟨b, use, running, isOf, unmarked⟩
  · cases due

theorem clampEnd_eq_booked {ev : RunnerEvent} {now bridgeMax : Nat} {next : Option Nat} {u : RoomUse} {b : Booking}
    (booked : clampEnd ev now bridgeMax next u = .booked b) : u = .booked b := by
  unfold clampEnd at booked
  split at booked
  · cases u <;> simp at booked ⊢
    exact booked
  · exact booked

theorem clampEnd_eq_none {ev : RunnerEvent} {now bridgeMax : Nat} {next : Option Nat} {u : RoomUse}
    (none : clampEnd ev now bridgeMax next u = .none) : u = .none := by
  unfold clampEnd at none
  split at none
  · cases u <;> simp at none ⊢
  · exact none

/-- R142, R146: a runner event leaves the record of its steps, but for what is owed. -/
theorem State.runner_session (s : State) (ev : RunnerEvent) :
    ∃ owed, (s.runner ev).session = (runRecord s ev).1.owing owed := by
  rcases (s.runner_spec ev).1 with same | owing
  · exact ⟨(runRecord s ev).1.owed, same.trans (Session.owing_owed _).symm⟩
  · exact owing

/-! ## Bookings follow the finder (R147) -/

/-- R134, R147: a booking that runs is of the current occurrence, and no session is the idle record. -/
structure Session.Follows (r : Session) (current : Option Occurrence) : Prop where
  running : ∀ b, r.use = .booked b → b.running = true → b.isOf current = true
  idle : r.use = .none → r = {}

theorem Session.Follows.owing {r : Session} {current : Option Occurrence} (h : r.Follows current) (owed : Option Nat) :
    (r.owing owed).Follows current := by
  obtain ⟨use, demand, requested⟩ := r
  cases use with
  | booked k =>
    refine ⟨fun b booked running => ?_, fun none => nomatch none⟩
    cases booked
    exact h.running k rfl running
  | _ => exact h

theorem Session.Follows.warned {r : Session} {current : Option Occurrence} (h : r.Follows current) (now : Nat) :
    (r.warned now).Follows current := by
  refine ⟨fun b booked => h.running b (warnWalkup_eq_booked_iff.mp booked), fun none => ?_⟩
  have use := warnWalkup_eq_none_iff.mp none
  rw [Session.warned_of_none use, h.idle use]

theorem Session.Follows.of_idle (current : Option Occurrence) : ({} : Session).Follows current :=
  ⟨fun _ booked => (nomatch booked), fun _ => rfl⟩

/-- R148: what a session ends in. -/
theorem endOutcome_cases (v : Settings) (f : Finder) (lamp : LampState) (now : Nat) (r : Session) :
    endOutcome v f lamp now r = {}
      ∨ (bridges v f lamp = true
          ∧ endOutcome v f lamp now r = { use := .bridge now (f.nextStart.getD now), demand := true, requested := .eco }) := by
  unfold endOutcome
  dsimp only
  split
  · split
    · rename_i called
      exact .inr ⟨((Bool.and_eq_true _ _).mp called).2, rfl⟩
    · exact .inl rfl
  · split
    · rename_i called
      exact .inr ⟨called, rfl⟩
    · exact .inl rfl
  · exact .inl rfl

/-- R144: the pre-warm test changes the idle record alone. -/
theorem prewarm_cases (v : Settings) (table : List Entry) (f : Finder) (r : Session) :
    prewarm v table f r = r
      ∨ ∃ x, f.next = some x ∧ r.use = .none ∧ prewarm v table f r =
          { use := .booked (bookingOf table x false), demand := true, requested := .normal } := by
  unfold prewarm
  split
  · rename_i x use next
    split
    · exact .inr ⟨x, next, use, rfl⟩
    · exact .inl rfl
  · exact .inl rfl

/-- R144: the pre-warm test keeps a record that follows the timetable. -/
theorem Session.Follows.prewarm {r : Session} {current : Option Occurrence} (h : r.Follows current) (v : Settings)
    (table : List Entry) (f : Finder) : (prewarm v table f r).Follows current := by
  rcases prewarm_cases v table f r with same | ⟨x, -, -, booked⟩
  · rwa [same]
  · rw [booked]
    refine ⟨fun b use running => ?_, fun none => nomatch none⟩
    cases use
    cases running

theorem State.clampedSession_idle {s : State} (idle : s.session.use = .none → s.session = {}) (ev : RunnerEvent) :
    (s.clampedSession ev).use = .none → s.clampedSession ev = {} := fun none => by
  have use := clampEnd_eq_none none
  rw [State.clampedSession_none use, idle use]

/-- R147: with no current occurrence a booking that runs is marked. -/
theorem State.endedSession_follows {s : State} (current : s.finder.current = none)
    (idle : s.session.use = .none → s.session = {}) (ev : RunnerEvent) :
    (s.endedSession ev).Follows none := by
  unfold State.endedSession
  split
  · rcases endOutcome_cases s.settings s.finder s.lamp.state s.clock.minuteCount (s.clampedSession ev) with same | ⟨-, bridge⟩
    · rw [same]
      exact .of_idle _
    · rw [bridge]
      exact ⟨fun _ booked => (nomatch booked), fun none => nomatch none⟩
  · rename_i unmarked
    refine ⟨fun b booked running => (unmarked ?_).elim, s.clampedSession_idle idle ev⟩
    simp [State.sessionEnding, booked, ending, running, current, Booking.isOf]

theorem runRecord_follows {s : State} (idle : s.session.use = .none → s.session = {}) (ev : RunnerEvent) :
    (runRecord s ev).1.Follows s.finder.current := by
  cases current : s.finder.current with
  | none =>
    rw [runRecord_dark current]
    exact ((State.endedSession_follows current idle ev).prewarm _ _ _).warned _
  | some c =>
    cases due : startDue (s.clampedSession ev) (s.sessionEnding ev) c with
    | true =>
      rw [runRecord_start current due]
      refine ⟨fun b use _ => ?_, fun none => nomatch none⟩
      cases use
      simp [Booking.isOf, bookingOf]
    | false =>
      rw [runRecord_goesOn current due]
      obtain ⟨b, use, -, isOf, -⟩ := startDue_false due
      have follows : (s.clampedSession ev).Follows (some c) :=
        ⟨fun k booked _ => by rw [use] at booked; cases booked; exact isOf, s.clampedSession_idle idle ev⟩
      exact follows.warned _

/-- R134, R147: a runner event leaves a record that follows the finder. -/
theorem State.runner_follows {s : State} (idle : s.session.use = .none → s.session = {}) (ev : RunnerEvent) :
    (s.runner ev).session.Follows (s.runner ev).finder.current := by
  obtain ⟨owed, session⟩ := s.runner_session ev
  have finder : (s.runner ev).finder = s.finder := State.runner_untouched s ev .finder (by decide)
  rw [session, finder]
  exact (runRecord_follows idle ev).owing owed

/-! ## The first invariant -/

theorem State.timetableFollows_iff (s : State) :
    s.timetableFollows ↔ (s.startUpDone = true → s.finder = found s.table s.clock) ∧ s.session.Follows s.finder.current :=
  ⟨fun ⟨finder, running, idle⟩ => ⟨finder, running, idle⟩, fun ⟨finder, running, idle⟩ => ⟨finder, running, idle⟩⟩

/-- A runner event on a finder just computed establishes the invariant. -/
theorem State.runner_timetableFollows {s : State} (idle : s.session.use = .none → s.session = {})
    (finder : s.finder = found s.table s.clock) (ev : RunnerEvent) : (s.runner ev).timetableFollows := by
  have frame := State.runner_untouched s ev
  refine (State.timetableFollows_iff _).mpr ⟨fun _ => ?_, State.runner_follows idle ev⟩
  rw [frame .finder (by decide), frame .table (by decide), frame .clock (by decide), finder]

/-- The invariant reads these blocks alone. -/
theorem State.timetableFollows_congr {s t : State} (startUp : t.startUpDone = s.startUpDone) (finder : t.finder = s.finder)
    (table : t.table = s.table) (clock : t.clock = s.clock) (session : t.session = s.session) (h : s.timetableFollows) :
    t.timetableFollows := by
  unfold State.timetableFollows at h ⊢
  rwa [startUp, finder, table, clock, session]

/-! ## What granted session requests leave (R151 to R157) -/

theorem startSession_granted {s : State} (ok : (startSession s).2 = .ok) :
    (∃ e, e = proposedEnd s ∧ (startSession s).1.use = warnWalkup s.clock.minuteCount (.walkup s.clock.minuteCount e false))
      ∨ (∃ b, s.session.use = .booked b ∧ (startSession s).1 = { s.session with demand := true })
      ∨ (∃ a e w, s.session.use = .walkup a e w ∧ (startSession s).1 = s.session)
      ∨ ∃ a e, s.session.use = .bridge a e
          ∧ (startSession s).1.use = warnWalkup s.clock.minuteCount (.walkup s.clock.minuteCount e false) := by
  cases use : s.session.use with
  | none =>
    simp only [startSession, use] at ok ⊢
    split at ok
    · cases ok
    · rename_i room
      rw [if_neg room]
      split at ok
      · cases ok
      · rename_i permitted
        rw [if_neg permitted]
        exact .inl ⟨_, rfl, rfl⟩
  | booked b => exact .inr (.inl ⟨b, rfl, by simp only [startSession, use]⟩)
  | walkup a e w => exact .inr (.inr (.inl ⟨a, e, w, rfl, by simp only [startSession, use]⟩))
  | bridge a e => exact .inr (.inr (.inr ⟨a, e, rfl, by simp only [startSession, use]⟩))

theorem endSession_granted {s : State} (ok : (endSession s).2 = .ok) :
    (∃ b, s.session.use = .booked b ∧ (endSession s).1 = { s.session with demand := false }) ∨ (endSession s).1 = {} := by
  cases use : s.session.use with
  | none => simp only [endSession, use] at ok; cases ok
  | booked b => exact .inl ⟨b, rfl, by simp only [endSession, use]⟩
  | walkup a e w => exact .inr (by simp only [endSession, use]; rfl)
  | bridge a e => exact .inr (by simp only [endSession, use]; rfl)

theorem extendSession_granted {s : State} (ok : (extendSession s).2 = .ok) :
    ∃ a e w b, s.session.use = .walkup a e w ∧ b ≤ s.clock.minuteCount + 240
      ∧ (∀ x, s.finder.nextStart = some x → b ≤ x)
      ∧ (extendSession s).1.use = warnWalkup s.clock.minuteCount (.walkup a b w) := by
  cases use : s.session.use with
  | walkup a e w =>
    refine ⟨a, e, w, leastWith (min (e + s.settings.extendStep) (s.clock.minuteCount + 240)) s.finder.nextStart, rfl, ?_, ?_,
      by simp only [extendSession, use]⟩
    · cases s.finder.nextStart <;> simp [leastWith]
    · rintro x next
      simp [leastWith, next]
  | _ => simp only [extendSession, use] at ok; cases ok

theorem levelSession_granted {s : State} {code : Byte} (ok : (levelSession code s).2 = .ok) :
    s.session.use ≠ .none ∧ (levelSession code s).1.use = s.session.use := by
  unfold levelSession at ok ⊢
  split at ok
  · cases ok
  · split at ok
    · cases ok
    · rename_i live
      rw [if_neg live]
      exact ⟨live, rfl⟩

/-- A record whose use is a walk-up follows any timetable. -/
theorem Session.Follows.of_walkup {r : Session} {a e : Nat} {w : Bool} (use : r.use = .walkup a e w)
    (current : Option Occurrence) : r.Follows current :=
  ⟨fun _ booked => (nomatch use.symm.trans booked), fun none => (nomatch use.symm.trans none)⟩

/-- A record with the use of another, a session, follows the timetable as that one does. -/
theorem Session.Follows.of_use {r r' : Session} {current : Option Occurrence} (h : r.Follows current)
    (use : r'.use = r.use) (live : r.use ≠ .none) : r'.Follows current :=
  ⟨fun b booked => h.running b (use ▸ booked), fun none => (live (use ▸ none)).elim⟩

theorem SessionGranted.follows {s : State} {r : Session} (granted : SessionGranted s r)
    (h : s.session.Follows s.finder.current) : r.Follows s.finder.current := by
  cases granted with
  | start ok =>
    rcases startSession_granted ok with ⟨e, -, use⟩ | ⟨b, booked, same⟩ | ⟨a, e, w, -, same⟩ | ⟨a, e, -, use⟩
    · exact .of_walkup use _
    · rw [same]
      exact h.of_use rfl (by rw [booked]; exact nofun)
    · rwa [same]
    · exact .of_walkup use _
  | finish ok =>
    rcases endSession_granted ok with ⟨b, booked, same⟩ | idle
    · rw [same]
      exact h.of_use rfl (by rw [booked]; exact nofun)
    · rw [idle]
      exact .of_idle _
  | extend ok =>
    obtain ⟨a, e, w, b, -, -, -, use⟩ := extendSession_granted ok
    exact .of_walkup use _
  | level code ok =>
    obtain ⟨live, use⟩ := levelSession_granted ok
    exact h.of_use use live

theorem State.recompute_finder (s : State) (q : Bool) : (s.recompute q).finder = found s.table s.clock := by
  simp [State.recompute]

theorem RoomRequest.timetableFollows {s t : State} (request : RoomRequest s t) (h : s.timetableFollows) :
    t.timetableFollows := by
  obtain ⟨finder, follows⟩ := (State.timetableFollows_iff s).mp h
  cases request with
  | elsewhere same => exact State.timetableFollows_congr same.startUp same.finder same.table same.clock same.session h
  | @session r granted =>
    have frame := s.putSession_untouched r
    refine (State.timetableFollows_iff _).mpr ⟨?_, ?_⟩
    · rwa [frame .startUp (by decide), frame .finder (by decide), frame .table (by decide), frame .clock (by decide)]
    · rw [(s.putSession_spec r).1, frame .finder (by decide)]
      exact granted.follows follows
  | clock =>
    refine State.runner_timetableFollows (by simpa using follows.idle) ?_ _
    rw [State.recompute_finder, State.recompute_table, State.recompute_clock]
  | table =>
    refine State.runner_timetableFollows (by simpa using follows.idle) ?_ _
    rw [State.recompute_finder, State.recompute_table, State.recompute_clock]
  | setting i n =>
    have frame := s.settingTaken_untouched i n
    exact State.timetableFollows_congr (frame .startUp (by decide)) (frame .finder (by decide)) (frame .table (by decide))
      (frame .clock (by decide)) (frame .session (by decide)) h

/-- R138: start-up evaluates the session on a finder just computed. -/
theorem State.startUp_timetableFollows {s : State} (h : s.timetableFollows) : s.startUp.timetableFollows := by
  cases up : s.startUpDone with
  | true => rwa [State.startUp_up up]
  | false =>
    have idle : s.atEvaluation.session.use = .none → s.atEvaluation.session = {} := by
      rw [show s.atEvaluation.session = s.session from s.backed_untouched .session (by decide)]
      exact h.2.2
    obtain ⟨finder, follows⟩ := (State.timetableFollows_iff _).mp
      (State.runner_timetableFollows idle (finder := rfl) { quiet := true } : s.evaluated.timetableFollows)
    have frame := State.startUp_evaluated up
    have computed : s.evaluated.finder = found s.evaluated.table s.evaluated.clock := by
      have kept := State.runner_untouched s.atEvaluation { quiet := true }
      unfold State.evaluated
      rw [kept .finder (by decide), kept .table (by decide), kept .clock (by decide)]
      rfl
    refine (State.timetableFollows_iff _).mpr ⟨fun _ => ?_, ?_⟩
    · rw [frame .finder (by decide), frame .table (by decide), frame .clock (by decide), computed]
    · rwa [frame .session (by decide), frame .finder (by decide)]

/-! ## A second (R121) -/

theorem Clock.tick_within {c : Clock} (within : c.second < 59) : c.tick = { c with second := c.second + 1 } := if_pos within

theorem State.secondPasses_timetableFollows {s : State} (a b : Bool) (h : s.timetableFollows) :
    (s.secondPasses a b).timetableFollows := by
  obtain ⟨finder, follows⟩ := (State.timetableFollows_iff s).mp h
  by_cases alone : s.clock.second < 59 ∨ s.startUpDone = false
  · rw [State.secondPasses_alone alone]
    have frame := s.advanceClock_untouched.andThen s.advanceClock.accountSecond_untouched
      (C := .time :: .clock :: .notice .clock :: burnBlocks) rfl rfl
    refine (State.timetableFollows_iff _).mpr ⟨fun up => ?_, ?_⟩
    · rw [frame .startUp (by decide)] at up
      have within := alone.resolve_right (by rw [up]; decide)
      have clock : s.advanceClock.accountSecond.clock = s.advanceClock.clock :=
        s.advanceClock.accountSecond_untouched .clock (by decide)
      rw [frame .finder (by decide), frame .table (by decide), clock, State.advanceClock_clock, Clock.tick_within within,
        finder up]
      exact (found_congr _ rfl rfl rfl).symm
    · rwa [frame .session (by decide), frame .finder (by decide)]
  · obtain ⟨ends, up⟩ : 59 ≤ s.clock.second ∧ s.startUpDone = true := by simpa using alone
    have before := s.atMinute_untouched a b
    obtain ⟨after, -, -⟩ := State.secondPasses_after ends up a b
    have idle : (s.atMinute a b).session.use = .none → (s.atMinute a b).session = {} := by
      rw [before .session (by decide)]
      exact follows.idle
    exact State.timetableFollows_congr (after .startUp (by decide)) (after .finder (by decide)) (after .table (by decide))
      (after .clock (by decide)) (after .session (by decide)) (State.runner_timetableFollows idle (s.atMinute_found a b) s.minuteTaken)

theorem ResetRoom.timetableFollows {s t : State} (room : ResetRoom s t) : t.timetableFollows := by
  rw [State.timetableFollows_iff, room.session, room.startUp]
  exact ⟨nofun, .of_idle _⟩

theorem timetableFollows_kept : KeptByEveryStep State.timetableFollows :=
  keptByEveryStep_of_room RoomRequest.timetableFollows (fun room _ => room.timetableFollows) State.startUp_timetableFollows
    State.secondPasses_timetableFollows

end Sys2Proof.Machine
end

section
/-! The next occurrence: it lies in the days ahead, and no other occurrence of them comes before it (R133, R134). -/

namespace Sys2Proof.Machine

open Sys2Proof.Config

/-! ## The occurrences of a day -/

/-- R139: the start of an occurrence as a minute count. -/
def Occurrence.startCount (o : Occurrence) : Nat := minuteCount o.date o.start

theorem mem_occurrencesOn {table : List Entry} {d : Date} {o : Occurrence} (member : o ∈ occurrencesOn table d) :
    o.date = d ∧ ∃ e ∈ table, o = ⟨e.id, d, e.start, e.stop⟩ := by
  obtain ⟨e, occurs, rfl⟩ := List.mem_map.mp member
  exact ⟨rfl, e, List.mem_of_mem_filter occurs, rfl⟩

/-- R128: every entry starts within its day. -/
def StartsInDay (table : List Entry) : Prop := ∀ e ∈ table, e.start ≤ 1435

theorem Entry.start_le {e : Entry} (valid : e.valid = true) : e.start ≤ 1435 := by
  simp only [Entry.valid, Bool.and_eq_true, decide_eq_true_eq] at valid
  omega

theorem TableGood.startsInDay {table : List Entry} (good : TableGood table) : StartsInDay table :=
  fun e member => Entry.start_le (good.valid e member)

theorem StartsInDay.occurrence {table : List Entry} (h : StartsInDay table) {d : Date} {o : Occurrence}
    (member : o ∈ occurrencesOn table d) : o.start ≤ 1435 := by
  obtain ⟨-, e, held, rfl⟩ := mem_occurrencesOn member
  exact h e held

theorem earliest_eq_none_iff {l : List Occurrence} : earliest l = none ↔ l = [] := by
  cases l with
  | nil => exact ⟨fun _ => rfl, fun _ => rfl⟩
  | cons o rest =>
    refine ⟨fun none => ?_, nofun⟩
    unfold earliest at none
    split at none
    · cases none
    · split at none <;> cases none

theorem earliest_spec {l : List Occurrence} {p : Occurrence} (found : earliest l = some p) :
    p ∈ l ∧ ∀ o ∈ l, p.start ≤ o.start := by
  induction l generalizing p with
  | nil => cases found
  | cons o rest ih =>
    unfold earliest at found
    split at found
    · rename_i none
      cases found
      simp [earliest_eq_none_iff.mp none]
    · rename_i q later
      obtain ⟨member, least⟩ := ih later
      split at found
      · rename_i before
        cases found
        exact ⟨List.mem_cons_of_mem _ member, List.forall_mem_cons.mpr ⟨Nat.le_of_lt before, least⟩⟩
      · rename_i after
        cases found
        exact ⟨List.mem_cons_self .., List.forall_mem_cons.mpr
          ⟨Nat.le_refl _, fun x hx => (Nat.le_of_not_lt after).trans (least x hx)⟩⟩

theorem exists_earliest {l : List Occurrence} {o : Occurrence} (member : o ∈ l) :
    ∃ p, earliest l = some p ∧ p.start ≤ o.start := by
  cases found : earliest l with
  | none =>
    rw [earliest_eq_none_iff.mp found] at member
    cases member
  | some p => exact ⟨p, rfl, (earliest_spec found).2 o member⟩

/-! ## The days that follow (R134) -/

/-- An occurrence of a table on the day with a number. -/
def OccursAt (table : List Entry) (n : Nat) (o : Occurrence) : Prop :=
  n < 36525 ∧ o ∈ occurrencesOn table (dateOfNumber n)

theorem OccursAt.number {table : List Entry} {n : Nat} {o : Occurrence} (h : OccursAt table n o) : o.date.number = n := by
  rw [(mem_occurrencesOn h.2).1]
  exact (dateOfNumber_valid h.1).2

theorem OccursAt.startCount {table : List Entry} {n : Nat} {o : Occurrence} (h : OccursAt table n o) :
    o.startCount = n * 1440 + o.start := by rw [Occurrence.startCount, minuteCount, h.number]

theorem laterOf_occurs {table : List Entry} {days n : Nat} {o : Occurrence} (found : laterOf table days n = some o) :
    ∃ m, n ≤ m ∧ m < n + days ∧ OccursAt table m o := by
  induction days generalizing n with
  | zero => cases found
  | succ days ih =>
    unfold laterOf at found
    split at found
    · rename_i inCalendar
      split at found
      · rename_i p first
        cases found
        exact ⟨n, Nat.le_refl n, by omega, inCalendar, (earliest_spec first).1⟩
      · obtain ⟨m, reached, within, occurs⟩ := ih found
        exact ⟨m, by omega, by omega, occurs⟩
    · cases found

theorem laterOf_first {table : List Entry} (starts : StartsInDay table) {days n m : Nat} {o : Occurrence}
    (occurs : OccursAt table m o) (reached : n ≤ m) (within : m < n + days) :
    ∃ p, laterOf table days n = some p ∧ p.startCount ≤ o.startCount := by
  induction days generalizing n with
  | zero => omega
  | succ days ih =>
    unfold laterOf
    have inCalendar : n < 36525 := by have := occurs.1; omega
    rw [if_pos (show n < calendarDays from inCalendar)]
    by_cases today : m = n
    · subst today
      obtain ⟨p, first, least⟩ := exists_earliest occurs.2
      have there : OccursAt table m p := ⟨inCalendar, (earliest_spec first).1⟩
      simp only [first]
      exact ⟨p, rfl, by rw [there.startCount, occurs.startCount]; omega⟩
    · cases first : earliest (occurrencesOn table (dateOfNumber n)) with
      | none => exact ih (by omega) (by omega)
      | some p =>
        have there : OccursAt table n p := ⟨inCalendar, (earliest_spec first).1⟩
        have inDay := starts.occurrence there.2
        exact ⟨p, rfl, by rw [there.startCount, occurs.startCount]; omega⟩

/-! ## The next occurrence (R134) -/

theorem nextOf_occurs {table : List Entry} {c : Clock} (date : c.date.valid = true) (minute : c.minuteOfDay < 1440)
    {o : Occurrence} (next : nextOf table c = some o) :
    ∃ n, c.date.number ≤ n ∧ n ≤ c.date.number + 7 ∧ OccursAt table n o ∧ c.minuteCount < o.startCount := by
  obtain ⟨inCalendar, named⟩ := Date.number_of_valid date
  unfold nextOf at next
  split at next
  · rename_i p first
    cases next
    obtain ⟨member, ahead⟩ := List.mem_filter.mp (earliest_spec first).1
    have occurs : OccursAt table c.date.number o := ⟨inCalendar, by rwa [named]⟩
    refine ⟨_, Nat.le_refl _, by omega, occurs, ?_⟩
    rw [occurs.startCount, Clock.minuteCount, minuteCount]
    have later : c.minuteOfDay < o.start := by simpa using ahead
    omega
  · obtain ⟨m, reached, within, occurs⟩ := laterOf_occurs next
    refine ⟨m, by omega, by omega, occurs, ?_⟩
    rw [occurs.startCount, Clock.minuteCount, minuteCount]
    omega

theorem nextOf_first {table : List Entry} (starts : StartsInDay table) {c : Clock} (date : c.date.valid = true) {n : Nat}
    {o : Occurrence} (occurs : OccursAt table n o) (within : n ≤ c.date.number + 7) (ahead : c.minuteCount < o.startCount) :
    ∃ p, nextOf table c = some p ∧ p.startCount ≤ o.startCount := by
  obtain ⟨inCalendar, named⟩ := Date.number_of_valid date
  have inDay := starts.occurrence occurs.2
  have count := occurs.startCount
  rw [Clock.minuteCount, minuteCount] at ahead
  unfold nextOf
  cases first : earliest ((occurrencesOn table c.date).filter fun o => c.minuteOfDay < o.start) with
  | some p =>
    obtain ⟨member, least⟩ := earliest_spec first
    have there : OccursAt table c.date.number p := ⟨inCalendar, by rw [named]; exact List.mem_of_mem_filter member⟩
    have inDayToo := starts.occurrence there.2
    refine ⟨p, rfl, ?_⟩
    rw [there.startCount]
    by_cases today : n = c.date.number
    · subst today
      have listed : o ∈ (occurrencesOn table c.date).filter fun o => c.minuteOfDay < o.start :=
        List.mem_filter.mpr ⟨named ▸ occurs.2, by simp; omega⟩
      have := least o listed
      omega
    · omega
  | none =>
    have notToday : n ≠ c.date.number := by
      rintro rfl
      have listed : o ∈ (occurrencesOn table c.date).filter fun o => c.minuteOfDay < o.start :=
        List.mem_filter.mpr ⟨named ▸ occurs.2, by simp; omega⟩
      rw [earliest_eq_none_iff.mp first] at listed
      cases listed
    exact laterOf_first starts occurs (by omega) (by omega)

end Sys2Proof.Machine
end

section
/-! The ends of walk-ups and bridges: at most 240 minutes ahead and no later than the next occurrence (R139, R151, R154,
R156). -/

namespace Sys2Proof.Machine

open Sys2Proof.Config

/-! ## The next start as the clock goes on (R121, R134) -/

theorem Clock.minuteOfDay_lt {c : Clock} (valid : c.valid) : c.minuteOfDay < 1440 := by
  obtain ⟨-, hour, minute, -⟩ := valid
  rw [Clock.minuteOfDay]
  omega

theorem found_nextStart {table : List Entry} {c : Clock} {x : Nat} :
    (found table c).nextStart = some x ↔ c.unset = false ∧ ∃ o, nextOf table c = some o ∧ o.startCount = x := by
  unfold found Finder.nextStart
  cases c.unset <;> simp [Occurrence.startCount]

/-- R134: the lead time is the time to the next occurrence. -/
theorem found_lead {table : List Entry} {c : Clock} (valid : c.valid) {x : Nat}
    (next : (found table c).nextStart = some x) : x = c.minuteCount + (found table c).lead := by
  obtain ⟨set, o, first, rfl⟩ := found_nextStart.mp next
  obtain ⟨n, reached, -, occurs, ahead⟩ := nextOf_occurs valid.1 (Clock.minuteOfDay_lt valid) first
  have lead : (found table c).lead = (n - c.date.number) * 1440 + o.start - c.minuteOfDay := by
    simp only [found, set, first, Bool.false_eq_true, if_false, leadTo, occurs.number]
  rw [occurs.startCount] at ahead ⊢
  rw [lead]
  rw [Clock.minuteCount, minuteCount] at ahead ⊢
  omega

/-- The minute after a minute, the end of the range aside. -/
structure MinuteAfter (c d : Clock) : Prop where
  count : d.minuteCount = c.minuteCount + 1
  date : d.date.number = c.date.number ∨ d.date.number = c.date.number + 1
  unset : d.unset = false → c.unset = false

/-- What starts on the eighth day ahead, the new day's seventh, lies beyond the next 240 minutes. -/
theorem start_beyond {day minute n start e : Nat} (beyond : day + 8 ≤ n) (bounded : e ≤ day * 1440 + minute + 240)
    (inDay : minute < 1440) : e ≤ n * 1440 + start := by
  linarith

/-- An end at most 240 minutes ahead and no later than the next occurrence is still so a minute later: an occurrence that comes
within the finder's reach with the new day is further ahead. -/
theorem nextStart_minuteAfter {table : List Entry} (starts : StartsInDay table) {c d : Clock} (valid : c.valid)
    (validAfter : d.valid) (after : MinuteAfter c d) {e : Nat} (bounded : e ≤ c.minuteCount + 240)
    (inTime : ∀ x, (found table c).nextStart = some x → e ≤ x) :
    ∀ x, (found table d).nextStart = some x → e ≤ x := by
  intro x next
  obtain ⟨count, date, unset⟩ := after
  obtain ⟨set, o, first, rfl⟩ := found_nextStart.mp next
  obtain ⟨n, -, within, occurs, ahead⟩ := nextOf_occurs validAfter.1 (Clock.minuteOfDay_lt validAfter) first
  by_cases before : n ≤ c.date.number + 7
  · obtain ⟨p, earlier, least⟩ := nextOf_first starts valid.1 occurs before (by omega)
    exact (inTime _ (found_nextStart.mpr ⟨unset set, p, earlier, rfl⟩)).trans least
  · have inDay := Clock.minuteOfDay_lt valid
    rw [occurs.startCount]
    rw [Clock.minuteCount, minuteCount] at bounded
    exact start_beyond (by omega) bounded inDay

/-! ## The clock's fields stay in range (R120, R121, R124, R126) -/

theorem Date.next_valid {d : Date} (valid : d.valid = true) : d.next.valid = true := by
  by_cases last : d = ⟨2099, 12, 31⟩
  · rw [last]
    decide
  · exact (Date.next_number valid last).2

theorem Clock.tick_valid {c : Clock} (valid : c.valid) : c.tick.valid := by
  obtain ⟨date, hour, minute, second⟩ := valid
  unfold Clock.tick Clock.valid
  split
  · exact ⟨date, hour, minute, (by omega : c.second + 1 ≤ 59)⟩
  · split
    · exact ⟨date, hour, (by omega : c.minute + 1 ≤ 59), Nat.zero_le _⟩
    · split
      · exact ⟨date, (by omega : c.hour + 1 ≤ 23), Nat.zero_le _, Nat.zero_le _⟩
      · exact ⟨Date.next_valid date, Nat.zero_le _, Nat.zero_le _, Nat.zero_le _⟩

theorem Clock.tick_unset {c : Clock} (set : c.tick.unset = false) : c.unset = false := by
  unfold Clock.tick at set
  split at set
  · exact set
  · split at set
    · exact set
    · split at set
      · exact set
      · exact ((Bool.or_eq_false_iff).mp set).1

theorem Clock.tick_minuteAfter {c : Clock} (valid : c.valid) (ends : 59 ≤ c.second) (goesOn : c.tickKind ≠ .wrap) :
    MinuteAfter c c.tick := by
  obtain ⟨date, hours, minutes, -⟩ := valid
  obtain ⟨-, -, within, hour, day⟩ := Clock.tick_minute ends hours
  refine ⟨?_, ?_, Clock.tick_unset⟩
  · simp only [Clock.minuteCount, Machine.minuteCount, Clock.minuteOfDay]
    by_cases inHour : c.minute < 59
    · obtain ⟨minute, hour, date, -⟩ := within inHour
      rw [minute, hour, date]
      omega
    · by_cases inDay : c.hour < 23
      · obtain ⟨minute, hour, date⟩ := hour (by omega) inDay
        rw [minute, hour, date]
        omega
      · obtain ⟨minute, hour, next, -⟩ := day (by omega) (by omega)
        have notLast : c.date ≠ ⟨2099, 12, 31⟩ := fun last => goesOn (by
          rw [Clock.tickKind, if_neg (by omega), if_pos ⟨by omega, by omega, last⟩])
        rw [minute, hour, next, (Date.next_number date notLast).1]
        omega
  · by_cases inHour : c.minute < 59
    · exact .inl (by rw [(within inHour).2.2.1])
    · by_cases inDay : c.hour < 23
      · exact .inl (by rw [(hour (by omega) inDay).2.2])
      · have notLast : c.date ≠ ⟨2099, 12, 31⟩ := fun last => goesOn (by
          rw [Clock.tickKind, if_neg (by omega), if_pos ⟨by omega, by omega, last⟩])
        exact .inr (by rw [(day (by omega) (by omega)).2.2.1, (Date.next_number date notLast).1])

theorem Clock.advance_valid (c : Clock) (n : Nat) : (c.advance n).valid := by
  refine ⟨(dateOfNumber_valid ?_).1, ?_, ?_, ?_⟩
  all_goals
    simp only [Clock.advance, calendarDays]
    omega

theorem Clock.afterPowerOn_valid {c : Clock} (valid : c.valid) (backup : Option Nat) : (c.afterPowerOn backup).valid := by
  cases backup with
  | none => exact valid
  | some n => exact c.advance_valid n

theorem clockSetTo_valid {c d : Clock} {now : Nat} {date : RawDate} {hour minute : Byte}
    (set : clockSetTo c now date hour minute = some d) : d.valid := by
  unfold clockSetTo at set
  dsimp only at set
  split at set
  · rename_i inRange
    cases set
    simp only [Bool.and_eq_true, decide_eq_true_eq, and_assoc] at inRange
    obtain ⟨date, hour, minute⟩ := inRange
    exact ⟨date, hour, minute, Nat.zero_le _⟩
  · cases set

/-! ## The settings that bound an end (R181, R184) -/

/-- R151, R149: the longest walk-up and the longest bridge. -/
def Settings.EndsBounded (v : Settings) : Prop := v.walkupLength ≤ 240 ∧ v.bridgeMax ≤ 120

theorem Settings.EndsBounded.put {v : Settings} (h : v.EndsBounded) (i : SettingId) (n : Nat) : (v.put i n).EndsBounded := by
  obtain ⟨walkup, bridge⟩ := h
  cases i with
  | walkupLength => exact ⟨by simp [Settings.put, clampNat], bridge⟩
  | bridgeMax => exact ⟨walkup, by simp [Settings.put, clampNat]⟩
  | rate l | mask l => cases l <;> exact ⟨walkup, bridge⟩
  | _ => exact ⟨walkup, bridge⟩

theorem settingsOf_endsBounded (values : List Nat) : (settingsOf values).EndsBounded := by
  unfold settingsOf
  generalize allSettings.zip values = writes
  suffices h : ∀ v : Settings, v.EndsBounded → (writes.foldl (fun v p => v.put p.1 p.2) v).EndsBounded from
    h {} ⟨by decide, by decide⟩
  induction writes with
  | nil => exact fun _ h => h
  | cons p rest ih => exact fun v h => ih _ (h.put p.1 p.2)

theorem settingsTaken_endsBounded (x : PerKind StoreSlot) : (settingsTaken x).EndsBounded := by
  unfold settingsTaken loadedSettings
  split
  · exact settingsOf_endsBounded _
  · exact ⟨by decide, by decide⟩

/-! ## Bounded ends -/

/-- R151, R154, R156: the end of a walk-up or a bridge lies at most 240 minutes ahead and no later than the next start. -/
def EndWithin (now : Nat) (next : Option Nat) (u : RoomUse) : Prop :=
  ∀ e, (∃ a w, u = .walkup a e w) ∨ (∃ a, u = .bridge a e) → e ≤ now + 240 ∧ ∀ x, next = some x → e ≤ x

theorem endWithin_walkup {now : Nat} {next : Option Nat} {a e : Nat} {w : Bool} :
    EndWithin now next (.walkup a e w) ↔ e ≤ now + 240 ∧ ∀ x, next = some x → e ≤ x := by
  simp [EndWithin]

theorem endWithin_bridge {now : Nat} {next : Option Nat} {a e : Nat} :
    EndWithin now next (.bridge a e) ↔ e ≤ now + 240 ∧ ∀ x, next = some x → e ≤ x := by
  simp [EndWithin]

theorem endWithin_booked (now : Nat) (next : Option Nat) (b : Booking) : EndWithin now next (.booked b) := by
  simp [EndWithin]

theorem endWithin_none (now : Nat) (next : Option Nat) : EndWithin now next .none := by
  simp [EndWithin]

theorem EndWithin.warnWalkup {now : Nat} {next : Option Nat} {u : RoomUse} (h : EndWithin now next u) (n : Nat) :
    EndWithin now next (warnWalkup n u) := by
  cases u with
  | walkup a e w => exact endWithin_walkup.mpr (endWithin_walkup.mp h)
  | _ => exact h

theorem EndWithin.owing {now : Nat} {next : Option Nat} {r : Session} (h : EndWithin now next r.use) (owed : Option Nat) :
    EndWithin now next (r.owing owed).use := by
  obtain ⟨use, demand, requested⟩ := r
  cases use with
  | booked b => exact endWithin_booked _ _ _
  | _ => exact h

theorem leastWith_le (a : Nat) (next : Option Nat) : leastWith a next ≤ a ∧ ∀ x, next = some x → leastWith a next ≤ x := by
  cases next <;> simp [leastWith]

/-- R156: a clamped end is bounded. -/
theorem clampEnd_endWithin {ev : RunnerEvent} (told : (ev.clockSet || ev.tableChange) = true) {now bridgeMax : Nat}
    (bridge : bridgeMax ≤ 120) (next : Option Nat) (u : RoomUse) : EndWithin now next (clampEnd ev now bridgeMax next u) := by
  cases u with
  | none =>
    rw [clampEnd_none]
    exact endWithin_none _ _
  | booked b =>
    rw [clampEnd_booked]
    exact endWithin_booked _ _ b
  | walkup a e w =>
    obtain ⟨clamped, inTime⟩ := leastWith_le (min e (now + 240)) next
    rw [clampEnd, if_pos told]
    exact endWithin_walkup.mpr ⟨by omega, inTime⟩
  | bridge a e =>
    obtain ⟨clamped, inTime⟩ := leastWith_le (min e (now + bridgeMax)) next
    rw [clampEnd, if_pos told]
    exact endWithin_bridge.mpr ⟨by omega, inTime⟩

theorem State.clampedSession_endWithin {s : State} {ev : RunnerEvent} (told : (ev.clockSet || ev.tableChange) = true)
    (bounded : s.settings.bridgeMax ≤ 120) :
    EndWithin s.clock.minuteCount s.finder.nextStart (s.clampedSession ev).use := clampEnd_endWithin told bounded _ _

/-- R149: a bridge is called for to a next occurrence at most the longest bridge ahead. -/
theorem bridges_within {v : Settings} {f : Finder} {lamp : LampState} (called : bridges v f lamp = true) :
    f.next.isSome = true ∧ f.lead ≤ v.bridgeMax := by
  simp only [bridges, Bool.and_eq_true, decide_eq_true_eq] at called
  obtain ⟨⟨⟨⟨⟨next, -⟩, -⟩, near⟩, -⟩, -⟩ := called
  exact ⟨next, near⟩

/-- R147 to R149: a session that ends leaves no end, or that of a bridge to the next start. -/
theorem endOutcome_endWithin {v : Settings} {table : List Entry} {c : Clock} (valid : c.valid) (bounded : v.bridgeMax ≤ 120)
    (lamp : LampState) (r : Session) :
    EndWithin c.minuteCount (found table c).nextStart
      (endOutcome v (found table c) lamp c.minuteCount r).use := by
  rcases endOutcome_cases v (found table c) lamp c.minuteCount r with idle | ⟨called, bridge⟩
  · rw [idle]
    exact endWithin_none _ _
  · obtain ⟨next, near⟩ := bridges_within called
    obtain ⟨o, first⟩ := Option.isSome_iff_exists.mp next
    have start : (found table c).nextStart = some o.startCount := by rw [Finder.nextStart, first]; rfl
    have lead := found_lead valid start
    rw [bridge, start]
    refine endWithin_bridge.mpr ⟨?_, fun x same => ?_⟩
    · rw [Option.getD_some]
      omega
    · cases same
      exact Nat.le_refl _

theorem prewarm_endWithin {now : Nat} {next : Option Nat} {r : Session} (h : EndWithin now next r.use) (v : Settings)
    (table : List Entry) (f : Finder) : EndWithin now next (prewarm v table f r).use := by
  rcases prewarm_cases v table f r with same | ⟨x, -, -, booked⟩
  · rwa [same]
  · rw [booked]
    exact endWithin_booked _ _ _

/-- R142: a runner event on a finder just computed leaves a bounded end, when the end is bounded once clamped. -/
theorem State.runner_endWithin {s : State} {ev : RunnerEvent} (finder : s.finder = found s.table s.clock)
    (valid : s.clock.valid) (bounded : s.settings.bridgeMax ≤ 120)
    (h : EndWithin s.clock.minuteCount s.finder.nextStart (s.clampedSession ev).use) :
    EndWithin s.clock.minuteCount s.finder.nextStart (s.runner ev).session.use := by
  obtain ⟨owed, session⟩ := s.runner_session ev
  rw [session]
  refine EndWithin.owing ?_ owed
  cases current : s.finder.current with
  | none =>
    rw [runRecord_dark current]
    refine EndWithin.warnWalkup (prewarm_endWithin ?_ _ _ _) _
    unfold State.endedSession
    split
    · have outcome := endOutcome_endWithin (v := s.settings) (table := s.table) valid bounded s.lamp.state (s.clampedSession ev)
      rwa [← finder] at outcome
    · exact h
  | some c =>
    cases due : startDue (s.clampedSession ev) (s.sessionEnding ev) c with
    | true =>
      rw [runRecord_start current due]
      exact endWithin_booked _ _ _
    | false =>
      rw [runRecord_goesOn current due]
      exact h.warnWalkup _

/-! ## The invariant once start-up has completed -/

/-- What the second invariant says from the end of start-up on. -/
structure EndsHeld (s : State) : Prop where
  up : s.startUpDone = true
  table : TableGood s.table
  clock : s.clock.valid
  settings : s.settings.EndsBounded
  finder : s.finder = found s.table s.clock
  ends : EndWithin s.clock.minuteCount s.finder.nextStart s.session.use

theorem EndsHeld.endsBounded {s : State} (h : EndsHeld s) : s.endsBounded :=
  ⟨(s.tableGood_iff).mpr h.table, h.clock, h.settings.1, h.settings.2, fun _ => h.finder,
    fun down => (nomatch h.up.symm.trans down), h.ends⟩

theorem State.endsBounded.held {s : State} (h : s.endsBounded) (up : s.startUpDone = true) : EndsHeld s := by
  obtain ⟨table, clock, walkup, bridge, finder, -, ends⟩ := h
  exact ⟨up, (s.tableGood_iff).mp table, clock, ⟨walkup, bridge⟩, finder up, ends⟩

/-- A runner event on a finder just computed keeps the invariant, when the end is bounded once clamped. -/
theorem State.runner_endsHeld {s : State} {ev : RunnerEvent} (up : s.startUpDone = true) (table : TableGood s.table)
    (clock : s.clock.valid) (settings : s.settings.EndsBounded) (finder : s.finder = found s.table s.clock)
    (ends : EndWithin s.clock.minuteCount s.finder.nextStart (s.clampedSession ev).use) : EndsHeld (s.runner ev) := by
  have frame := State.runner_untouched s ev
  have kept := State.runner_endWithin finder clock settings.2 ends
  constructor
  · rwa [frame .startUp (by decide)]
  · rwa [frame .table (by decide)]
  · rwa [frame .clock (by decide)]
  · rwa [frame .settings (by decide)]
  · rwa [frame .finder (by decide), frame .table (by decide), frame .clock (by decide)]
  · rwa [frame .finder (by decide), frame .clock (by decide)]

theorem SameRoom.endsHeld {s t : State} (same : SameRoom s t) (h : EndsHeld s) : EndsHeld t := by
  obtain ⟨up, table, clock, settings, finder, ends⟩ := h
  constructor
  · rwa [same.startUp]
  · rwa [same.table]
  · rwa [same.clock]
  · rwa [same.settings]
  · rwa [same.finder, same.table, same.clock]
  · rwa [same.finder, same.clock, same.session]

/-- R151 to R157: a granted session request leaves a bounded end. -/
theorem SessionGranted.endWithin {s : State} {r : Session} (granted : SessionGranted s r) (walkup : s.settings.walkupLength ≤ 240)
    (h : EndWithin s.clock.minuteCount s.finder.nextStart s.session.use) :
    EndWithin s.clock.minuteCount s.finder.nextStart r.use := by
  cases granted with
  | start ok =>
    rcases startSession_granted ok with ⟨e, rfl, use⟩ | ⟨b, -, same⟩ | ⟨a, e, w, -, same⟩ | ⟨a, e, bridge, use⟩
    · obtain ⟨length, inTime⟩ := leastWith_le (s.clock.minuteCount + s.settings.walkupLength) s.finder.nextStart
      rw [use]
      exact (endWithin_walkup.mpr ⟨length.trans (by omega), inTime⟩).warnWalkup _
    · rwa [same]
    · rwa [same]
    · rw [bridge] at h
      rw [use]
      exact (endWithin_walkup.mpr (endWithin_bridge.mp h)).warnWalkup _
  | finish ok =>
    rcases endSession_granted ok with ⟨b, -, same⟩ | idle
    · rwa [same]
    · rw [idle]
      exact endWithin_none _ _
  | extend ok =>
    obtain ⟨a, e, w, b, -, bounded, inTime, use⟩ := extendSession_granted ok
    rw [use]
    exact (endWithin_walkup.mpr ⟨bounded, inTime⟩).warnWalkup _
  | level code ok =>
    rw [(levelSession_granted ok).2]
    exact h

theorem RoomRequest.endsHeld {s t : State} (request : RoomRequest s t) (h : EndsHeld s) : EndsHeld t := by
  obtain ⟨up, table, clock, settings, finder, ends⟩ := id h
  cases request with
  | elsewhere same => exact same.endsHeld h
  | @session r granted =>
    have frame := s.putSession_untouched r
    constructor
    · rwa [frame .startUp (by decide)]
    · rwa [frame .table (by decide)]
    · rwa [frame .clock (by decide)]
    · rwa [frame .settings (by decide)]
    · rwa [frame .finder (by decide), frame .table (by decide), frame .clock (by decide)]
    · rw [(s.putSession_spec r).1, frame .finder (by decide), frame .clock (by decide)]
      exact granted.endWithin settings.1 ends
  | clock set =>
    refine State.runner_endsHeld (by simpa using up) (by simpa using table) (by simpa using clockSetTo_valid set)
      (by simpa using settings) ?_ (State.clampedSession_endWithin rfl (by simpa using settings.2))
    rw [State.recompute_finder, State.recompute_table, State.recompute_clock]
  | table change replaced =>
    refine State.runner_endsHeld (by simpa using up) (by simpa using change.good table) (by simpa using clock)
      (by simpa using settings) ?_ (State.clampedSession_endWithin rfl (by simpa using settings.2))
    rw [State.recompute_finder, State.recompute_table, State.recompute_clock]
  | setting i n =>
    have frame := s.settingTaken_untouched i n
    constructor
    · rwa [frame .startUp (by decide)]
    · rwa [frame .table (by decide)]
    · rwa [frame .clock (by decide)]
    · rw [State.settingTaken_settings]
      exact settings.put i n
    · rwa [frame .finder (by decide), frame .table (by decide), frame .clock (by decide)]
    · rwa [frame .finder (by decide), frame .clock (by decide), frame .session (by decide)]

theorem endsHeld_keptByRequests : KeptByRequests EndsHeld := keptByRequests_of_room RoomRequest.endsHeld

/-! ## The invariant before start-up has completed -/

/-- What the second invariant says before start-up has completed. -/
structure EndsDown (s : State) : Prop where
  down : s.startUpDone = false
  table : TableGood s.table
  clock : s.clock.valid
  settings : s.settings.EndsBounded
  use : s.session.use = .none
  held : ∀ l, (s.link l).answering = .held

theorem EndsDown.endsBounded {s : State} (h : EndsDown s) : s.endsBounded :=
  ⟨(s.tableGood_iff).mpr h.table, h.clock, h.settings.1, h.settings.2, fun up => (nomatch h.down.symm.trans up),
    fun _ => ⟨h.use, h.held⟩, by rw [h.use]; exact endWithin_none _ _⟩

theorem State.endsBounded.down {s : State} (h : s.endsBounded) (down : s.startUpDone = false) : EndsDown s := by
  obtain ⟨table, clock, walkup, bridge, -, none, -⟩ := h
  obtain ⟨use, held⟩ := none down
  exact ⟨down, (s.tableGood_iff).mp table, clock, ⟨walkup, bridge⟩, use, held⟩

theorem EndsDown.elsewhere {s t : State} (h : EndsDown s) (same : SameRoom s t) (stay : StayHeld s t) : EndsDown t := by
  obtain ⟨down, table, clock, settings, use, held⟩ := h
  constructor
  · rwa [same.startUp]
  · rwa [same.table]
  · rwa [same.clock]
  · rwa [same.settings]
  · rwa [same.session]
  · exact fun l => stay l (held l)

theorem State.bytesArrive_sameRoom (s : State) (l : Link) (bytes : List Byte) : SameRoom s (s.bytesArrive l bytes) := by
  induction bytes generalizing s with
  | nil => exact .refl s
  | cons b rest ih => exact ((s.byteArrives_untouched l b).sameRoom rfl).trans (ih _)

/-- R176: before start-up has completed a request waits on its HELD link. -/
theorem EndsDown.takeRequest {s : State} (h : EndsDown s) (c : Command) (l : Link) (payload : List Byte) :
    EndsDown (s.takeRequest c l payload) := by
  rw [State.takeRequest_held (h.held l)]
  exact h.elsewhere (s.bytesArrive_sameRoom l _) (s.bytesArrive_stayHeld l _)

theorem ResetRoom.endsDown {s t : State} (room : ResetRoom s t) (clock : s.clock.valid) : EndsDown t where
  down := room.startUp
  table := by rw [room.table]; exact .nil
  clock := by
    rcases room.clock with same | ⟨backup, advanced⟩
    · rwa [same]
    · rw [advanced]
      exact Clock.afterPowerOn_valid clock backup
  settings := by rw [room.settings]; exact ⟨by decide, by decide⟩
  use := by rw [room.session]
  held := room.held

/-! ## Start-up and the second -/

theorem State.release_up (s : State) : s.release.startUpDone = true := rfl

theorem State.startUp_done {s : State} (down : s.startUpDone = false) : s.startUp.startUpDone = true := by
  rw [State.startUp, if_neg (by rw [down]; decide), State.evaluateSession_eq]
  have watched := (s.evaluated.release.watchSupply_startWrite).1 .startUp (by decide)
  exact ((State.startCycle_untouched _) .startUp (by decide)).trans (watched.trans s.evaluated.release_up)

/-- R126, R138: start-up evaluates the session with no end to bound. -/
theorem EndsDown.startUp {s : State} (h : EndsDown s) : EndsHeld s.startUp := by
  obtain ⟨down, -, clock, -, use, -⟩ := h
  have evaluation : EndWithin s.atEvaluation.clock.minuteCount s.atEvaluation.finder.nextStart
      (s.atEvaluation.clampedSession { quiet := true }).use := by
    have none : s.atEvaluation.session.use = .none := by
      rw [show s.atEvaluation.session = s.session from s.backed_untouched .session (by decide), use]
    rw [State.clampedSession_none none, none]
    exact endWithin_none _ _
  have clockNow : s.atEvaluation.clock.valid := by
    rw [show s.atEvaluation.clock = s.backed.clock from rfl, State.backed_clock]
    split
    · exact ⟨(by decide : (⟨2000, 1, 1⟩ : Date).valid = true), Nat.zero_le _, Nat.zero_le _, Nat.zero_le _⟩
    · exact clock
  have settings : s.atEvaluation.settings.EndsBounded := by
    rw [show s.atEvaluation.settings = settingsTaken s.store.slots from s.backed_untouched .settings (by decide)]
    exact settingsTaken_endsBounded _
  have table : TableGood s.atEvaluation.table := by
    rw [show s.atEvaluation.table = s.backed.table from rfl, State.backed_table]
    exact loadedTable_tableGood _
  have ends : EndWithin s.evaluated.clock.minuteCount s.evaluated.finder.nextStart s.evaluated.session.use := by
    have kept := State.runner_untouched s.atEvaluation { quiet := true }
    have within := State.runner_endWithin (s := s.atEvaluation) rfl clockNow settings.2 evaluation
    unfold State.evaluated
    rwa [kept .clock (by decide), kept .finder (by decide)]
  have before := State.runner_untouched s.atEvaluation { quiet := true }
  have frame := State.startUp_evaluated down
  constructor
  · exact State.startUp_done down
  · rwa [frame .table (by decide), State.evaluated, before .table (by decide)]
  · rwa [frame .clock (by decide), State.evaluated, before .clock (by decide)]
  · rwa [frame .settings (by decide), State.evaluated, before .settings (by decide)]
  · rw [frame .finder (by decide), frame .table (by decide), frame .clock (by decide), State.evaluated,
      before .finder (by decide), before .table (by decide), before .clock (by decide)]
    rfl
  · rwa [frame .clock (by decide), frame .finder (by decide), frame .session (by decide)]

/-- What a second can touch when it is the clock's and the account's alone. -/
theorem State.second_untouched (s : State) :
    Untouched (.time :: .clock :: .notice .clock :: burnBlocks) s s.advanceClock.accountSecond :=
  s.advanceClock_untouched.andThen s.advanceClock.accountSecond_untouched rfl rfl

theorem State.second_clock (s : State) :
    s.advanceClock.accountSecond.clock = { s.clock.tick with secondStart := s.clock.secondStart + 1000000 } :=
  (s.advanceClock.accountSecond_untouched .clock (by decide)).trans s.advanceClock_clock

theorem EndsDown.second {s : State} (h : EndsDown s) (a b : Bool) : EndsDown (s.secondPasses a b) := by
  obtain ⟨down, table, clock, settings, use, held⟩ := h
  rw [State.secondPasses_alone (.inr down)]
  have frame := s.second_untouched
  constructor
  · rwa [frame .startUp (by decide)]
  · rwa [frame .table (by decide)]
  · rw [State.second_clock]
    exact Clock.tick_valid clock
  · rwa [frame .settings (by decide)]
  · rwa [frame .session (by decide)]
  · exact fun l => frame.stayHeld (by decide) l (held l)

theorem EndsHeld.second {s : State} (h : EndsHeld s) (a b : Bool) : EndsHeld (s.secondPasses a b) := by
  obtain ⟨up, table, clock, settings, finder, ends⟩ := h
  have ticked := Clock.tick_valid clock
  by_cases within : s.clock.second < 59
  · rw [State.secondPasses_alone (.inl within)]
    have frame := s.second_untouched
    constructor
    · rwa [frame .startUp (by decide)]
    · rwa [frame .table (by decide)]
    · rw [State.second_clock]
      exact ticked
    · rwa [frame .settings (by decide)]
    · rw [frame .finder (by decide), frame .table (by decide), State.second_clock, Clock.tick_within within, finder]
      exact (found_congr _ rfl rfl rfl).symm
    · rw [frame .finder (by decide), frame .session (by decide), State.second_clock, Clock.tick_within within]
      exact ends
  · have ends' : 59 ≤ s.clock.second := by omega
    have before := s.atMinute_untouched a b
    have tableAt : (s.atMinute a b).table = s.table := before .table (by decide)
    have settingsAt : (s.atMinute a b).settings = s.settings := before .settings (by decide)
    have clockAt := s.atMinute_clock a b
    obtain ⟨after, -, -⟩ := State.secondPasses_after ends' up a b
    have clamped : EndWithin (s.atMinute a b).clock.minuteCount (s.atMinute a b).finder.nextStart
        ((s.atMinute a b).clampedSession s.minuteTaken).use := by
      by_cases wraps : s.clock.tickKind = .wrap
      · exact clampEnd_endWithin (by simp [State.minuteTaken, wraps]) (by rw [settingsAt]; exact settings.2) _ _
      · have untold : (s.minuteTaken.clockSet || s.minuteTaken.tableChange) = false := by simp [State.minuteTaken, wraps]
        have later := Clock.tick_minuteAfter clock ends' wraps
        rw [State.clampedSession_untold _ untold, before .session (by decide), s.atMinute_finder, s.atMinute_now]
        intro e live
        obtain ⟨bounded, inTime⟩ := ends e live
        rw [finder] at inTime
        have count := later.count
        exact ⟨by omega, nextStart_minuteAfter table.startsInDay clock ticked later bounded inTime⟩
    have taken := State.runner_endsHeld (ev := s.minuteTaken) ((before .startUp (by decide)).trans up) (by rwa [tableAt])
      (by rw [clockAt]; exact ticked) (by rwa [settingsAt]) (s.atMinute_found a b) clamped
    exact SameRoom.endsHeld (after.sameRoom rfl) taken

/-! ## Every step -/

theorem exec_endsBounded (i : Instr) {s t : State} (h : s.endsBounded) (taken : exec i s = .next t) : t.endsBounded := by
  have step := exec_room i taken
  cases up : s.startUpDone with
  | true =>
    have held := h.held up
    cases step with
    | elsewhere same => exact (same.endsHeld held).endsBounded
    | request c l payload => exact (endsHeld_keptByRequests.takeRequest c l payload held).endsBounded
    | frame l => exact (endsHeld_keptByRequests.takeNext l held).endsBounded
    | reset room => exact (room.endsDown held.clock).endsBounded
    | startUp => rwa [State.startUp_up up]
    | second a b => exact (held.second a b).endsBounded
  | false =>
    have down := h.down up
    cases step with
    | elsewhere same stay => exact (down.elsewhere same stay).endsBounded
    | request c l payload => exact (down.takeRequest c l payload).endsBounded
    | frame l => rwa [State.takeNext_held (down.held l)]
    | reset room => exact (room.endsDown down.clock).endsBounded
    | startUp => exact down.startUp.endsBounded
    | second a b => exact (down.second a b).endsBounded

/-- A state that differs in its queue and its time alone keeps the invariant. -/
theorem State.endsBounded_congr {s t : State} (frame : Untouched [.queue, .time] s t) (h : s.endsBounded) : t.endsBounded := by
  cases up : s.startUpDone with
  | true => exact ((frame.sameRoom rfl).endsHeld (h.held up)).endsBounded
  | false => exact ((h.down up).elsewhere (frame.sameRoom rfl) (frame.stayHeld (by decide))).endsBounded

/-- Settles O12: the runner settles both after each recomputation of the finder, granted requests respect the bounds, and an
occurrence that the finder first reaches a day later lies beyond every end. -/
theorem sessionsFollowTheTimetable : Obligations.SessionsFollowTheTimetable := by
  unfold Obligations.SessionsFollowTheTimetable
  exact ⟨timetableFollows_kept, keptByEveryStep_of_exec State.endsBounded_congr exec_endsBounded⟩

end Sys2Proof.Machine
end

section
/-! The payload of ENTRY_PUT as it is decoded, and the entry that ENTRY_READ sends in its layout (11, R128, R132, R186). -/

namespace Sys2Proof.Machine

open Sys2Proof.Config

/-! ## Fields as carried (11, ENCODINGS) -/

theorem byte_toNat {n : Nat} (fits : n < 256) : (byte n).toNat = n := by
  rw [byte, BitVec.toNat_ofNat, Nat.mod_eq_of_lt fits]

/-- The 16-bit field that two bytes spell, most significant first. -/
theorem be16_joined {n : Nat} (fits : n < 65536) : (byte (n / 256) ++ byte n : BitVec 16).toNat = n := by
  rw [BitVec.toNat_append, byte_toNat (by omega), byte, BitVec.toNat_ofNat, ← Nat.shiftLeft_add_eq_or_of_lt (by omega),
    Nat.shiftLeft_eq]
  omega

theorem monthLength_le (y : Nat) {m : Nat} (first : 1 ≤ m) (last : m ≤ 12) : monthLength y m ≤ 31 := by
  rw [monthLength_eq y first last]
  split_ifs <;> decide

/-- A date of the range as its four bytes carry it. -/
def rawOfDateBytes (d : Date) : RawDate := rawDateOf (byte (d.year / 256)) (byte d.year) (byte d.month) (byte d.day)

theorem dateOfRaw_rawOfDateBytes {d : Date} (valid : d.valid = true) : dateOfRaw (rawOfDateBytes d) = d := by
  obtain ⟨year, month, day⟩ := d
  obtain ⟨-, year_le, first, last, -, day_le⟩ := (Date.valid_iff _ _ _).mp valid
  have length := monthLength_le year first last
  simp only [dateOfRaw, rawOfDateBytes, rawDateOf, Date.mk.injEq]
  exact ⟨be16_joined (by omega), byte_toNat (by omega), byte_toNat (by omega)⟩

/-- R186: the four bytes of a bound, absent or present. -/
def rawOfBoundBytes : Option Date → RawDate
  | none => rawDateOf 0 0 0 0
  | some d => rawOfDateBytes d

theorem boundOfRaw_rawOfBoundBytes {o : Option Date} (valid : boundValid o = true) : boundOfRaw (rawOfBoundBytes o) = o := by
  cases o with
  | none => rfl
  | some d =>
    have decoded := dateOfRaw_rawOfDateBytes valid
    have present : (rawOfDateBytes d).year ≠ 0 := fun zero => by
      have year : (dateOfRaw (rawOfDateBytes d)).year = 0 := by rw [dateOfRaw, zero]; rfl
      obtain ⟨y, m, k⟩ := d
      rw [decoded] at year
      have from2000 := ((Date.valid_iff _ _ _).mp valid).1
      simp only at year
      omega
    rw [boundOfRaw, rawOfBoundBytes, if_neg present, decoded]

theorem lampLevelOfCode_byte (v : LampLevel) : lampLevelOfCode (byte v.code).toNat = some v := by cases v <;> rfl

/-- R128: the terms of a valid entry as its three bytes carry them. -/
theorem termsOfRaw_bytes {t : Terms} (valid : t.valid = true) (r : RawEntry) (source : r.source = byte t.source)
    (level : r.level = byte t.level.code) (lamp : r.lamp = byte t.lamp.code) : termsOfRaw r = some t := by
  have plate : t.source ≤ 12 := by
    rw [Terms.valid, Bool.and_eq_true, decide_eq_true_eq] at valid
    exact valid.1
  rw [termsOfRaw, source, level, lamp, levelOfCode_byte, lampLevelOfCode_byte]
  simp only [byte_toNat (by omega : t.source < 256)]

/-! ## The entry that ENTRY_READ sends -/

/-- The fields of an entry as `Entry.bytes` carries them. -/
def Entry.sent (e : Entry) : RawEntry :=
  let blank : RawEntry :=
    { id := byte e.id, kind := byte (entryKindCode e.kind), weekdays := absentWeekdays.setWidth 8
      first := rawOfBoundBytes none, last := rawOfBoundBytes none, date := rawOfBoundBytes none
      start := byte (e.start / 256) ++ byte e.start, stop := byte (e.stop / 256) ++ byte e.stop
      source := byte absentPlate.val, level := 0xFF, lamp := 0xFF, label := e.label }
  match e.kind with
  | .weekly days first last t =>
    { blank with
      weekdays := days.setWidth 8, first := rawOfBoundBytes first, last := rawOfBoundBytes last
      source := byte t.source, level := byte t.level.code, lamp := byte t.lamp.code }
  | .dated d t =>
    { blank with date := rawOfDateBytes d, source := byte t.source, level := byte t.level.code, lamp := byte t.lamp.code }
  | .skip d => { blank with date := rawOfDateBytes d }

theorem rawEntryOf_bytes {e : Entry} (label : e.label.length < 256) : rawEntryOf e.bytes = some e.sent := by
  obtain ⟨id, kind, start, stop, text⟩ := e
  have named : text.length = (byte text.length).toNat := (byte_toNat label).symm
  cases kind with
  | weekly days first last t => cases first <;> cases last <;> exact if_pos named
  | dated d t => exact if_pos named
  | skip d => exact if_pos named

theorem Entry.valid_fields {e : Entry} (valid : e.valid = true) :
    e.id < 256 ∧ e.kind.valid = true ∧ e.start < 65536 ∧ e.stop < 65536 ∧ e.label.length < 256 := by
  simp only [Entry.valid, Bool.and_eq_true, decide_eq_true_eq] at valid
  refine ⟨by omega, valid.1.1.1.1.1.1.2, by omega, by omega, by omega⟩

/-- R132: what ENTRY_READ sends of a valid entry is decoded to that entry. -/
theorem entryOfRaw_sent {e : Entry} (valid : e.valid = true) : entryOfRaw e.sent = some e := by
  obtain ⟨id, kind, start, stop, label⟩ := e
  obtain ⟨idFits, kindValid, startFits, stopFits, -⟩ := Entry.valid_fields valid
  dsimp only at idFits kindValid startFits stopFits
  cases kind with
  | weekly days first last t =>
    simp only [EntryKind.valid, Bool.and_eq_true] at kindValid
    obtain ⟨⟨⟨⟨-, firstValid⟩, lastValid⟩, -⟩, terms⟩ := kindValid
    have decoded := termsOfRaw_bytes terms (Entry.sent ⟨id, .weekly days first last t, start, stop, label⟩) rfl rfl rfl
    have weekdays : (days.setWidth 8).setWidth 7 = days := by
      rw [BitVec.setWidth_setWidth_of_le _ (by decide), BitVec.setWidth_eq]
    show (termsOfRaw _).map _ = _
    rw [decoded]
    simp only [Entry.sent, Option.map_some, byte_toNat idFits, be16_joined startFits, be16_joined stopFits, weekdays,
      boundOfRaw_rawOfBoundBytes firstValid, boundOfRaw_rawOfBoundBytes lastValid]
  | dated d t =>
    simp only [EntryKind.valid, Bool.and_eq_true] at kindValid
    have decoded := termsOfRaw_bytes kindValid.2 (Entry.sent ⟨id, .dated d t, start, stop, label⟩) rfl rfl rfl
    show (termsOfRaw _).map _ = _
    rw [decoded]
    simp only [Entry.sent, Option.map_some, byte_toNat idFits, be16_joined startFits, be16_joined stopFits,
      dateOfRaw_rawOfDateBytes kindValid.1]
  | skip d =>
    show some _ = _
    simp only [Entry.sent, byte_toNat idFits, be16_joined startFits, be16_joined stopFits,
      dateOfRaw_rawOfDateBytes kindValid]

/-- Settles O28: the answer's payload field by field, each carried without loss within the bounds of R128. -/
theorem entryReadAnswersWhatEntryPutDecodes : Obligations.EntryReadAnswersWhatEntryPutDecodes := by
  intro l id s listening
  have taken := exec_admitted (i := .entryRead l id) rfl (admitted_of_enquiry listening rfl rfl) (Nat.le_of_ble_eq_true rfl) rfl
  have table : (s.hearing (.entryRead l id)).table = s.table := s.hearing_untouched _ .table (by decide)
  refine ⟨fun e held valid => ?_, fun absent => ?_⟩
  · have answer : ownEntryRead id (s.hearing (.entryRead l id)) = ⟨s.hearing (.entryRead l id), .ok, e.bytes⟩ := by
      simp only [ownEntryRead, table, held]
    rw [answer] at taken
    exact ⟨e.bytes, e.sent, taken, rawEntryOf_bytes (Entry.valid_fields valid).2.2.2.2, entryOfRaw_sent valid⟩
  · have none : entryOf s.table id.toNat = none := List.find?_eq_none.mpr (by simpa using absent)
    have answer : ownEntryRead id (s.hearing (.entryRead l id)) = ⟨s.hearing (.entryRead l id), .notFound, []⟩ := by
      simp only [ownEntryRead, table, none]
    rw [answer] at taken
    exact taken

end Sys2Proof.Machine
end

section
/-! What a runner event with nothing current leaves: a session goes on, becomes a bridge, or ends in the pre-warm that is due
or in none (R144, R147 to R150, R155, R156). -/

namespace Sys2Proof.Machine

open Sys2Proof.Config

/-! ## The bridging decision (R148, R149) -/

theorem bridges_iff (v : Settings) (f : Finder) (lamp : LampState) : bridges v f lamp = true ↔ BridgeCalledFor v f lamp := by
  have burning : lamp.burning = true ↔ lamp = .striking .attempt ∨ lamp = .striking .retryWait ∨ lamp = .warming ∨ lamp = .lit := by
    cases lamp with
    | striking phase => cases phase <;> simp [LampState.burning]
    | _ => simp [LampState.burning]
  have next : f.next.isSome = true ↔ f.next ≠ none := Option.isSome_iff_ne_none
  simp only [bridges, offFeasible, Bool.and_eq_true, Bool.or_eq_true, decide_eq_true_eq, next, burning, Bool.not_eq_true',
    decide_eq_false_iff_not, and_assoc]
  rfl

theorem endOutcome_bridge {v : Settings} {f : Finder} {lamp : LampState} {now : Nat} {r : Session}
    (ends : (∃ b, r.use = .booked b ∧ b.running = true) ∨ ∃ a e w, r.use = .walkup a e w)
    (called : BridgeCalledFor v f lamp) :
    endOutcome v f lamp now r = { use := .bridge now (f.nextStart.getD now), demand := true, requested := .eco } := by
  have decided := (bridges_iff v f lamp).mpr called
  rcases ends with ⟨b, use, running⟩ | ⟨a, e, w, use⟩
  · simp only [endOutcome, use, running, decided, Bool.and_self, if_true]
  · simp only [endOutcome, use, decided, if_true]

theorem endOutcome_idle {v : Settings} {f : Finder} {lamp : LampState} {now : Nat} {r : Session}
    (dark : ¬BridgeCalledFor v f lamp ∨ (∃ a e, r.use = .bridge a e) ∨ ∃ b, r.use = .booked b ∧ b.running = false) :
    endOutcome v f lamp now r = {} := by
  rcases endOutcome_cases v f lamp now r with idle | ⟨called, bridge⟩
  · exact idle
  · rcases dark with refused | ⟨a, e, use⟩ | ⟨b, use, unstarted⟩
    · exact (refused ((bridges_iff v f lamp).mp called)).elim
    · simp only [endOutcome, use]
      rfl
    · simp only [endOutcome, use, unstarted, Bool.false_and, Bool.false_eq_true, if_false]
      rfl

/-! ## The record after the end (R144) -/

theorem prewarm_live {r : Session} (live : r.use ≠ .none) (v : Settings) (table : List Entry) (f : Finder) :
    prewarm v table f r = r := by
  rcases prewarm_cases v table f r with same | ⟨-, -, none, -⟩
  · exact same
  · exact (live none).elim

/-- R148: a session ends in the pre-warm that is due, or in none. -/
theorem endedSession_of_prewarm {v : Settings} {f : Finder} {t : State} (session : t.session = prewarm v t.table f {}) :
    EndedSession v f t := by
  refine ⟨fun far => session.trans (prewarm_idle far), fun x e next near entry => ?_⟩
  rw [session, prewarm_due next near, bookingOf_entry entry]

/-! ## A runner event with nothing current -/

/-- A record that runs no booking is left as it is when the source is served. -/
theorem State.runner_session_unstarted {s : State} {ev : RunnerEvent} {r : Session} (run : runRecord s ev = (r, false))
    (unstarted : ∀ b, r.use = .booked b → b.running = false) : (s.runner ev).session = r := by
  have handed : ({ s with session := r }.handOver ev.quiet).session = r := (State.handOver_handed { s with session := r } _).2.2.2.2
  have served : ({ s with session := r }.handOver ev.quiet).serveSource false = { s with session := r }.handOver ev.quiet :=
    State.serveSource_unstarted (by rw [handed]; exact unstarted)
  simp only [State.runner, run, served, State.noticeSession, State.raiseIf_session, handed]

/-- R147: with nothing current no booking runs on. -/
theorem State.endedSession_unstarted {s : State} (current : s.finder.current = none) (ev : RunnerEvent) {b : Booking}
    (booked : (s.endedSession ev).use = .booked b) : b.running = false := by
  unfold State.endedSession at booked
  split at booked
  · rcases endOutcome_cases s.settings s.finder s.lamp.state s.clock.minuteCount (s.clampedSession ev) with idle | ⟨-, bridge⟩
    · rw [idle] at booked
      cases booked
    · rw [bridge] at booked
      cases booked
  · rename_i unmarked
    by_contra running
    exact unmarked (by simp [State.sessionEnding, booked, ending, running, current, Booking.isOf])

/-- R142: with nothing current a runner event leaves exactly this record. -/
theorem State.runner_dark {s : State} (current : s.finder.current = none) (ev : RunnerEvent) :
    (s.runner ev).session =
      (prewarm s.settings s.table s.finder (s.endedSession ev)).warned s.clock.minuteCount := by
  refine State.runner_session_unstarted (runRecord_dark current) fun b use => ?_
  have booked := warnWalkup_eq_booked_iff.mp use
  rcases prewarm_cases s.settings s.table s.finder (s.endedSession ev) with same | ⟨x, -, -, started⟩
  · rw [same] at booked
    exact State.endedSession_unstarted current ev booked
  · rw [started] at booked
    cases booked
    rfl

theorem Session.warned_prewarm_idle (v : Settings) (table : List Entry) (f : Finder) (now : Nat) :
    (prewarm v table f {}).warned now = prewarm v table f {} := by
  rcases prewarm_kinds v table f with none | ⟨b, booked⟩
  · exact Session.warned_of_none none now
  · exact Session.warned_of_booked booked now

/-- R148, R144: a session that ends in the dark leaves the pre-warm that is due, or none. -/
theorem State.runner_ended {s : State} (current : s.finder.current = none) {ev : RunnerEvent}
    (ended : s.endedSession ev = {}) :
    (s.runner ev).session = prewarm s.settings s.table s.finder {} := by
  rw [State.runner_dark current, ended, Session.warned_prewarm_idle]

theorem State.runner_endedSession {s : State} (current : s.finder.current = none) {ev : RunnerEvent}
    (ended : s.endedSession ev = {}) : EndedSession s.settings s.finder (s.runner ev) := by
  refine endedSession_of_prewarm ?_
  rw [State.runner_untouched s ev .table (by decide)]
  exact State.runner_ended current ended

/-- R142: a session that goes on in the dark, or the bridge it becomes, is left with its warning settled. -/
theorem State.runner_live {s : State} (current : s.finder.current = none) {ev : RunnerEvent} {r : Session}
    (ended : s.endedSession ev = r) (live : r.use ≠ .none) : (s.runner ev).session = r.warned s.clock.minuteCount := by
  rw [State.runner_dark current, ended, prewarm_live live]

theorem State.runner_bridged {s : State} (current : s.finder.current = none) {ev : RunnerEvent}
    (marked : s.sessionEnding ev = true)
    (ends : (∃ b, (s.clampedSession ev).use = .booked b ∧ b.running = true) ∨ ∃ a e w, (s.clampedSession ev).use = .walkup a e w)
    (called : BridgeCalledFor s.settings s.finder s.lamp.state) {x : Occurrence} (next : s.finder.next = some x) :
    (s.runner ev).session =
      { use := .bridge s.clock.minuteCount (x.date.number * 1440 + x.start), demand := true, requested := .eco } := by
  have ended : s.endedSession ev = { use := .bridge s.clock.minuteCount (x.date.number * 1440 + x.start), demand := true
                                     requested := .eco } := by
    rw [State.endedSession, if_pos marked, endOutcome_bridge ends called, Finder.nextStart, next]
    rfl
  rw [State.runner_live current ended nofun]
  rfl

theorem State.endedSession_idle {s : State} {ev : RunnerEvent} (marked : s.sessionEnding ev = true)
    (dark : ¬BridgeCalledFor s.settings s.finder s.lamp.state ∨ (∃ a e, (s.clampedSession ev).use = .bridge a e)
      ∨ ∃ b, (s.clampedSession ev).use = .booked b ∧ b.running = false) : s.endedSession ev = {} := by
  rw [State.endedSession, if_pos marked, endOutcome_idle dark]

/-! ## Clamped ends (R156) -/

/-- R156: a bound lowered to the start of the next occurrence. -/
theorem leastWith_nextStart (bound : Nat) (f : Finder) :
    leastWith bound f.nextStart = match f.next with
      | none => bound
      | some x => min bound (x.date.number * 1440 + x.start) := by
  unfold Finder.nextStart
  cases f.next <;> rfl

theorem State.clampedSession_walkup {s : State} {ev : RunnerEvent} (told : (ev.clockSet || ev.tableChange) = true) {a b : Nat}
    {w : Bool} (use : s.session.use = .walkup a b w) :
    (s.clampedSession ev).use =
      .walkup a (leastWith (min b (s.clock.minuteCount + 240)) s.finder.nextStart) w := by
  rw [State.clampedSession, use]
  exact if_pos told

theorem State.clampedSession_bridge {s : State} {ev : RunnerEvent} (told : (ev.clockSet || ev.tableChange) = true) {a b : Nat}
    (use : s.session.use = .bridge a b) :
    (s.clampedSession ev).use =
      .bridge a (leastWith (min b (s.clock.minuteCount + s.settings.bridgeMax)) s.finder.nextStart) := by
  rw [State.clampedSession, use]
  exact if_pos told

section
variable {s : State} {ev : RunnerEvent} (current : s.finder.current = none)
include current

/-- R147, R155: a walk-up, once clamped, goes on, becomes a bridge, or ends. -/
theorem State.runner_walkup {a stop : Nat} {w : Bool} (clamped : (s.clampedSession ev).use = .walkup a stop w) :
    (s.clock.minuteCount < stop → (s.runner ev).session =
        { s.clampedSession ev with use := .walkup a stop (decide (stop ≤ s.clock.minuteCount + 5)) })
    ∧ (stop ≤ s.clock.minuteCount → BridgeCalledFor s.settings s.finder s.lamp.state → ∀ x, s.finder.next = some x →
        (s.runner ev).session =
          { use := .bridge s.clock.minuteCount (x.date.number * 1440 + x.start), demand := true, requested := .eco })
    ∧ (stop ≤ s.clock.minuteCount → ¬BridgeCalledFor s.settings s.finder s.lamp.state →
        s.endedSession ev = {}) := by
  have marked : s.sessionEnding ev = decide (stop ≤ s.clock.minuteCount) := by rw [State.sessionEnding, clamped]; rfl
  refine ⟨fun goesOn => ?_, fun past called x next => ?_, fun past refused => ?_⟩
  · have ended : s.endedSession ev = s.clampedSession ev := if_neg (by rw [marked]; simpa using goesOn)
    rw [State.runner_live current ended (by rw [clamped]; nofun), Session.warned, clamped]
    rfl
  · exact State.runner_bridged current (by rw [marked]; simpa using past) (.inr ⟨a, stop, w, clamped⟩) called next
  · exact State.endedSession_idle (by rw [marked]; simpa using past) (.inl refused)

/-- R147, R150: a bridge, once clamped, goes on or lapses. -/
theorem State.runner_bridge {a stop : Nat} (clamped : (s.clampedSession ev).use = .bridge a stop) :
    (s.clock.minuteCount < stop → (s.runner ev).session.use = .bridge a stop)
    ∧ (stop ≤ s.clock.minuteCount → s.endedSession ev = {}) := by
  have marked : s.sessionEnding ev = decide (stop ≤ s.clock.minuteCount) := by rw [State.sessionEnding, clamped]; rfl
  refine ⟨fun goesOn => ?_, fun past => ?_⟩
  · have ended : s.endedSession ev = s.clampedSession ev := if_neg (by rw [marked]; simpa using goesOn)
    rw [State.runner_live current ended (by rw [clamped]; nofun), Session.warned, clamped]
    rfl
  · exact State.endedSession_idle (by rw [marked]; simpa using past) (.inr (.inl ⟨a, stop, clamped⟩))

end

/-- R156 with R147 to R150: a clock set or a table change, as the runner takes it. -/
theorem State.runner_endClamped {s : State} {ev : RunnerEvent} (told : (ev.clockSet || ev.tableChange) = true) :
    EndClamped s.clock.minuteCount s (s.runner ev) := by
  have finder : (s.runner ev).finder = s.finder := State.runner_untouched s ev .finder (by decide)
  unfold EndClamped
  dsimp only
  rw [finder]
  intro current
  refine ⟨fun a b w use => ?_, fun a b use => ?_⟩
  · obtain ⟨goesOn, bridged, ended⟩ := State.runner_walkup current (State.clampedSession_walkup told use)
    rw [leastWith_nextStart] at goesOn bridged ended
    exact ⟨fun ahead => congrArg Session.use (goesOn ahead), bridged,
      fun past refused => State.runner_endedSession current (ended past refused)⟩
  · obtain ⟨goesOn, ended⟩ := State.runner_bridge current (State.clampedSession_bridge told use)
    rw [leastWith_nextStart] at goesOn ended
    exact ⟨goesOn, fun past => State.runner_endedSession current (ended past)⟩

/-- A clamped end is told by the session, the settings and the lamp before the event. -/
theorem EndClamped.congr {now : Nat} {s t u : State} (h : EndClamped now s u) (session : t.session = s.session)
    (settings : t.settings = s.settings) (lamp : t.lamp.state = s.lamp.state) : EndClamped now t u := by
  unfold EndClamped
  rw [session, settings, lamp]
  exact h

end Sys2Proof.Machine
end

section
/-! CLOCK_SET (R124, R135, R156). -/

namespace Sys2Proof.Machine

open Sys2Proof.Config

/-! ## The set clock -/

/-- R124: the clock that CLOCK_SET sets, for a date and a time of the calendar. -/
theorem clockSetTo_good {c : Clock} {now : Nat} {d : RawDate} {hour minute : Byte} (date : (dateOfRaw d).valid = true)
    (hours : hour.toNat ≤ 23) (minutes : minute.toNat ≤ 59) : clockSetTo c now d hour minute = some { c with
      date := dateOfRaw d, hour := hour.toNat, minute := minute.toNat, second := 0, unset := false, secondStart := now } := by
  simp only [clockSetTo, date, hours, minutes, decide_true, Bool.and_self, if_true]

theorem clockSetTo_refused {c : Clock} {now : Nat} {d : RawDate} {hour minute : Byte}
    (bad : ¬((dateOfRaw d).valid = true ∧ hour.toNat ≤ 23 ∧ minute.toNat ≤ 59)) : clockSetTo c now d hour minute = none := by
  simp only [clockSetTo]
  exact if_neg (by simpa [and_assoc] using bad)

theorem byte_toNat_self (b : Byte) : byte b.toNat = b := BitVec.ofNat_toNat 8 b |>.trans (BitVec.setWidth_eq b)

/-- R135: an item of the finder that changes raises SCHEDULE. -/
theorem State.recompute_raises {s : State} (changed : (s.recompute false).finder.current ≠ s.finder.current
      ∨ (s.recompute false).finder.next ≠ s.finder.next) : Pending .schedule (s.recompute false) := by
  rw [State.recompute_finder] at changed
  refine Pending.of_raiseIf ?_ _
  simpa using changed

/-- R124, R156: what setting the clock leaves. -/
theorem State.setClock_spec (s : State) (c : Clock) :
    let u := s.setClock c
    u.clock = c ∧ u.finder = found s.table c ∧ Pending .clock u
      ∧ (u.finder.current ≠ s.finder.current ∨ u.finder.next ≠ s.finder.next → Pending .schedule u)
      ∧ EndClamped c.minuteCount s u := by
  intro u
  obtain ⟨v, hv⟩ : ∃ v : State, v = ({ s with clock := c }.raise .clock).recompute false := ⟨_, rfl⟩
  have runs : u = v.runner { clockSet := true } := by rw [hv]; rfl
  have frame := v.runner_untouched { clockSet := true }
  have clockThere : v.clock = c := by rw [hv, State.recompute_clock, State.raise_clock]
  have finderThere : v.finder = found s.table c := by
    rw [hv, State.recompute_finder, State.raise_table, State.raise_clock]
  have finder : u.finder = v.finder := by rw [runs]; exact frame .finder (by decide)
  have pending : Pending .clock v := by
    rw [hv]
    exact State.recompute_keeps _ _ _ (Pending.of_raise _ _)
  refine ⟨?_, finder.trans finderThere, ?_, fun changed => ?_, ?_⟩
  · rw [runs, frame .clock (by decide), clockThere]
  · rw [runs]
    exact State.runner_keeps _ _ _ pending
  · rw [runs]
    refine State.runner_keeps _ _ _ ?_
    rw [finder] at changed
    rw [hv] at changed ⊢
    exact State.recompute_raises changed
  · have clamped := State.runner_endClamped (s := v) (ev := { clockSet := true }) rfl
    rw [runs, ← clockThere]
    refine clamped.congr ?_ ?_ ?_
    · rw [hv, State.recompute_session, State.raise_session]
    · rw [hv, State.recompute_settings, State.raise_settings]
    · rw [hv, State.recompute_lamp, State.raise_lamp]

theorem exec_clockSet {l : Link} {d : RawDate} {hour minute : Byte} {s : State} (h : Admitted .clockSet l s) :
    let a := ownClockSet d hour minute (s.hearing (.clockSet l d hour minute))
    exec (.clockSet l d hour minute) s = answered .clockSet l a.state a.status a.payload := by
  have fields : ownerOf .clockSet l (payloadOf (.clockSet l d hour minute)) = some (ownClockSet d hour minute) :=
    congrArg (fun y => some (ownClockSet ⟨y, d.month, d.day⟩ hour minute)) (wordBytes_joined d.year)
  exact exec_admitted (i := .clockSet l d hour minute) rfl h (Nat.le_of_ble_eq_true rfl) fields

/-- Settles O43: the checks on date and time, then the runner event of a clock set. -/
theorem clockSetSetsTheClock : Obligations.ClockSetSetsTheClock := by
  intro l d hour minute s admitted date good
  have taken := exec_clockSet (d := d) (hour := hour) (minute := minute) admitted
  have valid : good ↔ (dateOfRaw d).valid = true ∧ hour.toNat ≤ 23 ∧ minute.toNat ≤ 59 := by
    have dated := Date.valid_iff d.year.toNat d.month.toNat d.day.toNat
    rw [show dateOfRaw d = date from rfl, dated]
    simp only [good, date, and_assoc]
  refine ⟨fun bad => ?_, fun isGood => ?_⟩
  · rw [taken]
    have refused := clockSetTo_refused (c := (s.hearing (.clockSet l d hour minute)).clock)
      (now := (s.hearing (.clockSet l d hour minute)).now) (fun h => bad (valid.mpr h))
    simp only [ownClockSet, refused]
  · obtain ⟨dateGood, hours, minutes⟩ := valid.mp isGood
    obtain ⟨session, clock, finder, table⟩ := s.hearing_roomBlocks (.clockSet l d hour minute)
    obtain ⟨lamp, -, settings, now, -, -⟩ := s.hearing_lampBlocks (.clockSet l d hour minute)
    obtain ⟨c, isClock⟩ : ∃ c : Clock, c = { s.clock with
      date := date, hour := hour.toNat, minute := minute.toNat, second := 0, unset := false, secondStart := s.now } := ⟨_, rfl⟩
    have set : clockSetTo (s.hearing (.clockSet l d hour minute)).clock (s.hearing (.clockSet l d hour minute)).now d hour
        minute = some c := by
      rw [clock, now, clockSetTo_good dateGood hours minutes, isClock]
      rfl
    have answer : ownClockSet d hour minute (s.hearing (.clockSet l d hour minute)) =
        ⟨(s.hearing (.clockSet l d hour minute)).setClock c, .ok,
          clockBytes ((s.hearing (.clockSet l d hour minute)).setClock c).clock⟩ := by
      simp only [ownClockSet, set]
      rfl
    obtain ⟨clockSet, computed, pending, raises, clamped⟩ := (s.hearing (.clockSet l d hour minute)).setClock_spec c
    rw [answer] at taken
    refine ⟨(s.hearing (.clockSet l d hour minute)).setClock c, ?_, clockSet.trans isClock, ?_, pending, ?_, ?_,
      State.setClock_untouched _ _⟩
    · rw [taken, clockSet, isClock]
      simp only [clockBytes, dateBytes, byte_toNat_self]
      rfl
    · rw [computed, clockSet, table]
    · rwa [finder] at raises
    · rw [clockSet]
      exact clamped.congr session.symm settings.symm (by rw [lamp])

end Sys2Proof.Machine
end

section
/-! What a runner event does to the store, and the queueing of SCHEDULE by a change of the table (R130, R131, R178, R179). -/

namespace Sys2Proof.Machine

open Sys2Proof.Config

/-! ## The store as the session controller hands over (R15, R143) -/

/-- R15: the store is as it was, or the end of a burn has queued the account. -/
def StoreKept (s t : State) : Prop :=
  t.store = s.store
    ∨ (∃ v : State, v.store = s.store ∧ t.store = (v.queueKind .account).store)
        ∧ (∃ p, t.lamp.state = .cooling p) ∧ ∀ p, s.lamp.state ≠ .cooling p

theorem State.extinguish_cooling (s : State) (outage : Bool) : (s.extinguish outage).lamp.state = .cooling s.lamp.demand := by
  rw [State.extinguish_lamp]

/-- R15, R22: a burn that demand puts out queues the account. -/
theorem State.setDemand_storeKept_of_burning {s : State} (burns : s.lamp.state.burning = true) (on : Bool) :
    StoreKept s (s.setDemand on) := by
  by_cases same : s.lamp.demand = on
  · rw [State.setDemand_same same]
    exact .inl rfl
  · cases on with
    | true =>
      refine .inl ?_
      simp only [State.setDemand, if_neg same]
      split <;> simp_all [LampState.burning]
    | false =>
      rw [State.setDemand_extinguishes same burns]
      refine .inr ⟨⟨_, ?_, State.extinguish_store _ _⟩, ⟨_, State.extinguish_cooling _ _⟩, fun p cooling => ?_⟩
      · rfl
      · rw [cooling] at burns
        cases burns

/-- R22: a change of demand queues the account when it puts out a lamp that burns. -/
theorem State.setDemand_storeKept (s : State) (on : Bool) : StoreKept s (s.setDemand on) := by
  by_cases same : s.lamp.demand = on
  · rw [State.setDemand_same same]
    exact .inl rfl
  · cases state : s.lamp.state with
    | off b =>
      cases on
      · rw [State.setDemand_rests same state]
        exact .inl (State.settleLamp_store _ _)
      · rw [State.setDemand_strikes same state]
        exact .inl (State.strikeOrHold_untouched _ .store (by decide))
    | cooling p =>
      rw [State.setDemand_cooling same state]
      exact .inl (State.settleLamp_store _ _)
    | failed =>
      cases on
      · rw [State.setDemand_failed same state]
        exact .inl (State.settleLamp_store _ _)
      · refine .inl ?_
        simp only [State.setDemand, if_neg same, state]
    | striking | warming | lit => exact State.setDemand_storeKept_of_burning (by rw [state]; rfl) on

/-- R33: a lamp that cools is not touched by a new level. -/
theorem State.setBase_cooling {s : State} {p : Bool} (cooling : s.lamp.state = .cooling p) (level : Level) (q : Bool) :
    (s.setBase level q).lamp.state = .cooling p := by
  rw [State.setBase, State.deriveEffective]
  split
  · exact cooling
  · rw [State.recheckStrike_idle]
    · simpa using cooling
    · intro b off
      simp only [State.raiseIf_lamp, cooling] at off
      cases off

theorem State.setRequested_state (s : State) (level : LampLevel) :
    (s.setRequested level).lamp.state = s.lamp.state := by
  unfold State.setRequested
  split
  · rfl
  · rw [State.settleLamp_lamp]

theorem State.handOver_storeKept (s : State) (q : Bool) : StoreKept s (s.handOver q) := by
  obtain ⟨v, hv⟩ : ∃ v, v = (s.setBase s.baseLevel q).setRequested s.session.requested := ⟨_, rfl⟩
  have before : Untouched (policyBlocks ++ ballastBlocks) s v := by
    rw [hv]
    exact (s.setBase_untouched _ _).andThen (State.setRequested_untouched _ _) rfl rfl
  have cools : ∀ p, s.lamp.state = .cooling p → v.lamp.state = .cooling p := fun p cooling => by
    rw [hv, State.setRequested_state]
    exact State.setBase_cooling cooling _ _
  have after := (v.setDemand s.session.demand).setBridgeMute_untouched s.session.use.bridgeMute
  have handed : s.handOver q = (v.setDemand s.session.demand).setBridgeMute s.session.use.bridgeMute := by rw [hv]; rfl
  have store : v.store = s.store := before .store (by decide)
  have lamp : (s.handOver q).lamp = (v.setDemand s.session.demand).lamp := by rw [handed]; exact after .lamp (by decide)
  have kept : (s.handOver q).store = (v.setDemand s.session.demand).store := by rw [handed]; exact after .store (by decide)
  unfold StoreKept
  rw [lamp, kept, ← store]
  rcases v.setDemand_storeKept s.session.demand with same | ⟨queued, cooling, fresh⟩
  · exact .inl same
  · exact .inr ⟨queued, cooling, fun p was => fresh p (cools p was)⟩

/-- R143: so does every runner event. -/
theorem State.runner_storeKept (s : State) (ev : RunnerEvent) : StoreKept s (s.runner ev) := by
  obtain ⟨v, hv⟩ : ∃ v, v = { s with session := (runRecord s ev).1 }.handOver ev.quiet := ⟨_, rfl⟩
  have handed : StoreKept s v := by
    rw [hv]
    exact State.handOver_storeKept { s with session := (runRecord s ev).1 } ev.quiet
  have served := v.serveSource_untouched (runRecord s ev).2
  have store : (s.runner ev).store = v.store := by
    rw [hv] at served ⊢
    exact (State.raiseIf_store _ _ _).trans (served .store (by decide))
  have lamp : (s.runner ev).lamp = v.lamp := by
    rw [hv] at served ⊢
    exact (State.raiseIf_lamp _ _ _).trans (served .lamp (by decide))
  unfold StoreKept at handed ⊢
  rwa [store, lamp]

/-- A write in flight goes on, and what waits stays in the queue. -/
theorem StoreKept.busy {s t : State} (h : StoreKept s t) {w : Write} (writing : s.store.write = some w) :
    t.store.write = some w ∧ ∀ k ∈ s.store.queue, k ∈ t.store.queue := by
  rcases h with same | ⟨⟨v, store, queued⟩, -⟩
  · rw [same]
    exact ⟨writing, fun _ h => h⟩
  · rw [queued, State.queueKind_busy (by rw [store]; exact writing), store]
    refine ⟨writing, fun k waits => ?_⟩
    show k ∈ enqueue s.store.queue .account
    unfold enqueue
    split
    · exact waits
    · exact List.mem_append_left _ waits

/-- Where the lamp's state stays, the store does. -/
theorem StoreKept.same {s t : State} (h : StoreKept s t) (state : t.lamp.state = s.lamp.state) : t.store = s.store := by
  rcases h with same | ⟨-, ⟨p, cooling⟩, fresh⟩
  · exact same
  · exact (fresh p (state ▸ cooling)).elim

/-! ## A change of the table (R130, R131) -/

theorem mem_enqueue (q : List Kind) (k : Kind) : k ∈ enqueue q k := by
  unfold enqueue
  split
  · rename_i waits
    simpa using waits
  · simp

/-- The state with the new table in it, SCHEDULE raised and its record queued. -/
def State.tableQueued (s : State) (table : List Entry) : State := ({ s with table := table }.raise .schedule).queueKind .schedule

theorem State.tableQueued_queued (s : State) (table : List Entry) :
    Queued .schedule (.schedule (table.map Entry.raw)) s (s.tableQueued table) := by
  have queued := State.queueKind_queued ({ s with table := table }.raise .schedule) .schedule
  exact queued.congr rfl rfl rfl rfl

theorem State.tableQueued_untouched (s : State) (table : List Entry) :
    Untouched [.table, .store, .notice .schedule, .attention] s (s.tableQueued table) :=
  ((s.table_update_untouched table).andThen (State.raise_untouched _ _) (C := [.table, .notice .schedule, .attention])
    rfl rfl).andThen (State.queueKind_untouched _ _) rfl rfl

/-- R178, R179: the change of the table queues SCHEDULE, and the runner's event leaves it there. -/
theorem State.changeTable_scheduleQueued (s : State) (table : List Entry) (replaced : Option Nat) :
    ScheduleQueued s (s.changeTable table replaced) := by
  obtain ⟨v, hv⟩ : ∃ v, v = (s.tableQueued table).recompute false := ⟨_, rfl⟩
  have kept : StoreKept v (s.changeTable table replaced) := by
    rw [hv]
    exact State.runner_storeKept _ _
  have store : v.store = (s.tableQueued table).store := by rw [hv, State.recompute_store]
  have lamp : v.lamp = s.lamp := by
    rw [hv, State.recompute_lamp]
    exact s.tableQueued_untouched table .lamp (by decide)
  have queued := s.tableQueued_queued table
  rw [ScheduleQueued, State.changeTable_table]
  refine ⟨fun w writing => ?_, fun up idle empty => ?_, fun state => ?_⟩
  · have behind := queued.1 (by rw [writing]; rfl)
    obtain ⟨write, waits⟩ := kept.busy (w := w) (by rw [store, behind]; exact writing)
    refine ⟨write, waits _ ?_⟩
    rw [store, behind]
    exact mem_enqueue _ _
  · exact (kept.busy (by rw [store, queued.2 up idle empty])).1
  · exact queued.congr rfl rfl rfl ((kept.same (by rw [state, lamp])).trans store)

/-- R130, R131, R135, R156: what a change of the table leaves. -/
theorem State.changeTable_spec (s : State) (table : List Entry) (replaced : Option Nat) :
    let u := s.changeTable table replaced
    EndClamped s.clock.minuteCount s u ∧ u.table = table ∧ u.finder = found table s.clock ∧ Pending .schedule u
      ∧ ScheduleQueued s u := by
  intro u
  obtain ⟨v, hv⟩ : ∃ v, v = (s.tableQueued table).recompute false := ⟨_, rfl⟩
  have runs : u = v.runner { tableChange := true, replaced := replaced } := by rw [hv]; rfl
  have frame := v.runner_untouched { tableChange := true, replaced := replaced }
  have before := s.tableQueued_untouched table
  have clock : v.clock = s.clock := by rw [hv, State.recompute_clock]; exact before .clock (by decide)
  have tableThere : (s.tableQueued table).table = table := by rw [State.tableQueued, State.queueKind_table, State.raise_table]
  have finder : v.finder = found table s.clock := by
    rw [hv, State.recompute_finder, tableThere, before .clock (by decide)]
  have pending : Pending .schedule v := by
    rw [hv]
    exact State.recompute_keeps _ _ _ (State.queueKind_keeps _ _ _ (Pending.of_raise _ _))
  refine ⟨?_, s.changeTable_table table replaced, ?_, ?_, s.changeTable_scheduleQueued table replaced⟩
  · have clamped := State.runner_endClamped (s := v) (ev := { tableChange := true, replaced := replaced }) rfl
    rw [runs, ← clock]
    refine clamped.congr ?_ ?_ ?_
    · rw [hv, State.recompute_session]
      exact (before .session (by decide)).symm
    · rw [hv, State.recompute_settings]
      exact (before .settings (by decide)).symm
    · rw [hv, State.recompute_lamp]
      exact congrArg Lamp.state (before .lamp (by decide)).symm
  · rw [runs, frame .finder (by decide), finder]
  · rw [runs]
    exact State.runner_keeps _ _ _ pending

/-- What a change of the table leaves, told from before the frame of the request was heard. -/
theorem State.changeTable_hearing (s : State) (i : Instr) (table : List Entry) (replaced : Option Nat) :
    let u := (s.hearing i).changeTable table replaced
    EndClamped s.clock.minuteCount s u ∧ u.table = table ∧ u.finder = found table s.clock ∧ Pending .schedule u
      ∧ ScheduleQueued s u ∧ Untouched (.table :: .finder :: .notice .schedule :: runnerBlocks) (s.hearing i) u := by
  intro u
  obtain ⟨clamped, tableNow, finder, pending, queued⟩ := (s.hearing i).changeTable_spec table replaced
  obtain ⟨session, clock, -, -⟩ := s.hearing_roomBlocks i
  obtain ⟨lamp, -, settings, now, -, -⟩ := s.hearing_lampBlocks i
  have store : (s.hearing i).store = s.store := s.hearing_untouched i .store (by decide)
  have up : (s.hearing i).startUpDone = s.startUpDone := s.hearing_untouched i .startUp (by decide)
  rw [clock] at clamped finder
  refine ⟨clamped.congr session.symm settings.symm (by rw [lamp]), tableNow, finder, pending, ?_,
    State.changeTable_untouched _ _ _⟩
  unfold ScheduleQueued at queued ⊢
  rw [store, up, now, lamp] at queued
  exact ⟨queued.1, queued.2.1, fun state => (queued.2.2 state).of_hearing⟩

/-! ## ENTRY_DELETE and SCHEDULE_CLEAR (R131) -/

/-- Settles O45: a removal is a change of the table. -/
theorem entriesAreDeletedAndCleared : Obligations.EntriesAreDeletedAndCleared := by
  intro l id s leaves
  refine ⟨fun admitted => ?_, fun admitted => ?_⟩
  · have taken := exec_admitted (i := .entryDelete l id) rfl admitted (Nat.le_of_ble_eq_true rfl)
      (own := ownEntryDelete id) rfl
    have table : (s.hearing (.entryDelete l id)).table = s.table := s.hearing_untouched _ .table (by decide)
    refine ⟨fun absent => ?_, fun ⟨e, member, named⟩ => ?_⟩
    · have none : entryOf s.table id.toNat = none := List.find?_eq_none.mpr (by simpa using absent)
      rw [taken]
      simp only [ownEntryDelete, table, none, Option.isSome_none, Bool.false_eq_true, if_false]
    · have held : (entryOf s.table id.toNat).isSome = true := List.find?_isSome.mpr ⟨e, member, by simpa using named⟩
      refine ⟨(s.hearing (.entryDelete l id)).changeTable (s.table.filter fun e => e.id != id.toNat) none, ?_,
        s.changeTable_hearing _ _ _⟩
      rw [taken]
      simp only [ownEntryDelete, table, held, if_true]
  · have taken := exec_admitted (i := .scheduleClear l) rfl admitted (Nat.zero_le _) (own := ownScheduleClear) rfl
    have table : (s.hearing (.scheduleClear l)).table = s.table := s.hearing_untouched _ .table (by decide)
    refine ⟨fun empty => ?_, fun some => ?_⟩
    · rw [taken]
      simp only [ownScheduleClear, table, empty, if_true]
    · refine ⟨(s.hearing (.scheduleClear l)).changeTable [] none, ?_, s.changeTable_hearing _ _ _⟩
      rw [taken]
      simp only [ownScheduleClear, table, some, if_false]

end Sys2Proof.Machine
end

section
/-! ENTRY_PUT (R128 to R130). -/

namespace Sys2Proof.Machine

open Sys2Proof.Config

/-! ## The payload as it is decoded (R187) -/

theorem rawDateOf_bytes (d : RawDate) :
    rawDateOf (d.year.extractLsb' 8 8) (d.year.extractLsb' 0 8) d.month d.day = d := by
  rw [rawDateOf, wordBytes_joined]

/-- R187: the fields of a sendable ENTRY_PUT are decoded as they were sent. -/
theorem rawEntryOf_entryPayload {raw : RawEntry} (label : raw.label.length < 256) :
    rawEntryOf (entryPayload raw) = some raw := by
  have named : raw.label.length = (byte raw.label.length).toNat := (byte_toNat label).symm
  refine (if_pos named).trans ?_
  simp only [rawDateOf_bytes, wordBytes_joined]
  rfl

theorem exec_entryPut {l : Link} {raw : RawEntry} {s : State} (sendable : (Instr.entryPut l raw).wellFormed = true)
    (h : Admitted .entryPut l s) :
    let a := ownEntryPut raw (s.hearing (.entryPut l raw))
    exec (.entryPut l raw) s = answered .entryPut l a.state a.status a.payload := by
  have label : raw.label.length ≤ 36 := of_decide_eq_true sendable
  have fields : ownerOf .entryPut l (payloadOf (.entryPut l raw)) = some (ownEntryPut raw) :=
    (congrArg (Option.map ownEntryPut) (rawEntryOf_entryPayload (raw := raw) (by omega)) :)
  exact exec_admitted (i := .entryPut l raw) rfl h (payloadOf_sendable sendable) fields

/-! ## What an owner of ENTRY_PUT answers (R128 to R130) -/

theorem mem_conflictsWith {table : List Entry} {e x : Entry} :
    x ∈ conflictsWith table e ↔ x ∈ table ∧ x.id ≠ e.id ∧ e.conflicts x = true := by
  simp [conflictsWith]

/-- R130: of the entries in conflict the first in the table has the lowest id. -/
theorem conflictsWith_lowest {table : List Entry} (ascending : Ascending table) {e x : Entry}
    (clash : x ∈ conflictsWith table e) (lowest : ∀ y ∈ conflictsWith table e, x.id ≤ y.id) :
    ∃ rest, (conflictsWith table e).map Entry.id = x.id :: rest := by
  have sorted : Ascending (conflictsWith table e) := List.Pairwise.filter _ ascending
  cases listed : conflictsWith table e with
  | nil =>
    rw [listed] at clash
    cases clash
  | cons y rest =>
    rw [listed] at clash lowest sorted
    have least := lowest y (List.mem_cons_self ..)
    have first : y.id = x.id := by
      rcases List.mem_cons.mp clash with rfl | later
      · rfl
      · have before := (List.pairwise_cons.mp sorted).1 x later
        omega
    exact ⟨rest.map Entry.id, by rw [List.map_cons, first]⟩

theorem putEntry_conflict {s : State} {e x : Entry} {rest : List Nat}
    (clash : (conflictsWith s.table e).map Entry.id = x.id :: rest) : s.putEntry e = ⟨s, .conflict, [byte x.id]⟩ := by
  simp only [State.putEntry, clash]

theorem putEntry_full {s : State} {e : Entry} (free : conflictsWith s.table e = []) (new : (entryOf s.table e.id).isSome = false)
    (full : 32 ≤ s.table.length) : s.putEntry e = ⟨s, .tableFull, []⟩ := by
  simp only [State.putEntry, free, List.map_nil, new]
  refine if_pos ?_
  rw [Bool.not_false, Bool.true_and, decide_eq_true_iff]
  exact full

/-- R130: the id that an ENTRY_PUT replaces. -/
def replacedBy (table : List Entry) (e : Entry) : Option Nat := if (entryOf table e.id).isSome then some e.id else none

theorem putEntry_taken {s : State} {e : Entry} (free : conflictsWith s.table e = [])
    (room : (entryOf s.table e.id).isSome = true ∨ s.table.length < 32) :
    s.putEntry e = ⟨s.changeTable (insertEntry e s.table) (replacedBy s.table e), .ok, [byte (insertEntry e s.table).length]⟩ := by
  simp only [State.putEntry, free, List.map_nil]
  refine if_neg ?_
  rw [Bool.and_eq_true, decide_eq_true_iff]
  rintro ⟨new, full⟩
  rcases room with held | room
  · rw [held] at new
    cases new
  · exact Nat.not_lt_of_le full room

theorem ownEntryPut_put {raw : RawEntry} {e : Entry} (decoded : entryOfRaw raw = some e) (valid : e.valid = true) (s : State) :
    ownEntryPut raw s = s.putEntry e := by
  simp only [ownEntryPut, decoded, valid, if_true]

theorem ownEntryPut_refused {raw : RawEntry} (bad : ∀ e, entryOfRaw raw = some e → e.valid = false) (s : State) :
    ownEntryPut raw s = ⟨s, .badArgument, []⟩ := by
  unfold ownEntryPut
  cases decoded : entryOfRaw raw with
  | none => rfl
  | some e => simp only [bad e decoded, Bool.false_eq_true, if_false]

theorem insertEntry_length_new {e : Entry} {t : List Entry} (new : ∀ x ∈ t, x.id ≠ e.id) :
    (insertEntry e t).length = t.length + 1 := by
  induction t with
  | nil => rfl
  | cons y rest ih =>
    obtain ⟨other, later⟩ := List.forall_mem_cons.mp new
    unfold insertEntry
    split
    · rfl
    · split
      · rename_i same
        exact (other same.symm).elim
      · rw [List.length_cons, ih later, List.length_cons]

theorem entryOf_isSome_iff (table : List Entry) (id : Nat) : (entryOf table id).isSome = true ↔ ∃ x ∈ table, x.id = id := by
  simp [entryOf]

/-- Settles O44: the refusals in their order, then a change of the table. -/
theorem entryPutAddsOrReplacesAnEntry : Obligations.EntryPutAddsOrReplacesAnEntry := by
  intro l raw s sendable admitted
  have taken := exec_entryPut sendable admitted
  have table : (s.hearing (.entryPut l raw)).table = s.table := s.hearing_untouched _ .table (by decide)
  refine ⟨fun bad => by rw [taken, ownEntryPut_refused bad], ?_⟩
  intro e decoded valid ascending held clash
  refine ⟨fun x clashes lowest => ?_, fun free new full => ?_, fun free room => ?_⟩
  · obtain ⟨rest, first⟩ := conflictsWith_lowest ascending (mem_conflictsWith.mpr clashes)
      fun y hy => lowest y (mem_conflictsWith.mp hy)
    rw [← table] at first
    rw [taken, ownEntryPut_put decoded valid, putEntry_conflict first]
  · have none : conflictsWith s.table e = [] :=
      List.eq_nil_iff_forall_not_mem.mpr fun x hx => free x (mem_conflictsWith.mp hx)
    have absent : (entryOf s.table e.id).isSome = false := by
      rw [← Bool.not_eq_true, entryOf_isSome_iff]
      exact new
    rw [← table] at none absent full
    rw [taken, ownEntryPut_put decoded valid, putEntry_full none absent full]
  · have none : conflictsWith s.table e = [] :=
      List.eq_nil_iff_forall_not_mem.mpr fun x hx => free x (mem_conflictsWith.mp hx)
    have found := entryOf_isSome_iff s.table e.id
    have fits : (entryOf s.table e.id).isSome = true ∨ s.table.length < 32 := room.imp_left found.mpr
    obtain ⟨clamped, tableNow, finder, pending, queued, frame⟩ := s.changeTable_hearing (.entryPut l raw)
      (insertEntry e s.table) (replacedBy s.table e)
    refine ⟨(s.hearing (.entryPut l raw)).changeTable (insertEntry e s.table) (replacedBy s.table e), ?_, ?_, ?_, fun h => ?_,
      fun h => ?_, ?_, pending, queued, clamped, frame⟩
    · rw [← table] at none fits
      rw [taken, ownEntryPut_put decoded valid, putEntry_taken none fits, table, tableNow]
    · rw [tableNow]
      exact fun x => mem_insertEntry ascending
    · rw [tableNow]
      exact insertEntry_ascending ascending
    · rw [tableNow]
      exact insertEntry_length_held ascending (found.mpr h)
    · rw [tableNow]
      exact insertEntry_length_new fun x hx same => h ⟨x, hx, same⟩
    · rw [finder, tableNow]

end Sys2Proof.Machine
end

section
/-! The booked start and its source, as a runner event makes it (R142, R143, R145, R146). -/

namespace Sys2Proof.Machine

open Sys2Proof.Config

/-! ## The source of a booking (R146) -/

/-- R143: of the switch sequencer the session controller hands over bridge mute alone. -/
theorem State.handOver_switch (s : State) (q : Bool) :
    (s.handOver q).switch = { s.switch with bridgeMute := s.session.use.bridgeMute } := by
  have before : (((s.setBase s.baseLevel q).setRequested s.session.requested).setDemand s.session.demand).switch = s.switch :=
    (State.setDemand_untouched _ _ .switch (by decide)).trans
      ((State.setRequested_untouched _ _ .switch (by decide)).trans (State.setBase_untouched _ _ _ .switch (by decide)))
  rw [State.handOver, State.setBridgeMute, State.settleMute_switch, before]

/-- R146: after an issue what stays owed is told by the target. -/
theorem State.issueSource_owed (s : State) (plate : Nat) :
    (s.issueSource plate).switch = (s.requestSwitch plate .schedule).1.switch
      ∧ (s.issueSource plate).session = s.session.owing
          (if (s.issueSource plate).switch.target = plate then none else some (s.issueSource plate).switch.target) := by
  have switch : (s.issueSource plate).switch = (s.requestSwitch plate .schedule).1.switch := State.setOwed_switch _ _
  refine ⟨switch, ?_⟩
  rw [switch]
  have session : (s.requestSwitch plate .schedule).1.session = s.session := s.requestSwitch_untouched _ _ .session (by decide)
  rw [State.issueSource, State.setOwed_session, session]

/-- R146: what serving the source of a booked start leaves owed. -/
theorem State.serveSource_start {s : State} {b : Booking} (use : s.session.use = .booked b) (unowed : b.owed = none) :
    ∃ owed, (s.serveSource true).session = s.session.owing owed
      ∧ (entrySource s.table b.id = 0 → owed = none ∧ (s.serveSource true).switch = s.switch)
      ∧ (entrySource s.table b.id ≠ 0 → owed = if (s.serveSource true).switch.target = entrySource s.table b.id then none
          else some (s.serveSource true).switch.target) := by
  by_cases unnamed : entrySource s.table b.id = 0
  · have same : s.serveSource true = s := by simp only [State.serveSource, use, if_true, if_pos unnamed]
    rw [same]
    refine ⟨none, ?_, fun _ => ⟨rfl, rfl⟩, fun named => (named unnamed).elim⟩
    rw [Session.owing, use]
    dsimp only
    rw [← unowed, ← use]
  · have issued : s.serveSource true = s.issueSource (entrySource s.table b.id) := by
      simp only [State.serveSource, use, if_true, if_neg unnamed]
    rw [issued]
    exact ⟨_, (s.issueSource_owed _).2, fun named => (unnamed named).elim, fun _ => rfl⟩

/-! ## The booked start (R145) -/

/-- The state in which the runner serves the source. -/
def State.served (s : State) (ev : RunnerEvent) : State := { s with session := (runRecord s ev).1 }.handOver ev.quiet

theorem State.served_untouched (s : State) (ev : RunnerEvent) : Untouched (.session :: handOverBlocks) s (s.served ev) :=
  (s.session_update_untouched _).andThen (State.handOver_untouched _ _) rfl rfl

theorem State.served_session (s : State) (ev : RunnerEvent) : (s.served ev).session = (runRecord s ev).1 :=
  (State.handOver_handed { s with session := (runRecord s ev).1 } ev.quiet).2.2.2.2

theorem State.served_switch (s : State) (ev : RunnerEvent) :
    (s.served ev).switch = { s.switch with bridgeMute := (runRecord s ev).1.use.bridgeMute } :=
  State.handOver_switch _ _

/-- R143, R146: the notice aside, a runner event ends with the source served. -/
theorem State.runner_served (s : State) (ev : RunnerEvent) :
    (s.runner ev).session = ((s.served ev).serveSource (runRecord s ev).2).session
      ∧ (s.runner ev).switch = ((s.served ev).serveSource (runRecord s ev).2).switch :=
  ⟨State.raiseIf_session _ _ _, State.raiseIf_switch _ _ _⟩

/-- R143, R145: a record of a booked start, with the values handed over, is what the statements tell of it. -/
theorem startedFor_of_handedOver {s t : State} {c : Occurrence} {e : Entry} {terms : Terms} {demand : Bool}
    {owed : Option Nat} (handed : t.handedOver) (entry : entryOf t.table c.id = some e) (fields : e.terms = some terms)
    (session : t.session = Session.owing ⟨.booked (bookingOf t.table c true), demand, entryLamp t.table c.id⟩ owed)
    (unnamed : terms.source = 0 → owed = none ∧ t.switch.target = s.switch.target)
    (named : terms.source ≠ 0 → owed = if t.switch.target = terms.source then none else some t.switch.target) :
    StartedFor c e terms demand s t := by
  obtain ⟨-, base, requested, lampDemand, mute⟩ := (State.handedOver_iff t).mp handed
  rw [bookingOf_entry entry, entryLamp_entry entry fields, Session.owing] at session
  have level : t.baseLevel = terms.level := by
    simp only [State.baseLevel, session, if_true, entryLevel_entry entry fields]
  rw [level] at base
  rw [session] at requested lampDemand mute
  refine ⟨owed, session, base, lampDemand, requested, mute, unnamed, fun name reached => ?_, fun name other => ?_⟩
  · rw [named name, if_pos reached]
  · rw [named name, if_neg other]

section
variable {s : State} {ev : RunnerEvent} {c : Occurrence} (current : s.finder.current = some c)
  (due : startDue (s.clampedSession ev) (s.sessionEnding ev) c = true) {e : Entry} {terms : Terms}
  (entry : entryOf s.table c.id = some e) (fields : e.terms = some terms)
include current due entry fields

/-- R145, R146: the record that a booked start leaves, and what its source leaves owed. -/
theorem State.runner_bookedStart :
    ∃ owed, (s.runner ev).session = Session.owing (bookedStart s.table (s.clampedSession ev) c) owed
      ∧ (terms.source = 0 → owed = none ∧ (s.runner ev).switch.target = s.switch.target)
      ∧ (terms.source ≠ 0 → owed = if (s.runner ev).switch.target = terms.source then none
          else some (s.runner ev).switch.target) := by
  have run := runRecord_start current due
  obtain ⟨session, switch⟩ := s.runner_served ev
  have before := s.served_session ev
  have target : (s.served ev).switch.target = s.switch.target := by rw [s.served_switch ev]
  have table : (s.served ev).table = s.table := s.served_untouched ev .table (by decide)
  rw [run] at session switch before
  have use : (s.served ev).session.use = .booked (bookingOf s.table c true) := by rw [before]; rfl
  obtain ⟨owed, owing, unnamed, named⟩ := State.serveSource_start use rfl
  have source : entrySource (s.served ev).table (bookingOf s.table c true).id = terms.source := by
    rw [table]
    exact entrySource_entry entry fields
  rw [source] at unnamed named
  rw [session, switch, owing, before]
  refine ⟨owed, rfl, fun none => ?_, named⟩
  obtain ⟨isNone, same⟩ := unnamed none
  exact ⟨isNone, by rw [same, target]⟩

/-- R145, R146: a booked start, on a state that has kept its session, its switch and its table since. -/
theorem State.runner_startedFor {t : State} (handed : t.handedOver) (session : t.session = (s.runner ev).session)
    (switch : t.switch = (s.runner ev).switch) (table : t.table = s.table) :
    StartedFor c e terms (startDemand (s.clampedSession ev) c) s t := by
  obtain ⟨owed, left, unnamed, named⟩ := State.runner_bookedStart current due entry fields
  rw [← switch] at unnamed named
  exact startedFor_of_handedOver handed (by rwa [table]) fields (by rw [session, left, table]; rfl) unnamed named

end

/-- A booked start is told by the target before it. -/
theorem StartedFor.congr {c : Occurrence} {e : Entry} {terms : Terms} {demand : Bool} {s s' t : State}
    (h : StartedFor c e terms demand s t) (target : s'.switch.target = s.switch.target) : StartedFor c e terms demand s' t := by
  unfold StartedFor
  rw [target]
  exact h

theorem startDemand_same {r : Session} {c : Occurrence} {b : Booking} (use : r.use = .booked b)
    (same : b.id = c.id ∧ b.date = c.date) : startDemand r c = r.demand := by
  simp [startDemand, use, Booking.isOf, same]

theorem startDemand_other {r : Session} {c : Occurrence} (other : ∀ b, r.use = .booked b → ¬(b.id = c.id ∧ b.date = c.date)) :
    startDemand r c = true := by
  unfold startDemand
  split
  · rename_i b use
    refine if_neg fun isOf => other b use ?_
    obtain ⟨id, date⟩ : c.id = b.id ∧ c.date = b.date := by simpa [Booking.isOf] using isOf
    exact ⟨id.symm, date.symm⟩
  · rfl

/-! ## What raises SESSION (R143) -/

/-- R143: records of bookings that raise nothing differ in what is owed alone. -/
theorem Session.noticed_booked {r r' : Session} (same : r.noticed = r'.noticed) {b : Booking} (use : r.use = .booked b) :
    ∃ k, r'.use = .booked k ∧ { k with owed := none } = { b with owed := none } := by
  obtain ⟨use', demand, requested⟩ := r'
  have noticed : r.noticed.use = .booked { b with owed := none } := by rw [Session.noticed, use]
  cases use' with
  | booked k =>
    rw [same] at noticed
    exact ⟨k, rfl, by simpa [Session.noticed] using noticed⟩
  | _ =>
    rw [same] at noticed
    cases noticed

/-- R143: a booked start of an occurrence that the room does not run raises SESSION. -/
theorem noticed_of_start {r r' : Session} {b : Booking} (use : r.use = .booked b) (running : b.running = true)
    (new : ∀ k, r'.use = .booked k → k.running = true → ¬(k.id = b.id ∧ k.date = b.date)) : r.noticed ≠ r'.noticed := by
  intro same
  obtain ⟨k, booked, agrees⟩ := Session.noticed_booked same use
  obtain ⟨id, date, runs⟩ : k.id = b.id ∧ k.date = b.date ∧ k.running = b.running := by
    simp only [Booking.mk.injEq] at agrees
    exact ⟨agrees.1, agrees.2.1, agrees.2.2.1⟩
  exact new k booked (runs.trans running) ⟨id, date⟩

/-! ## The minute's booked start, and that of a replaced entry -/

/-- R142: the booked start is due unless the occurrence runs already and is not marked. -/
theorem startDue_new {r : Session} {mark : Bool} {c : Occurrence}
    (new : ∀ k, r.use = .booked k → k.running = true → ¬(k.id = c.id ∧ k.date = c.date)) : startDue r mark c = true := by
  by_contra due
  obtain ⟨b, use, running, isOf, -⟩ := startDue_false (Bool.not_eq_true _ ▸ due)
  obtain ⟨id, date⟩ : c.id = b.id ∧ c.date = b.date := by simpa [Booking.isOf] using isOf
  exact new b use running ⟨id.symm, date.symm⟩

theorem startDue_marked (r : Session) (c : Occurrence) : startDue r true c = true := by
  unfold startDue
  split
  · rw [Bool.not_true, Bool.and_false, Bool.not_false]
  · rfl

/-- R156: the clamp makes no booking and takes none away. -/
theorem State.clampedSession_booking_iff (s : State) (ev : RunnerEvent) (k : Booking) :
    (s.clampedSession ev).use = .booked k ↔ s.session.use = .booked k :=
  ⟨clampEnd_eq_booked, fun use => by rw [State.clampedSession_booked use, use]⟩

theorem State.secondPasses_startedFor {s : State} (a b : Bool) {c : Occurrence} {e : Entry} {terms : Terms}
    (up : s.startUpDone = true) (ends : 59 ≤ s.clock.second) (current : (found s.table s.clock.tick).current = some c)
    (entry : entryOf s.table c.id = some e) (fields : e.terms = some terms)
    (new : ∀ k, s.session.use = .booked k → k.running = true → ¬(k.id = c.id ∧ k.date = c.date)) :
    Pending .session (s.secondPasses a b)
      ∧ StartedFor c e terms (startDemand ((s.atMinute a b).clampedSession s.minuteTaken) c) s (s.secondPasses a b) := by
  have before := s.atMinute_untouched a b
  obtain ⟨after, keeps, handed⟩ := State.secondPasses_after ends up a b
  have session : (s.atMinute a b).session = s.session := before .session (by decide)
  have table : (s.atMinute a b).table = s.table := before .table (by decide)
  have switch : (s.atMinute a b).switch = s.switch := before .switch (by decide)
  have currentNow : (s.atMinute a b).finder.current = some c := by rw [s.atMinute_finder, current]
  have entryNow : entryOf (s.atMinute a b).table c.id = some e := by rw [table, entry]
  have newNow : ∀ k, ((s.atMinute a b).clampedSession s.minuteTaken).use = .booked k → k.running = true →
      ¬(k.id = c.id ∧ k.date = c.date) := fun k use => new k (by
    rw [← session]
    exact (State.clampedSession_booking_iff _ _ _).mp use)
  have due := startDue_new (mark := (s.atMinute a b).sessionEnding s.minuteTaken) newNow
  have run := runRecord_start currentNow due
  refine ⟨keeps _ ?_, ?_⟩
  · refine ((s.atMinute a b).runner_spec s.minuteTaken).2.2.2.2.2 rfl ?_
    rw [run, session]
    exact noticed_of_start (b := bookingOf (s.atMinute a b).table c true) rfl rfl new
  · have started := State.runner_startedFor currentNow due entryNow fields handed (after .session (by decide))
      (after .switch (by decide))
      ((after .table (by decide)).trans (State.runner_untouched _ _ .table (by decide)))
    exact started.congr (by rw [switch])

/-- R130, R145, R147: a change of the table that replaces the entry of the running session starts what is then current. -/
theorem State.changeTable_startedFor {s : State} {table : List Entry} {k : Booking} {c : Occurrence} {e : Entry} {terms : Terms}
    (use : s.session.use = .booked k) (running : k.running = true) (current : (found table s.clock).current = some c)
    (entry : entryOf table c.id = some e) (fields : e.terms = some terms) :
    StartedFor c e terms (startDemand s.session c) s (s.changeTable table (some k.id)) := by
  obtain ⟨v, hv⟩ : ∃ v, v = (s.tableQueued table).recompute false := ⟨_, rfl⟩
  have before := s.tableQueued_untouched table
  have tableThere : (s.tableQueued table).table = table := by rw [State.tableQueued, State.queueKind_table, State.raise_table]
  have tableNow : v.table = table := by rw [hv, State.recompute_table, tableThere]
  have session : v.session = s.session := by rw [hv, State.recompute_session]; exact before .session (by decide)
  have switch : v.switch = s.switch := by rw [hv, State.recompute_switch]; exact before .switch (by decide)
  have currentNow : v.finder.current = some c := by
    rw [hv, State.recompute_finder, tableThere, before .clock (by decide), current]
  have useNow : v.session.use = .booked k := by rw [session, use]
  have clamped := State.clampedSession_booked useNow { tableChange := true, replaced := some k.id }
  have marked : v.sessionEnding { tableChange := true, replaced := some k.id } = true := by
    rw [State.sessionEnding, clamped, useNow]
    simp [ending, running]
  have started := State.runner_startedFor (s := v) (ev := { tableChange := true, replaced := some k.id }) currentNow
    (by rw [marked]; exact startDue_marked _ _) (by rw [tableNow, entry]) fields (State.runner_handedOver _ _) rfl rfl
    (State.runner_untouched _ _ .table (by decide))
  rw [clamped, session] at started
  have runs : s.changeTable table (some k.id) = v.runner { tableChange := true, replaced := some k.id } := by rw [hv]; rfl
  rw [runs]
  exact started.congr (by rw [switch])

/-- Settles O51: the runner's booked start at a minute event, and at a table change that replaces the running entry. -/
theorem minuteEventMakesTheBookedStart : Obligations.MinuteEventMakesTheBookedStart := by
  refine ⟨fun a b s c e terms up ends current entry fields new => ?_, ?_⟩
  · obtain ⟨pending, started⟩ := State.secondPasses_startedFor a b up ends current entry fields new
    have session : (s.atMinute a b).session = s.session := s.atMinute_untouched a b .session (by decide)
    refine ⟨s.secondPasses a b, rfl, pending, fun ⟨k, use, same⟩ => ?_, fun other => ?_⟩
    · have useNow : (s.atMinute a b).session.use = .booked k := by rw [session, use]
      rw [State.clampedSession_booked useNow, startDemand_same useNow same, session] at started
      exact started
    · rw [startDemand_other] at started
      · exact started
      · exact fun k use => other k (by rw [← session]; exact (State.clampedSession_booking_iff _ _ _).mp use)
  · intro l raw s k e e' c terms sendable admitted decoded valid held free use running named current entry fields
    have taken := exec_entryPut sendable admitted
    obtain ⟨session, clock, -, table⟩ := s.hearing_roomBlocks (.entryPut l raw)
    have switch : (s.hearing (.entryPut l raw)).switch = s.switch := s.hearing_untouched _ .switch (by decide)
    have none : conflictsWith (s.hearing (.entryPut l raw)).table e = [] := by
      rw [table]
      exact (conflictsWith_eq_nil_iff _ _).mpr free
    have found := (entryOf_isSome_iff s.table e.id).mpr held
    have replaced : replacedBy (s.hearing (.entryPut l raw)).table e = some k.id := by
      rw [replacedBy, table, if_pos found, named]
    rw [ownEntryPut_put decoded valid, putEntry_taken none (.inl (by rw [table]; exact found)), replaced, table] at taken
    have started := (State.changeTable_startedFor (s := s.hearing (.entryPut l raw)) (table := insertEntry e s.table)
      (by rw [session, use]) running (by rw [clock, current]) entry fields).congr (s' := s) (by rw [switch])
    rw [session] at started
    refine ⟨(s.hearing (.entryPut l raw)).changeTable (insertEntry e s.table) (some k.id), ?_, fun same => ?_, fun other => ?_⟩
    · rw [taken, State.changeTable_table]
    · rwa [startDemand_same use same] at started
    · rwa [startDemand_other fun b booked => by rw [use] at booked; cases booked; exact other] at started

end Sys2Proof.Machine
end

section
/-! Minute events with nothing current: sessions end, become bridges, lapse or are pre-warmed; a source that is owed is issued
again (R142 to R150, R155). -/

namespace Sys2Proof.Machine

open Sys2Proof.Config

/-! ## The target after a request of the SCHEDULE class (R69, R70, R146) -/

theorem State.taking_enterMuting_target (s : State) (n : Nat) (c : Requester) :
    (s.taking n c).enterMuting.switch.target = n := by
  rw [State.enterMuting_eq]
  split
  · rw [(State.routingAction_routedTo _ _).1]
    rfl
  · rw [State.mutingBegun_switch]
    rfl

theorem State.requestSettled_target {s : State} {n : Nat} (c : Requester) (rests : s.switch.target = s.switch.routed) :
    (s.requestSettled n c).1.switch.target = n := by
  by_cases same : n = s.switch.routed
  · by_cases lost : s.switch.state = .noSignal
    · rw [State.requestSettled_seeks c same lost, (State.enterSeeking_seekingFrom _ _).1]
      exact rests.trans same.symm
    · rw [State.requestSettled_same c same lost]
      exact rests.trans same.symm
  · by_cases unseen : s.switch.state ≠ .showing ∨ s.pins.mute = true
    · rw [State.requestSettled_routes c same unseen, (s.taking_routedTo n c).1]
    · obtain ⟨showing, seen⟩ : s.switch.state = .showing ∧ s.pins.mute = false := by simpa using unseen
      rw [State.requestSettled_mutes c same showing seen]
      exact s.taking_enterMuting_target n c

theorem State.requestInTransit_target {s : State} {n : Nat} {c : Requester} (booked : c = .schedule) :
    (s.requestInTransit n c).1.switch.target = n := by
  have notFollow : ¬(c = .follow ∧ s.switch.origin ≠ some (.by .follow)) := by
    rw [booked]
    exact fun h => nomatch h.1
  by_cases same : n = s.switch.target
  · rw [State.requestInTransit_dropped c (.inr same)]
    exact same.symm
  · by_cases muting : s.switch.state = .muting
    · rw [State.requestInTransit_retargets c notFollow same muting]
      rfl
    · rw [State.requestInTransit_reroutes c notFollow same muting, (s.taking_routedTo n c).1]

/-- R146: a request of the SCHEDULE class makes its plate the target when the plate is available, and else changes nothing. -/
theorem State.requestSwitch_schedule_target {s : State} (rests : s.switch.state.settled = true → s.switch.target = s.switch.routed)
    (n : Nat) :
    (s.requestSwitch n .schedule).1.switch.target = if n ≤ 12 ∧ s.available n = true then n else s.switch.target := by
  by_cases inTable : n ≤ 12
  · by_cases available : s.available n = true
    · rw [if_pos ⟨inTable, available⟩]
      cases settled : s.switch.state.settled with
      | true =>
        rw [State.requestSwitch_settled _ inTable available settled]
        exact State.requestSettled_target _ (rests settled)
      | false =>
        rw [State.requestSwitch_inTransit _ inTable available settled]
        exact State.requestInTransit_target rfl
    · rw [if_neg fun h => available h.2, State.requestSwitch_lost inTable available]
  · rw [if_neg fun h => inTable h.1, State.requestSwitch_above (by omega)]

/-! ## The minute's runner event and what it leaves -/

/-- R143: a record that a runner event leaves different raises SESSION. -/
theorem State.runner_raises {s : State} {ev : RunnerEvent} (loud : ev.quiet = false)
    (differs : (s.runner ev).session.noticed ≠ s.session.noticed) : Pending .session (s.runner ev) := by
  obtain ⟨owed, session⟩ := s.runner_session ev
  rw [session, Session.owing_noticed] at differs
  exact (s.runner_spec ev).2.2.2.2.2 loud differs

/-- What the minute's runner event goes by, and what is left of it once the other takers have had their parts. -/
structure MinuteRun (s t u : State) : Prop where
  session : u.session = s.session
  table : u.table = s.table
  settings : u.settings = s.settings
  switch : u.switch = s.switch
  scanner : u.scanner = s.scanner
  finder : u.finder = found s.table s.clock.tick
  now : u.clock.minuteCount = s.clock.tick.minuteCount
  sessionLeft : t.session = (u.runner s.minuteTaken).session
  switchLeft : t.switch = (u.runner s.minuteTaken).switch
  tableLeft : t.table = s.table
  settingsLeft : t.settings = s.settings
  handed : t.handedOver
  raises : t.session.noticed ≠ s.session.noticed → Pending .session t

theorem State.secondPasses_minuteRun {s : State} (ends : 59 ≤ s.clock.second) (up : s.startUpDone = true) (a b : Bool) :
    MinuteRun s (s.secondPasses a b) (s.atMinute a b) := by
  have before := s.atMinute_untouched a b
  obtain ⟨after, keeps, handed⟩ := State.secondPasses_after ends up a b
  have runner := State.runner_untouched (s.atMinute a b) s.minuteTaken
  have session : (s.atMinute a b).session = s.session := before .session (by decide)
  have table : (s.atMinute a b).table = s.table := before .table (by decide)
  have settings : (s.atMinute a b).settings = s.settings := before .settings (by decide)
  have left : (s.secondPasses a b).session = ((s.atMinute a b).runner s.minuteTaken).session := after .session (by decide)
  refine ⟨session, table, settings, before .switch (by decide), before .scanner (by decide), s.atMinute_finder a b,
    s.atMinute_now a b, left, after .switch (by decide), ?_, ?_, handed, fun differs => keeps _ ?_⟩
  · exact (after .table (by decide)).trans ((runner .table (by decide)).trans table)
  · exact (after .settings (by decide)).trans ((runner .settings (by decide)).trans settings)
  · rw [left, ← session] at differs
    exact State.runner_raises rfl differs

/-- R106, R139: no booking runs and no walk-up is on. -/
def Session.Idles (r : Session) : Prop :=
  r.use = .none ∨ (∃ a e, r.use = .bridge a e) ∨ ∃ b, r.use = .booked b ∧ b.running = false

/-- R106: the values handed over for a session that idles. -/
theorem State.handedOver.idles {t : State} (handed : t.handedOver) (idles : t.session.Idles) :
    t.policy.base = t.settings.idleLevel ∧ t.lamp.demand = t.session.demand ∧ t.lamp.requested = t.session.requested
      ∧ t.switch.bridgeMute = t.session.use.bridgeMute := by
  obtain ⟨-, base, requested, demand, mute⟩ := (State.handedOver_iff t).mp handed
  refine ⟨base.trans ?_, demand, requested, mute⟩
  rcases idles with use | ⟨a, e, use⟩ | ⟨b, use, unstarted⟩
  · simp only [State.baseLevel, use]
  · simp only [State.baseLevel, use]
  · simp only [State.baseLevel, use, unstarted, Bool.false_eq_true, if_false]

theorem prewarm_idles (v : Settings) (table : List Entry) (f : Finder) : (prewarm v table f {}).Idles := by
  rcases prewarm_kinds v table f with none | ⟨b, use⟩
  · exact .inl none
  · exact .inr (.inr ⟨b, use, prewarm_unstarted v table f b use⟩)

theorem prewarm_of_none {r : Session} (use : r.use = .none) {v : Settings} {f : Finder} {x : Occurrence}
    (next : f.next = some x) (near : f.lead ≤ v.lead) (table : List Entry) :
    prewarm v table f r = { use := .booked (bookingOf table x false), demand := true, requested := .normal } := by
  simp only [prewarm, use, next, if_pos near]

/-- R143: a session that idles differs from one of another kind, or from a booking of another occurrence or phase. -/
theorem noticed_of_prewarm {v : Settings} {table : List Entry} {f : Finder} {r : Session} (live : r.use ≠ .none)
    (other : ∀ k x, r.use = .booked k → f.next = some x → f.lead ≤ v.lead → k.running = true ∨ ¬(k.id = x.id ∧ k.date = x.date)) :
    (prewarm v table f {}).noticed ≠ r.noticed := by
  by_cases near : ∃ x, f.next = some x ∧ f.lead ≤ v.lead
  · obtain ⟨x, next, near⟩ := near
    rw [prewarm_due next near]
    intro same
    obtain ⟨k, use, agrees⟩ := Session.noticed_booked same rfl
    simp only [Booking.mk.injEq, bookingOf] at agrees
    obtain ⟨id, date, phase, -⟩ := agrees
    rcases other k x use next near with running | differs
    · rw [phase] at running
      cases running
    · exact differs ⟨id, date⟩
  · have far : f.next = none ∨ v.lead < f.lead := by
      cases next : f.next with
      | none => exact .inl rfl
      | some x => exact .inr (Nat.lt_of_not_le fun h => near ⟨x, next, h⟩)
    rw [prewarm_idle far]
    refine Session.noticed_ne (.inl fun same => live ?_)
    cases use : r.use with
    | none => rfl
    | booked b => rw [use] at same; cases same
    | walkup a e w => rw [use] at same; cases same
    | bridge a e => rw [use] at same; cases same

section
variable {s t u : State} (run : MinuteRun s t u)
include run

/-- R156: at a minute event an end is clamped at the wrap alone, and never moved back. -/
theorem MinuteRun.clamped_walkup {x y : Nat} {w : Bool} (use : s.session.use = .walkup x y w) :
    ∃ y', (u.clampedSession s.minuteTaken).use = .walkup x y' w ∧ y' ≤ y := by
  have useNow : u.session.use = .walkup x y w := by rw [run.session, use]
  cases told : (s.minuteTaken.clockSet || s.minuteTaken.tableChange) with
  | true =>
    refine ⟨_, State.clampedSession_walkup told useNow, (leastWith_le _ _).1.trans (Nat.min_le_left _ _)⟩
  | false => exact ⟨y, by rw [u.clampedSession_untold told, useNow], Nat.le_refl y⟩

theorem MinuteRun.clamped_bridge {x y : Nat} (use : s.session.use = .bridge x y) :
    ∃ y', (u.clampedSession s.minuteTaken).use = .bridge x y' ∧ y' ≤ y := by
  have useNow : u.session.use = .bridge x y := by rw [run.session, use]
  cases told : (s.minuteTaken.clockSet || s.minuteTaken.tableChange) with
  | true =>
    refine ⟨_, State.clampedSession_bridge told useNow, (leastWith_le _ _).1.trans (Nat.min_le_left _ _)⟩
  | false => exact ⟨y, by rw [u.clampedSession_untold told, useNow], Nat.le_refl y⟩

/-- What is left where the session ended in no bridge. -/
theorem MinuteRun.ended (current : (found s.table s.clock.tick).current = none) (idle : u.endedSession s.minuteTaken = {}) :
    t.session = prewarm s.settings t.table (found s.table s.clock.tick) {}
      ∧ EndedSession s.settings (found s.table s.clock.tick) t := by
  have session : t.session = prewarm s.settings t.table (found s.table s.clock.tick) {} := by
    rw [run.sessionLeft, State.runner_ended (by rw [run.finder, current]) idle, run.settings, run.table, run.finder, run.tableLeft]
  exact ⟨session, endedSession_of_prewarm session⟩

/-- R147: with nothing current a booking that runs and a walk-up whose end has come are marked ending. -/
theorem MinuteRun.marked (current : (found s.table s.clock.tick).current = none)
    (ends : (∃ k, s.session.use = .booked k ∧ k.running = true)
      ∨ ∃ x y w, s.session.use = .walkup x y w ∧ y ≤ s.clock.tick.minuteCount) :
    u.sessionEnding s.minuteTaken = true
      ∧ ((∃ k, (u.clampedSession s.minuteTaken).use = .booked k ∧ k.running = true)
        ∨ ∃ x y w, (u.clampedSession s.minuteTaken).use = .walkup x y w) := by
  rcases ends with ⟨k, use, running⟩ | ⟨x, y, w, use, past⟩
  · have clamped := (State.clampedSession_booking_iff u s.minuteTaken k).mpr (by rw [run.session, use])
    refine ⟨?_, .inl ⟨k, clamped, running⟩⟩
    rw [State.sessionEnding, clamped, run.finder]
    simp [ending, running, current, Booking.isOf]
  · obtain ⟨y', clamped, earlier⟩ := run.clamped_walkup use
    refine ⟨?_, .inr ⟨x, y', w, clamped⟩⟩
    rw [State.sessionEnding, clamped, run.now]
    exact decide_eq_true (earlier.trans past)

/-- R148, R149: the bridge that an ended session becomes. -/
theorem MinuteRun.bridged (current : (found s.table s.clock.tick).current = none) (lamp : u.lamp.state = s.lamp.state)
    (ends : (∃ k, s.session.use = .booked k ∧ k.running = true)
      ∨ ∃ x y w, s.session.use = .walkup x y w ∧ y ≤ s.clock.tick.minuteCount)
    (called : BridgeCalledFor s.settings (found s.table s.clock.tick) s.lamp.state) {x : Occurrence}
    (next : (found s.table s.clock.tick).next = some x) :
    t.session = { use := .bridge s.clock.tick.minuteCount (x.date.number * 1440 + x.start), demand := true, requested := .eco } := by
  obtain ⟨marked, kinds⟩ := run.marked current ends
  rw [run.sessionLeft, State.runner_bridged (by rw [run.finder, current]) marked kinds
    (by rw [run.settings, run.finder, lamp]; exact called) (by rw [run.finder, next]), run.now]

end

/-! ## The statement's clauses -/

/-- R148, R149: a booking or a walk-up ends in a bridge, in the pre-warm that is due, or in none. -/
theorem MinuteRun.endsSession {s t u : State} (run : MinuteRun s t u) (current : (found s.table s.clock.tick).current = none)
    (lamp : u.lamp.state = s.lamp.state)
    (ends : (∃ k, s.session.use = .booked k ∧ k.running = true)
      ∨ ∃ x y w, s.session.use = .walkup x y w ∧ y ≤ s.clock.tick.minuteCount) :
    let f := found s.table s.clock.tick
    Pending .session t
      ∧ (∀ x, f.next = some x → BridgeCalledFor s.settings f s.lamp.state →
          t.session = { use := .bridge s.clock.tick.minuteCount (x.date.number * 1440 + x.start), demand := true, requested := .eco }
            ∧ t.switch.bridgeMute = true ∧ t.lamp.demand = true ∧ t.lamp.requested = .eco
            ∧ t.policy.base = s.settings.idleLevel)
      ∧ (¬BridgeCalledFor s.settings f s.lamp.state → t.table = s.table ∧ EndedSession s.settings f t
          ∧ (f.next = none ∨ s.settings.lead < f.lead → t.switch.bridgeMute = false ∧ t.lamp.demand = false
              ∧ t.lamp.requested = .normal ∧ t.policy.base = s.settings.idleLevel)) := by
  intro f
  obtain ⟨marked, kinds⟩ := run.marked current ends
  have live : s.session.use ≠ .none := by
    rcases ends with ⟨k, use, -⟩ | ⟨x, y, w, use, -⟩ <;> rw [use] <;> nofun
  have bridge := fun x next called => run.bridged current lamp ends called (x := x) next
  have idle : ¬BridgeCalledFor s.settings f s.lamp.state →
      t.session = prewarm s.settings t.table f {} ∧ EndedSession s.settings f t := fun refused =>
    run.ended current (State.endedSession_idle marked (.inl (by rw [run.settings, run.finder, lamp]; exact refused)))
  refine ⟨run.raises ?_, fun x next called => ?_, fun refused => ?_⟩
  · by_cases called : BridgeCalledFor s.settings f s.lamp.state
    · obtain ⟨x, next⟩ := Option.ne_none_iff_exists'.mp called.1
      rw [bridge x next called]
      refine Session.noticed_ne (.inl ?_)
      rcases ends with ⟨k, use, -⟩ | ⟨x, y, w, use, -⟩ <;> rw [use] <;> simp [RoomUse.code]
    · rw [(idle called).1]
      refine noticed_of_prewarm live fun k x use _ _ => .inl ?_
      rcases ends with ⟨k', use', running⟩ | ⟨x, y, w, use', -⟩
      · rw [use'] at use
        cases use
        exact running
      · rw [use'] at use
        cases use
  · have session := bridge x next called
    obtain ⟨base, demand, requested, mute⟩ := run.handed.idles (.inr (.inl ⟨_, _, by rw [session]⟩))
    rw [session] at demand requested mute
    exact ⟨session, mute, demand, requested, by rw [base, run.settingsLeft]⟩
  · obtain ⟨session, ended⟩ := idle refused
    refine ⟨run.tableLeft, ended, fun far => ?_⟩
    obtain ⟨base, demand, requested, mute⟩ := run.handed.idles (by rw [session]; exact prewarm_idles _ _ _)
    rw [session, prewarm_idle far] at demand requested mute
    exact ⟨mute, demand, requested, by rw [base, run.settingsLeft]⟩

/-- R144: with no session the next occurrence within the lead is pre-warmed. -/
theorem MinuteRun.prewarms {s t u : State} (run : MinuteRun s t u) (current : (found s.table s.clock.tick).current = none)
    (idle : s.session.use = .none) {x : Occurrence} {e : Entry} (next : (found s.table s.clock.tick).next = some x)
    (near : (found s.table s.clock.tick).lead ≤ s.settings.lead) (entry : entryOf s.table x.id = some e) :
    Pending .session t
      ∧ t.session.use = .booked
          { id := x.id, date := x.date, running := false, start := x.date.number * 1440 + x.start
            stop := x.date.number * 1440 + x.stop, label := e.label, owed := none }
      ∧ t.session.demand = true ∧ t.session.requested = .normal
      ∧ t.switch.bridgeMute = true ∧ t.lamp.demand = true ∧ t.policy.base = s.settings.idleLevel := by
  have idleNow : u.session.use = .none := by rw [run.session, idle]
  have unmarked : u.sessionEnding s.minuteTaken = false := by
    rw [State.sessionEnding, State.clampedSession_none idleNow, idleNow]
    rfl
  have kept : u.endedSession s.minuteTaken = u.session := by
    rw [State.endedSession, unmarked, State.clampedSession_none idleNow]
    rfl
  have session : t.session = { use := .booked (bookingOf s.table x false), demand := true, requested := .normal } := by
    rw [run.sessionLeft, State.runner_dark (by rw [run.finder, current]), kept,
      prewarm_of_none idleNow (by rw [run.finder, next]) (by rw [run.finder, run.settings]; exact near), run.table]
    rfl
  obtain ⟨base, demand, requested, mute⟩ := run.handed.idles (.inr (.inr ⟨_, by rw [session], rfl⟩))
  rw [session] at demand mute
  refine ⟨run.raises ?_, by rw [session, bookingOf_entry entry], by rw [session], by rw [session], mute, demand,
    by rw [base, run.settingsLeft]⟩
  rw [session]
  exact Session.noticed_ne (.inl (by rw [idle]; simp [RoomUse.code]))

/-- R155: a walk-up that goes on is warned in its last five minutes. -/
theorem MinuteRun.warns {s t u : State} (run : MinuteRun s t u) (current : (found s.table s.clock.tick).current = none)
    {x y : Nat} {w : Bool} (use : s.session.use = .walkup x y w) (ahead : s.clock.tick.minuteCount < y)
    (plain : s.clock.tickKind = .minute) :
    t.session = { s.session with use := .walkup x y (decide (y ≤ s.clock.tick.minuteCount + 5)) }
      ∧ (t.session ≠ s.session → Pending .session t) := by
  have untold : (s.minuteTaken.clockSet || s.minuteTaken.tableChange) = false := by simp [State.minuteTaken, plain]
  have clamped : u.clampedSession s.minuteTaken = s.session := by rw [u.clampedSession_untold untold, run.session]
  have goesOn := (State.runner_walkup (s := u) (ev := s.minuteTaken) (by rw [run.finder, current])
    (by rw [clamped]; exact use)).1 (by rw [run.now]; exact ahead)
  rw [clamped, run.now, ← run.sessionLeft] at goesOn
  refine ⟨goesOn, fun changed => run.raises ?_⟩
  have noticed : ∀ r : Session, ∀ a e v, r.use = .walkup a e v → r.noticed = r := fun r a e v walkup => by
    rw [Session.noticed, walkup]
  rwa [noticed _ x y _ (by rw [goesOn]), noticed _ _ _ _ use]

/-- R144, R150: a pre-warm that is no longer due and a bridge whose end has come leave the pre-warm that is due, or none. -/
theorem MinuteRun.lapses {s t u : State} (run : MinuteRun s t u) (current : (found s.table s.clock.tick).current = none)
    (lapse : (∃ x y, s.session.use = .bridge x y ∧ y ≤ s.clock.tick.minuteCount)
      ∨ ∃ k, s.session.use = .booked k ∧ k.running = false
          ∧ ((∀ x, (found s.table s.clock.tick).next = some x → ¬(k.id = x.id ∧ k.date = x.date))
            ∨ s.settings.lead < (found s.table s.clock.tick).lead)) :
    let f := found s.table s.clock.tick
    t.lamp.demand = t.session.demand ∧ t.policy.base = s.settings.idleLevel ∧ t.table = s.table
      ∧ EndedSession s.settings f t
      ∧ (f.next = none ∨ s.settings.lead < f.lead → t.switch.bridgeMute = false ∧ Pending .session t)
      ∧ (∀ x e, f.next = some x → f.lead ≤ s.settings.lead → entryOf s.table x.id = some e →
          t.switch.bridgeMute = true ∧ Pending .session t) := by
  intro f
  have idle : u.endedSession s.minuteTaken = {} := by
    rcases lapse with ⟨x, y, use, past⟩ | ⟨k, use, unstarted, gone⟩
    · obtain ⟨y', clamped, earlier⟩ := run.clamped_bridge use
      exact (State.runner_bridge (by rw [run.finder, current]) clamped).2 (by rw [run.now]; exact earlier.trans past)
    · have clamped := (State.clampedSession_booking_iff u s.minuteTaken k).mpr (by rw [run.session, use])
      refine State.endedSession_idle ?_ (.inr (.inr ⟨k, clamped, unstarted⟩))
      have notDue : k.isOf f.next = false ∨ s.settings.lead < f.lead := by
        refine gone.imp_left fun other => ?_
        cases next : f.next with
        | none => rfl
        | some x =>
          rw [← Bool.not_eq_true]
          intro isOf
          obtain ⟨id, date⟩ : x.id = k.id ∧ x.date = k.date := by simpa [Booking.isOf] using isOf
          exact other x next ⟨id.symm, date.symm⟩
      rw [State.sessionEnding, clamped, run.finder, run.settings]
      have dark : k.isOf none = false := rfl
      rcases notDue with other | far
      · simp only [ending, unstarted, current, dark, show k.isOf (found s.table s.clock.tick).next = false from other]
        rfl
      · simp [ending, unstarted, current, dark, show s.settings.lead < (found s.table s.clock.tick).lead from far]
  obtain ⟨session, ended⟩ := run.ended current idle
  obtain ⟨base, demand, -, mute⟩ := run.handed.idles (by rw [session]; exact prewarm_idles _ _ _)
  have pending : Pending .session t := by
    refine run.raises ?_
    rw [session]
    refine noticed_of_prewarm ?_ fun k x use next near => ?_
    · rcases lapse with ⟨x, y, use, -⟩ | ⟨k, use, -⟩ <;> rw [use] <;> nofun
    · rcases lapse with ⟨x, y, use', -⟩ | ⟨k', use', -, other | far⟩
      · rw [use'] at use
        cases use
      · rw [use'] at use
        cases use
        exact .inr (other x next)
      · exact (Nat.not_lt_of_le near far).elim
  refine ⟨demand, by rw [base, run.settingsLeft], run.tableLeft, ended, fun far => ⟨?_, pending⟩,
    fun x e next near _ => ⟨?_, pending⟩⟩
  · rw [mute, session, prewarm_idle far]
    rfl
  · rw [mute, session, prewarm_due next near]
    rfl

/-- R146: with its occurrence going on, a booking's owed source is dropped or issued again. -/
theorem MinuteRun.servesOwed {s t u : State} (run : MinuteRun s t u) {k : Booking} {c : Occurrence} {e : Entry} {terms : Terms}
    {base : Nat} (current : (found s.table s.clock.tick).current = some c) (use : s.session.use = .booked k)
    (running : k.running = true) (id : k.id = c.id) (date : k.date = c.date) (owes : k.owed = some base)
    (entry : entryOf s.table k.id = some e) (fields : e.terms = some terms)
    (rests : s.switch.state.settled = true → s.switch.target = s.switch.routed) :
    ∃ owed, t.session = { s.session with use := .booked { k with owed := owed } }
      ∧ (s.switch.target ≠ base → owed = none ∧ t.switch.target = s.switch.target
          ∧ t.switch.routed = s.switch.routed ∧ t.switch.state = s.switch.state)
      ∧ (s.switch.target = base → t.switch.target = terms.source → owed = none)
      ∧ (s.switch.target = base → t.switch.target ≠ terms.source → t.switch.target = base ∧ owed = some base)
      ∧ (s.switch.target = base → terms.source ≤ 12 → (s.plate terms.source).state = .present → 1 ≤ terms.source →
          t.switch.target = terms.source ∧ owed = none) := by
  have useNow : u.session.use = .booked k := by rw [run.session, use]
  have isOf : k.isOf (some c) = true := by simp [Booking.isOf, id, date]
  have clamped := State.clampedSession_booked useNow s.minuteTaken
  have unmarked : u.sessionEnding s.minuteTaken = false := by
    rw [State.sessionEnding, clamped, useNow, run.finder]
    simp [ending, running, current, isOf, State.minuteTaken]
  have due : startDue (u.clampedSession s.minuteTaken) (u.sessionEnding s.minuteTaken) c = false := by
    rw [unmarked, clamped, startDue, useNow]
    simp [running, isOf]
  have record : runRecord u s.minuteTaken = (s.session, false) := by
    rw [runRecord_goesOn (by rw [run.finder, current]) due, clamped, Session.warned_of_booked useNow, run.session]
  obtain ⟨v, hv⟩ : ∃ v, v = u.served s.minuteTaken := ⟨_, rfl⟩
  have frame := u.served_untouched s.minuteTaken
  have session : v.session = s.session := by rw [hv, u.served_session, record]
  have switch : v.switch = { s.switch with bridgeMute := s.session.use.bridgeMute } := by
    rw [hv, u.served_switch, record, run.switch]
  have table : v.table = s.table := by rw [hv, frame .table (by decide), run.table]
  have scanner : v.scanner = s.scanner := by rw [hv, frame .scanner (by decide), run.scanner]
  have source : entrySource v.table k.id = terms.source := by rw [table]; exact entrySource_entry entry fields
  obtain ⟨sessionServed, switchServed⟩ := u.runner_served s.minuteTaken
  rw [record, ← hv] at sessionServed switchServed
  have owing : ∀ owed, s.session.owing owed = { s.session with use := .booked { k with owed := owed } } := fun owed => by
    rw [Session.owing, use]
  have vUse : v.session.use = .booked k := by rw [session, use]
  have target : v.switch.target = s.switch.target := by rw [switch]
  rw [run.sessionLeft, run.switchLeft, sessionServed, switchServed]
  by_cases same : s.switch.target = base
  · have issued : v.serveSource false = v.issueSource terms.source := by
      simp only [State.serveSource, vUse, running, owes, target, same, source, if_true, Bool.false_eq_true, if_false]
    have asked := State.requestSwitch_schedule_target (s := v) (by rw [switch]; exact rests) terms.source
    obtain ⟨switchIssued, sessionIssued⟩ := v.issueSource_owed terms.source
    rw [issued, sessionIssued, session, owing, switchIssued]
    refine ⟨_, rfl, fun other => (other same).elim, fun _ reached => if_pos reached, fun _ other => ?_,
      fun _ inTable present named => ?_⟩
    · have stays : (v.requestSwitch terms.source .schedule).1.switch.target = base := by
        rw [asked] at other ⊢
        split at other
        · exact (other rfl).elim
        · rename_i refused
          rw [if_neg refused, target, same]
      exact ⟨stays, by rw [if_neg other, stays]⟩
    · have available : v.available terms.source = true := by
        have plate : v.plate terms.source = s.plate terms.source := by rw [State.plate, scanner, State.plate]
        simp [State.available, plate, present, inTable]
      rw [if_pos ⟨inTable, available⟩] at asked
      exact ⟨asked, if_pos asked⟩
  · have dropped : v.serveSource false = v.setOwed none := by
      simp only [State.serveSource, vUse, running, owes, target, same, if_true, Bool.false_eq_true, if_false]
    rw [dropped, State.setOwed_session, State.setOwed_switch, session, owing, switch]
    exact ⟨none, rfl, fun _ => ⟨rfl, rfl, rfl, rfl⟩, fun is => (same is).elim, fun is => (same is).elim,
      fun is => (same is).elim⟩

/-- Settles O52: each clause from the minute's one runner event. -/
theorem minuteEventEndsPrewarmsAndWarns : Obligations.MinuteEventEndsPrewarmsAndWarns := by
  refine ⟨fun a b s up ends => ?_, fun a b s up ends => ?_, fun a b s up ends => ?_, ?_⟩
  · intro clock f current free sessionEnds v bridges
    exact ⟨s.secondPasses a b, rfl, (State.secondPasses_minuteRun ends up a b).endsSession current
      (State.atMinute_lampState free) sessionEnds⟩
  · intro clock f current
    have run := State.secondPasses_minuteRun ends up a b
    exact ⟨fun x e none next near entry => ⟨s.secondPasses a b, rfl, run.prewarms current none next near entry⟩,
      fun x y w use ahead plain => ⟨s.secondPasses a b, rfl, run.warns current use ahead plain⟩⟩
  · intro clock f v current lapse
    exact ⟨s.secondPasses a b, rfl, (State.secondPasses_minuteRun ends up a b).lapses current lapse⟩
  · intro a b s k c e terms base up ends current use running id date owes entry fields rests
    obtain ⟨owed, left⟩ := (State.secondPasses_minuteRun ends up a b).servesOwed current use running id date owes entry fields
      rests
    exact ⟨s.secondPasses a b, owed, rfl, left⟩

end Sys2Proof.Machine
end

section
/-! SESSION_EXTEND and LAMP_LEVEL (R154, R155, R157). -/

namespace Sys2Proof.Machine

open Sys2Proof.Config

/-! ## A record that a session request changes or confirms (R143) -/

theorem Session.noticed_requested (r : Session) : r.noticed.requested = r.requested := by
  unfold Session.noticed; split <;> rfl

theorem Session.noticed_walkup {r : Session} {a b : Nat} {w : Bool} (walkup : r.use = .walkup a b w) : r.noticed = r := by
  simp only [Session.noticed, walkup]

/-- R143: a granted record that differs in what SESSION shows is handed over and raised; one that stands changes nothing. -/
theorem answerSession_granted (s : State) (i : Instr) {r : Session}
    (shown : r ≠ s.session → r.noticed ≠ s.session.noticed) :
    ∃ u, answerSession (s.hearing i) (r, .ok) = ⟨u, .ok, u.roomBytes⟩ ∧ u.session = r
      ∧ (r ≠ s.session → u.lamp.requested = r.requested ∧ Pending .session u) ∧ (r = s.session → u = s.hearing i)
      ∧ Untouched (.session :: .notice .session :: handOverBlocks) (s.hearing i) u := by
  have session := (s.hearing_roomBlocks i).1
  by_cases same : r = s.session
  · exact ⟨s.hearing i, answerSession_same rfl (same.trans session.symm), session.trans same.symm,
      fun new => (new same).elim, fun _ => rfl, .refl _ _⟩
  · obtain ⟨record, -, -, requested, -, raised, frame⟩ := (s.hearing i).putSession_spec r
    rw [session] at raised
    exact ⟨(s.hearing i).putSession r, answerSession_put rfl (by rw [session]; exact same), record,
      fun new => ⟨requested, raised (shown new)⟩, fun stands => (same stands).elim, frame⟩

/-! ## SESSION_EXTEND (R154, R155) -/

/-- R154: the end a walk-up is moved to, when its present end is `stop`. -/
def extendedEnd (s : State) (stop : Nat) : Nat :=
  leastWith (min (stop + s.settings.extendStep) (s.clock.minuteCount + 240)) s.finder.nextStart

theorem extendSession_walkup {s : State} {a b : Nat} {w : Bool} (walkup : s.session.use = .walkup a b w) :
    extendSession s = ({ s.session with
      use := .walkup a (extendedEnd s b) (decide (extendedEnd s b ≤ s.clock.minuteCount + 5)) }, .ok) := by
  simp only [extendSession, walkup]
  rfl

theorem extendSession_other {s : State} (other : ∀ a b w, s.session.use ≠ .walkup a b w) :
    extendSession s = (s.session, .refusedState) := by
  cases use : s.session.use with
  | walkup a b w => exact (other a b w use).elim
  | none | booked b | bridge a b => simp only [extendSession, use]

theorem extendSession_hearing (s : State) (i : Instr) : extendSession (s.hearing i) = extendSession s := by
  obtain ⟨session, clock, finder, -⟩ := s.hearing_roomBlocks i
  obtain ⟨-, -, settings, -⟩ := s.hearing_lampBlocks i
  simp only [extendSession, session, clock, finder, settings]

theorem exec_sessionExtend {l : Link} {s : State} (h : Admitted .sessionExtend l s) :
    let a := answerSession (s.hearing (.sessionExtend l)) (extendSession s)
    exec (.sessionExtend l) s = answered .sessionExtend l a.state a.status a.payload := by
  rw [← extendSession_hearing s (.sessionExtend l)]
  exact exec_admitted (i := .sessionExtend l) rfl h (Nat.zero_le _) rfl

/-! ## LAMP_LEVEL (R157) -/

theorem lampLevelOfCode_eq_none {n : Nat} : lampLevelOfCode n = none ↔ 2 < n := by
  match n with
  | 0 | 1 | 2 => decide
  | n + 3 => simp [lampLevelOfCode]

theorem levelSession_above {s : State} {level : Byte} (above : 2 < level.toNat) :
    levelSession level s = (s.session, .badArgument) := by
  simp only [levelSession, lampLevelOfCode_eq_none.mpr above]

theorem levelSession_none {s : State} {level : Byte} (known : level.toNat ≤ 2) (none : s.session.use = .none) :
    levelSession level s = (s.session, .refusedState) := by
  cases code : lampLevelOfCode level.toNat with
  | none => exact absurd (lampLevelOfCode_eq_none.mp code) (by omega)
  | some v => simp only [levelSession, code, if_pos none]

theorem levelSession_set {s : State} (live : s.session.use ≠ .none) (v : LampLevel) :
    levelSession (byte v.code) s = ({ s.session with requested := v }, .ok) := by
  simp only [levelSession, lampLevelOfCode_byte, if_neg live]

/-- R157: another requested level makes another record. -/
theorem Session.setRequested_eq_iff (r : Session) (v : LampLevel) :
    ({ r with requested := v } : Session) = r ↔ r.requested = v :=
  ⟨fun same => (congrArg Session.requested same).symm, fun same => by rw [← same]⟩

theorem levelSession_hearing (level : Byte) (s : State) (i : Instr) :
    levelSession level (s.hearing i) = levelSession level s := by
  simp only [levelSession, (s.hearing_roomBlocks i).1]

theorem exec_lampLevel {l : Link} {s : State} (h : Admitted .lampLevel l s) (level : Byte) :
    let a := answerSession (s.hearing (.lampLevel l level)) (levelSession level s)
    exec (.lampLevel l level) s = answered .lampLevel l a.state a.status a.payload := by
  rw [← levelSession_hearing level s (.lampLevel l level)]
  exact exec_admitted (i := .lampLevel l level) rfl h (by simp [payloadOf]) rfl

/-! ## The two requests as the statement has them -/

/-- Settles O33: the record that each request leaves, by the kind of session and the code, and its handing over. -/
theorem sessionExtendAndLampLevelActOnTheSession : Obligations.SessionExtendAndLampLevelActOnTheSession := by
  refine fun l s => ⟨fun admitted => ?_, fun level admitted => ?_⟩
  · have taken := exec_sessionExtend admitted
    refine ⟨fun a b w walkup => ?_, fun other => ?_⟩
    · intro now bound stop
      have stopIs : extendedEnd s b = stop := leastWith_nextStart bound s.finder
      rw [extendSession_walkup walkup, stopIs] at taken
      obtain ⟨u, answer, record, new, stands, frame⟩ := answerSession_granted s (.sessionExtend l)
        (r := { s.session with use := .walkup a stop (decide (stop ≤ now + 5)) })
        (fun differs => by rwa [Session.noticed_walkup rfl, Session.noticed_walkup walkup])
      rw [answer] at taken
      rw [← record] at new stands
      exact ⟨u, taken, record, fun differs => (new differs).2, stands, frame⟩
    · rw [extendSession_other other, answerSession_refused (by simp)] at taken
      exact taken
  · have taken := exec_lampLevel admitted level
    refine ⟨fun above => ?_, fun known none => ?_, fun v code live => ?_⟩
    · rw [levelSession_above above, answerSession_refused (by simp)] at taken
      exact taken
    · rw [levelSession_none known none, answerSession_refused (by simp)] at taken
      exact taken
    · subst code
      rw [levelSession_set live] at taken
      have stands := s.session.setRequested_eq_iff v
      obtain ⟨u, answer, record, new, kept, frame⟩ := answerSession_granted s (.lampLevel l (byte v.code))
        (r := { s.session with requested := v }) (fun differs same => differs (stands.mpr (by
          rw [← s.session.noticed_requested, ← same, Session.noticed_requested])))
      rw [answer] at taken
      exact ⟨u, taken, record, fun differs => new (stands.not.mpr differs), fun same => kept (stands.mpr same), frame⟩

end Sys2Proof.Machine
end

section
/-! What every command keeps of the waiting commands, the time, the write queue, the receive buffers and the attention lines:
the relation, and the operations of the blocks behind the links. -/

namespace Sys2Proof.Machine

open Sys2Proof.Config

/-! ## The relation -/

/-- What is kept from one state to another: the waiting commands, the order of time, and the laws of the write queue (R178), the
receive buffers (R164) and the attention lines (R171). -/
structure Orderly (s t : State) : Prop where
  pending : t.pending = s.pending
  now : s.now ≤ t.now
  queue : s.queueDistinct → t.queueDistinct
  buffers : s.buffersFit → t.buffersFit
  lines : s.linesFollow → t.linesFollow

theorem Orderly.refl (s : State) : Orderly s s := ⟨rfl, Nat.le_refl _, id, id, id⟩

theorem Orderly.trans {s t u : State} (h : Orderly s t) (k : Orderly t u) : Orderly s u where
  pending := k.pending.trans h.pending
  now := Nat.le_trans h.now k.now
  queue := k.queue ∘ h.queue
  buffers := k.buffers ∘ h.buffers
  lines := k.lines ∘ h.lines

/-- What a block behind the links keeps: the above, and the answering side of every link. -/
structure Inward (s t : State) : Prop extends Orderly s t where
  answering : ∀ l, (t.link l).answering = (s.link l).answering

theorem Inward.refl (s : State) : Inward s s := ⟨.refl s, fun _ => rfl⟩

theorem Inward.trans {s t u : State} (h : Inward s t) (k : Inward t u) : Inward s u :=
  ⟨h.toOrderly.trans k.toOrderly, fun l => (k.answering l).trans (h.answering l)⟩

/-- What the laws above read is the same in two states. -/
theorem Inward.of_same {s t : State} (pending : t.pending = s.pending) (now : s.now ≤ t.now) (store : t.store = s.store)
    (settings : t.settings = s.settings) (links : ∀ l, t.link l = s.link l) : Inward s t where
  pending := pending
  now := now
  queue h := by rwa [State.queueDistinct, store]
  buffers h l := by rw [links]; exact h l
  lines h l := by rw [links, settings]; exact h l
  answering l := by rw [links]

/-- The twelve flags make up a pending set. -/
theorem notices_ext {x y : NoticeSet} (h : ∀ n : Notice, x &&& n.flag = y &&& n.flag) : x = y := by
  refine BitVec.eq_of_getLsbD_eq fun i inSet => ?_
  obtain ⟨n, flag⟩ : ∃ n : Notice, n.flag.getLsbD i = true := by
    interval_cases i
    · exact ⟨.restarted, by decide⟩
    · exact ⟨.lamp, by decide⟩
    · exact ⟨.account, by decide⟩
    · exact ⟨.picture, by decide⟩
    · exact ⟨.geometry, by decide⟩
    · exact ⟨.plates, by decide⟩
    · exact ⟨.lockout, by decide⟩
    · exact ⟨.session, by decide⟩
    · exact ⟨.schedule, by decide⟩
    · exact ⟨.clock, by decide⟩
    · exact ⟨.store, by decide⟩
    · exact ⟨.link, by decide⟩
  simpa [flag] using congrArg (BitVec.getLsbD · i) (h n)

/-- The blocks that none of the laws above reads. -/
def quietBlocks : List Block :=
  [.choices, .account, .lamp, .scanner, .switch, .geometry, .policy, .clock, .table, .finder, .session, .receivers, .silence,
    .restart, .supply, .startUp, .pins]

theorem Untouched.inward {A : List Block} {s t : State} (h : Untouched A s t) (quiet : within A quietBlocks = true) :
    Inward s t := by
  have rest := h.mono quiet
  refine .of_same (rest .queue (by decide)) (Nat.le_of_eq (rest .time (by decide)).symm) (rest .store (by decide))
    (rest .settings (by decide)) fun l => ?_
  have interface : (t.link l).quiet = (s.link l).quiet := rest .links (by decide) l
  have notices : (t.link l).notices = (s.link l).notices :=
    notices_ext fun n => rest (.notice n) (by simp [quietBlocks]) l
  have attention : (t.link l).attention = (s.link l).attention := rest .attention (by decide) l
  calc t.link l = { (t.link l).quiet with notices := (t.link l).notices, attention := (t.link l).attention } := rfl
    _ = s.link l := by rw [interface, notices, attention]; rfl

/-! ## Time, notices and the write queue -/

theorem State.later_inward {s : State} {n : Nat} (later : s.now ≤ n) : Inward s { s with now := n } :=
  .of_same rfl later rfl rfl fun l => by cases l <;> rfl

theorem State.reach_inward (s : State) (due : Nat) : Inward s (s.reach due) := State.later_inward (Nat.le_max_left _ _)

theorem State.elapse_inward (s : State) (d : Nat) : Inward s (s.elapse d) := State.later_inward (Nat.le_add_right _ _)

/-- R171: raising a notice settles the three lines. -/
theorem State.raise_inward (s : State) (n : Notice) : Inward s (s.raise n) where
  pending := rfl
  now := Nat.le_refl _
  queue h := h
  buffers h l := by rw [s.link_raise]; exact h l
  lines _ l := by rw [s.link_raise]; rfl
  answering l := by rw [s.link_raise]; rfl

theorem State.raiseIf_inward (s : State) (c : Bool) (n : Notice) : Inward s (s.raiseIf c n) := by
  cases c
  · exact .refl s
  · exact s.raise_inward n

/-- A change of the store whose queue stays free of repetitions. -/
theorem State.store_inward {s : State} {x : Store} (distinct : s.store.queue.Nodup → x.queue.Nodup) :
    Inward s { s with store := x } where
  pending := rfl
  now := Nat.le_refl _
  queue := distinct
  buffers h l := by have same := h l; cases l <;> exact same
  lines h l := by have same := h l; cases l <;> exact same
  answering l := by cases l <;> rfl

/-- R179: a write that begins takes the head of the queue. -/
theorem State.startWrite_inward (s : State) : Inward s s.startWrite := by
  unfold State.startWrite
  split
  · split
    · exact .refl s
    · rename_i k rest queue
      refine State.store_inward fun distinct => ?_
      rw [queue] at distinct
      exact distinct.of_cons
  · exact .refl s

theorem enqueue_nodup {q : List Kind} (distinct : q.Nodup) (k : Kind) : (enqueue q k).Nodup := by
  unfold enqueue
  split
  · exact distinct
  · rename_i absent
    exact List.nodup_append.mpr ⟨distinct, by simp, by simpa using fun x mem same => absent (by simpa [← same] using mem)⟩

theorem accountFirst_nodup {q : List Kind} (distinct : q.Nodup) : (accountFirst q).Nodup :=
  List.nodup_cons.mpr ⟨by simp, distinct.filter _⟩

theorem State.queueKind_inward (s : State) (k : Kind) : Inward s (s.queueKind k) :=
  (State.store_inward fun distinct => enqueue_nodup distinct k).trans (State.startWrite_inward _)

theorem State.warnSupply_inward (s : State) : Inward s s.warnSupply := by
  have headed : Inward s { s with store := { s.store with queue := accountFirst s.store.queue } } :=
    State.store_inward accountFirst_nodup
  have warned : Inward { s with store := { s.store with queue := accountFirst s.store.queue } } s.warned :=
    .of_same rfl (Nat.le_refl _) rfl rfl fun l => by cases l <;> rfl
  exact (headed.trans warned).trans s.warned.startWrite_inward

theorem State.completeWrite_inward (s : State) (readBack : SlotLeft) : Inward s (s.completeWrite readBack) := by
  simp only [State.completeWrite]
  split
  · exact .refl s
  · rename_i w _
    have written : ∀ x : Store, x.queue = s.store.queue → Inward s { s.reach w.till with store := x } := fun x same =>
      (s.reach_inward _).trans (State.store_inward (by rw [same]; exact id))
    have begun := fun x same => (written x same).trans (State.startWrite_inward _)
    have faulted := fun x same => ((written x same).trans (State.raise_inward _ .store)).trans (State.startWrite_inward _)
    split
    · exact begun _ rfl
    · split
      · exact faulted _ rfl
      · exact written _ rfl

/-! ## The lamp account and the lamp controller -/

theorem State.settleMute_inward (s : State) : Inward s s.settleMute := by
  simp only [State.settleMute]
  split
  · exact .refl s
  · exact ((s.pins_update_untouched _).inward rfl).trans (State.raise_inward _ _)

theorem State.deriveStatus_inward (s : State) : Inward s s.deriveStatus := by
  unfold State.deriveStatus
  split
  · exact .refl s
  · exact ((s.account_update_untouched _).inward rfl).trans (State.raise_inward _ _)

theorem State.chargeStrike_inward (s : State) : Inward s s.chargeStrike :=
  ((s.account_update_untouched _).inward rfl).trans (State.deriveStatus_inward _)

theorem State.countIgnition_inward (s : State) : Inward s s.countIgnition := by
  refine ((s.account_update_untouched s.account.ignited).inward rfl).trans ?_
  unfold State.countIgnition State.consumeGrace
  split
  · exact ((State.account_update_untouched _ _).inward rfl).trans (State.raise_inward _ _)
  · exact .refl _

theorem State.endBurn_inward (s : State) (outage : Bool) : Inward s (s.endBurn outage) :=
  ((s.account_update_untouched _).inward rfl).trans (State.queueKind_inward _ _)

theorem State.checkpointIfDue_inward (s : State) : Inward s s.checkpointIfDue := by
  unfold State.checkpointIfDue
  split
  · exact ((s.account_update_untouched _).inward rfl).trans (State.queueKind_inward _ _)
  · exact .refl s

theorem State.settleLamp_inward (s : State) (old : Lamp) : Inward s (s.settleLamp old) :=
  ((s.deriveLevel_untouched.andThen (State.driveBallast_untouched _) (C := quietBlocks) rfl rfl).inward rfl).trans
    ((State.raiseIf_inward _ _ _).trans (State.settleMute_inward _))

/-- A new lamp is put in place and settled. -/
theorem State.settleNewLamp_inward (s : State) (x old : Lamp) : Inward s ({ s with lamp := x }.settleLamp old) :=
  ((s.lamp_update_untouched x).inward rfl).trans (State.settleLamp_inward _ _)

theorem State.startAttempt_inward (s : State) (first : Bool) : Inward s (s.startAttempt first) :=
  (((s.lamp_update_untouched _).inward rfl).trans (State.chargeStrike_inward _)).trans (State.settleLamp_inward _ _)

theorem State.holdStrike_inward (s : State) (cause : Blocked) : Inward s (s.holdStrike cause) :=
  (s.settleNewLamp_inward _ _).trans (State.raiseIf_inward _ _ _)

theorem State.strikeOrHold_inward (s : State) : Inward s s.strikeOrHold := by
  unfold State.strikeOrHold
  split
  · exact s.startAttempt_inward _
  · exact s.holdStrike_inward _

theorem State.recheckStrike_inward (s : State) : Inward s s.recheckStrike := by
  unfold State.recheckStrike
  split
  · exact .refl s
  · split
    · exact s.startAttempt_inward _
    · split
      · exact .refl s
      · exact s.holdStrike_inward _
  · exact .refl s

theorem State.handAccount_inward (s : State) (old : Account) : Inward s (s.handAccount old) := by
  unfold State.handAccount
  split
  · exact .refl s
  · exact (s.settleLamp_inward _).trans (State.recheckStrike_inward _)

theorem State.extinguish_inward (s : State) (outage : Bool) : Inward s (s.extinguish outage) :=
  (((s.lamp_update_untouched _).inward rfl).trans (State.endBurn_inward _ _)).trans (State.settleLamp_inward _ _)

theorem State.setDemand_inward (s : State) (on : Bool) : Inward s (s.setDemand on) := by
  have demanded := (s.lamp_update_untouched { s.lamp with demand := on }).inward rfl
  simp only [State.setDemand]
  split
  · exact .refl s
  · split
    · exact demanded.trans (State.strikeOrHold_inward _)
    · exact s.settleNewLamp_inward _ _
    · exact s.settleNewLamp_inward _ _
    · exact s.settleNewLamp_inward _ _
    · exact demanded
    · exact demanded
    · exact demanded.trans (State.extinguish_inward _ _)

theorem State.setRequested_inward (s : State) (level : LampLevel) : Inward s (s.setRequested level) := by
  unfold State.setRequested
  split
  · exact .refl s
  · exact s.settleNewLamp_inward _ _

theorem State.setTemp_inward (s : State) (t : TempState) : Inward s (s.setTemp t) := by
  simp only [State.setTemp]
  split
  · exact .refl s
  · have heated := s.settleNewLamp_inward { s.lamp with temp := t } s.lamp
    split
    · exact heated.trans (State.extinguish_inward _ _)
    · exact heated.trans (State.recheckStrike_inward _)

/-! ## The lamp's events -/

theorem State.strikeWindowEnds_inward (s : State) : Inward s s.strikeWindowEnds := by
  unfold State.strikeWindowEnds
  split
  · have failed := (s.reach_inward s.lamp.timerEnd).trans ((State.countFailed_untouched _).inward rfl)
    dsimp only
    split
    · exact failed.trans (State.settleNewLamp_inward _ _ _)
    · exact failed.trans (State.settleNewLamp_inward _ _ _)
  · exact .refl s

theorem State.retryWaitEnds_inward (s : State) : Inward s s.retryWaitEnds := by
  unfold State.retryWaitEnds
  split
  · have due := s.reach_inward s.lamp.timerEnd
    dsimp only
    split
    · exact due.trans (State.startAttempt_inward _ _)
    · exact due.trans (State.holdStrike_inward _ _)
  · exact .refl s

theorem State.warmUpEnds_inward (s : State) : Inward s s.warmUpEnds := by
  unfold State.warmUpEnds
  split
  · exact (s.reach_inward _).trans (State.settleNewLamp_inward _ _ _)
  · exact .refl s

theorem State.cooldownEnds_inward (s : State) : Inward s s.cooldownEnds := by
  unfold State.cooldownEnds
  split
  · have cooled := (s.reach_inward s.lamp.timerEnd).trans
      (State.settleNewLamp_inward _ { s.lamp with state := .off .none } s.lamp)
    dsimp only
    split
    · exact cooled.trans (State.strikeOrHold_inward _)
    · exact cooled
  · exact .refl s

theorem State.litConfirms_inward (s : State) : Inward s s.litConfirms := by
  unfold State.litConfirms
  split
  · split
    · exact ((s.reach_inward _).trans (State.countIgnition_inward _)).trans (State.settleNewLamp_inward _ _ _)
    · exact .refl s
  · exact .refl s

theorem State.outageFalls_inward (s : State) : Inward s s.outageFalls := by
  unfold State.outageFalls
  split
  · split
    · exact (s.reach_inward _).trans (State.extinguish_inward _ _)
    · exact .refl s
  · exact .refl s

theorem State.silenceFound_inward (s : State) : Inward s s.silenceFound := by
  unfold State.silenceFound
  split
  · exact .refl s
  · exact ((s.reach_inward _).trans (State.setTemp_inward _ _)).trans ((State.silence_update_untouched _ _).inward rfl)

theorem State.chargeSecond_inward (s : State) : Inward s s.chargeSecond := by
  unfold State.chargeSecond
  split
  · exact ((((s.account_update_untouched _).inward rfl).trans (State.deriveStatus_inward _)).trans
      (State.handAccount_inward _ _)).trans (State.checkpointIfDue_inward _)
  · exact .refl s

theorem State.accountSecond_inward (s : State) : Inward s s.accountSecond :=
  s.chargeSecond_inward.trans ((State.countWarm_untouched _).inward rfl)

theorem State.serviceAccount_inward (s : State) (a : Account) : Inward s (s.serviceAccount a) :=
  ((((s.account_update_untouched _).inward rfl).trans (State.deriveStatus_inward _)).trans
    (State.raiseIf_inward _ _ _)).trans ((State.queueKind_inward _ _).trans (State.handAccount_inward _ _))

/-! ## The geometry unit and the switch sequencer -/

theorem State.putGeometry_inward (s : State) (g : Geometry) : Inward s (s.putGeometry g) :=
  ((s.geometry_update_untouched _).inward rfl).trans (State.raiseIf_inward _ _ _)

theorem State.tiltGoesSilent_inward (s : State) : Inward s s.tiltGoesSilent := by
  unfold State.tiltGoesSilent
  split
  · exact .refl s
  · exact ((s.reach_inward _).trans ((State.geometry_update_untouched _ _).inward rfl)).trans (State.raise_inward _ _)

/-- A new state of the sequencer is put in place and MUTE settled. -/
theorem State.settleNewSwitch_inward (s : State) (x : Switch) : Inward s { s with switch := x }.settleMute :=
  ((s.switch_update_untouched x).inward rfl).trans (State.settleMute_inward _)

theorem State.routingAction_inward (s : State) (t : Nat) : Inward s (s.routingAction t) := by
  have routed : ∀ w p, Inward s { s with switch := w, pins := p } := fun w p =>
    .of_same rfl (Nat.le_refl _) rfl rfl fun l => by cases l <;> rfl
  exact ((routed _ _).trans (State.putGeometry_inward _ _)).trans (State.settleMute_inward _)

theorem State.enterSeeking_inward (s : State) (r : Option Nat) : Inward s (s.enterSeeking r) := s.settleNewSwitch_inward _

theorem State.enterSettled_inward (s : State) (x : SwitchState) : Inward s (s.enterSettled x) :=
  (((s.switch_update_untouched _).inward rfl).trans (State.raise_inward _ _)).trans (State.settleMute_inward _)

theorem State.enterMuting_inward (s : State) : Inward s s.enterMuting := by
  have muting := s.settleNewSwitch_inward { s.switch with
    state := .muting, ring := [], streak := 0, missMark := false, timerEnd := s.now + s.settings.muteLead * millisecond }
  simp only [State.enterMuting]
  split
  · exact muting.trans (State.routingAction_inward _ _)
  · exact muting

theorem State.requestSettled_inward (s : State) (t : Nat) (c : Requester) : Inward s (s.requestSettled t c).1 := by
  have taken := fun x => (s.switch_update_untouched x).inward rfl
  simp only [State.requestSettled]
  split
  · split
    · exact (taken _).trans (State.enterSeeking_inward _ _)
    · exact .refl s
  · split
    · exact (taken _).trans (State.enterMuting_inward _)
    · exact (taken _).trans (State.routingAction_inward _ _)

theorem State.requestInTransit_inward (s : State) (t : Nat) (c : Requester) : Inward s (s.requestInTransit t c).1 := by
  have taken := fun x => (s.switch_update_untouched x).inward rfl
  simp only [State.requestInTransit]
  split
  · exact .refl s
  · split
    · exact .refl s
    · split
      · exact taken _
      · exact (taken _).trans (State.routingAction_inward _ _)

theorem State.requestSwitch_inward (s : State) (t : Nat) (c : Requester) : Inward s (s.requestSwitch t c).1 := by
  unfold State.requestSwitch
  split
  · exact .refl s
  · split
    · exact .refl s
    · split
      · exact s.requestSettled_inward t c
      · exact s.requestInTransit_inward t c

theorem State.loseSync_inward (s : State) (r : Option Nat) : Inward s (s.loseSync r) :=
  (s.enterSeeking_inward r).trans (State.raise_inward _ _)

theorem State.judgeSeeking_inward (s : State) (i : Nat) : Inward s (s.judgeSeeking i) := by
  have keep := fun x => (s.switch_update_untouched x).inward rfl
  simp only [State.judgeSeeking]
  split
  · exact keep _
  · split
    · exact keep _
    · split
      · split
        · exact (keep _).trans (State.settleNewSwitch_inward _ _)
        · exact keep _
      · exact keep _

theorem State.judgeShowing_inward (s : State) (i : Nat) : Inward s (s.judgeShowing i) := by
  have timed := fun x n => ((s.switch_update_untouched x).andThen (State.restartWatch_untouched _ n) (C := [.switch])
    rfl rfl).inward rfl
  unfold State.judgeShowing
  split
  · exact timed _ _
  · split
    · exact s.loseSync_inward _
    · exact timed _ _

theorem State.takeEdge_inward (s : State) : Inward s s.takeEdge := by
  have edge := (s.switch_update_untouched { s.switch with reference := some s.now }).inward rfl
  simp only [State.takeEdge]
  split
  · split
    · exact edge.trans ((State.restartWatch_untouched _ _).inward rfl)
    · exact edge
  · split
    · exact edge.trans (State.judgeShowing_inward _ _)
    · exact edge.trans (State.judgeSeeking_inward _ _)

theorem State.vsync_inward (s : State) (e : SyncEdge) : Inward s (s.vsync e) := by
  unfold State.vsync
  split
  · exact s.takeEdge_inward
  · exact .refl s

theorem State.muteLeadEnds_inward (s : State) : Inward s s.muteLeadEnds := by
  unfold State.muteLeadEnds
  split
  · exact (s.reach_inward _).trans (State.routingAction_inward _ _)
  · exact .refl s

theorem State.maskEnds_inward (s : State) : Inward s s.maskEnds := by
  unfold State.maskEnds
  split
  · have due := s.reach_inward s.switch.timerEnd
    dsimp only
    split
    · exact due.trans (State.enterSettled_inward _ _)
    · exact due.trans (State.enterSeeking_inward _ _)
  · exact .refl s

theorem State.seekEnds_inward (s : State) : Inward s s.seekEnds := by
  unfold State.seekEnds
  split
  · have due := s.reach_inward s.switch.timerEnd
    dsimp only
    split
    · exact (due.trans ((State.switch_update_untouched _ _).inward rfl)).trans (State.routingAction_inward _ _)
    · exact due.trans (State.enterSettled_inward _ _)
  · exact .refl s

theorem State.confirmEnds_inward (s : State) : Inward s s.confirmEnds := by
  unfold State.confirmEnds
  split
  · exact ((s.reach_inward _).trans ((State.switch_update_untouched _ _).inward rfl)).trans (State.enterSettled_inward _ _)
  · exact .refl s

theorem State.watchEnds_inward (s : State) : Inward s s.watchEnds := by
  unfold State.watchEnds
  split
  · exact (s.reach_inward _).trans (State.loseSync_inward _ _)
  · exact .refl s

/-! ## The room bus -/

theorem State.slotFails_inward (s : State) (n : Nat) (bad : Bool) : Inward s (s.slotFails n bad) :=
  ((((s.scanner_update_untouched _).inward rfl).trans ((State.setPlate_untouched _ _ _).inward rfl)).trans
    (State.raiseIf_inward _ _ _)).trans ((State.endSlot_untouched _ _).inward rfl)

theorem State.goodReply_inward (s : State) (n : Nat) (r : Reply) : Inward s (s.goodReply n r) := by
  have heard := ((s.setPlate_untouched n r.record).inward rfl).trans
    (State.raiseIf_inward _ (platesNoticed (s.plate n) r.record) .plates)
  have ended := fun u : State => (u.endSlot_untouched n).inward rfl
  simp only [State.goodReply]
  split
  · refine (heard.trans ?_).trans (ended _)
    unfold State.plateRequest
    split
    · exact State.requestSwitch_inward _ _ _
    · exact .refl _
  · exact heard.trans (ended _)

theorem State.busByte_inward (s : State) (b : Byte) : Inward s (s.busByte b) := by
  have windowed := fun x => (s.scanner_update_untouched x).inward rfl
  unfold State.busByte
  split
  · unfold State.judgeReply
    split
    · split
      · exact s.slotFails_inward _ _
      · split
        · exact s.goodReply_inward _ _
        · exact windowed _
    · exact windowed _
  · exact .refl s

theorem State.startCycle_inward (s : State) : Inward s s.startCycle :=
  (((s.scanner_update_untouched _).inward rfl).trans (State.raiseIf_inward _ _ _)).trans
    ((State.startPoll_untouched _ _).inward rfl)

theorem State.pollEnds_inward (s : State) : Inward s s.pollEnds := by
  unfold State.pollEnds
  split
  · exact (s.reach_inward _).trans (.of_same rfl (Nat.le_refl _) rfl rfl fun l => by cases l <;> rfl)
  · exact .refl s

theorem State.windowEnds_inward (s : State) : Inward s s.windowEnds := by
  unfold State.windowEnds
  split
  · exact (s.reach_inward _).trans (State.slotFails_inward _ _ _)
  · exact .refl s

theorem State.cycleGapEnds_inward (s : State) : Inward s s.cycleGapEnds := by
  unfold State.cycleGapEnds
  split
  · exact (s.reach_inward _).trans (State.startCycle_inward _)
  · exact .refl s

theorem State.missLimitWritten_inward (s : State) : Inward s s.missLimitWritten :=
  ((s.scanner_update_untouched _).inward rfl).trans (State.raiseIf_inward _ _ _)

/-! ## The policy unit, the finder and the session controller -/

theorem State.deriveEffective_inward (s : State) (quiet : Bool) : Inward s (s.deriveEffective quiet) := by
  unfold State.deriveEffective
  split
  · exact .refl s
  · exact (((s.policy_update_untouched _).inward rfl).trans (State.raiseIf_inward _ _ _)).trans
      (State.recheckStrike_inward _)

theorem State.setBase_inward (s : State) (level : Level) (quiet : Bool) : Inward s (s.setBase level quiet) :=
  ((s.policy_update_untouched _).inward rfl).trans (State.deriveEffective_inward _ _)

theorem State.setOverride_inward (s : State) (o : Option Override) : Inward s (s.setOverride o) :=
  ((s.policy_update_untouched _).inward rfl).trans (State.deriveEffective_inward _ _)

theorem State.handOver_inward (s : State) (quiet : Bool) : Inward s (s.handOver quiet) :=
  (((s.setBase_inward _ quiet).trans (State.setRequested_inward _ _)).trans (State.setDemand_inward _ _)).trans
    (State.settleNewSwitch_inward _ _)

theorem State.recompute_inward (s : State) (quiet : Bool) : Inward s (s.recompute quiet) :=
  ((s.finder_update_untouched _).inward rfl).trans (State.raiseIf_inward _ _ _)

theorem State.issueSource_inward (s : State) (plate : Nat) : Inward s (s.issueSource plate) :=
  (s.requestSwitch_inward plate .schedule).trans ((State.setOwed_untouched _ _).inward rfl)

theorem State.serveSource_inward (s : State) (started : Bool) : Inward s (s.serveSource started) := by
  simp only [State.serveSource]
  split
  · split
    · split
      · exact .refl s
      · exact s.issueSource_inward _
    · split
      · split
        · exact .refl s
        · split
          · exact s.issueSource_inward _
          · exact (s.setOwed_untouched _).inward rfl
      · exact .refl s
  · exact .refl s

theorem State.runner_inward (s : State) (ev : RunnerEvent) : Inward s (s.runner ev) :=
  ((((s.session_update_untouched (runRecord s ev).1).inward rfl).trans (State.handOver_inward _ ev.quiet)).trans
    (State.serveSource_inward _ (runRecord s ev).2)).trans (State.raiseIf_inward _ _ _)

theorem State.putSession_inward (s : State) (r : Session) : Inward s (s.putSession r) :=
  (((s.session_update_untouched r).inward rfl).trans (State.handOver_inward _ _)).trans (State.raiseIf_inward _ _ _)

theorem answerSession_inward (s : State) (r : Session × Status) : Inward s (answerSession s r).state := by
  simp only [answerSession]
  split
  · split
    · exact .refl s
    · exact s.putSession_inward _
  · exact .refl s

theorem State.setClock_inward (s : State) (c : Clock) : Inward s (s.setClock c) :=
  ((((s.clock_update_untouched c).inward rfl).trans (State.raise_inward _ _)).trans (State.recompute_inward _ _)).trans
    (State.runner_inward _ _)

theorem State.changeTable_inward (s : State) (table : List Entry) (replaced : Option Nat) :
    Inward s (s.changeTable table replaced) :=
  ((((s.table_update_untouched table).inward rfl).trans (State.raise_inward _ _)).trans (State.queueKind_inward _ _)).trans
    ((State.recompute_inward _ _).trans (State.runner_inward _ _))

theorem State.putEntry_inward (s : State) (e : Entry) : Inward s (s.putEntry e).state := by
  unfold State.putEntry
  split
  · exact .refl s
  · dsimp only
    split
    · exact .refl s
    · exact s.changeTable_inward _ _

/-! ## The second event -/

theorem State.takeMinute_inward (s : State) (wrapped first : Bool) : Inward s (s.takeMinute wrapped first) := by
  have minute := fun u : State => (u.recompute_inward false).trans (State.runner_inward _ { clockSet := wrapped })
  unfold State.takeMinute
  split
  · exact .refl s
  · split
    · exact (s.setOverride_inward _).trans (minute _)
    · exact (minute s).trans (State.setOverride_inward _ _)

theorem State.advanceClock_inward (s : State) : Inward s s.advanceClock :=
  ((s.reach_inward _).trans ((State.clock_update_untouched _ _).inward rfl)).trans (State.raiseIf_inward _ _ _)

theorem State.secondPasses_inward (s : State) (a b : Bool) : Inward s (s.secondPasses a b) := by
  simp only [State.secondPasses]
  split
  · exact s.advanceClock_inward.trans (State.accountSecond_inward _)
  · split
    · exact s.advanceClock_inward.trans ((State.accountSecond_inward _).trans (State.takeMinute_inward _ _ _))
    · exact s.advanceClock_inward.trans ((State.takeMinute_inward _ _ _).trans (State.accountSecond_inward _))

end Sys2Proof.Machine
end

section
/-! What every command keeps of the waiting commands, the time, the write queue, the receive buffers and the attention lines:
the links, the requests, the resets and start-up, and the laws that follow. -/

namespace Sys2Proof.Machine

open Sys2Proof.Config

/-! ## A write of one link -/

/-- What a change of one link must respect: its pending set and its line, whether it is HELD, and the size of its buffer. -/
structure LinkKept (x y : LinkState) : Prop where
  notices : y.notices = x.notices
  attention : y.attention = x.attention
  held : y.answering = .held ↔ x.answering = .held
  fits : x.held ≤ bufferSize → y.held ≤ bufferSize

theorem State.setLink_orderly {s : State} {l : Link} {x : LinkState} (kept : LinkKept (s.link l) x) :
    Orderly s (s.setLink l x) where
  pending := State.setLink_pending _ _ _
  now := Nat.le_of_eq (State.setLink_now _ _ _).symm
  queue h := by rwa [State.queueDistinct, State.setLink_store]
  buffers h k := by
    by_cases same : k = l
    · rw [same, State.link_setLink_same]
      exact kept.fits (h l)
    · rw [State.link_setLink_other _ _ _ _ same]
      exact h k
  lines h k := by
    rw [State.setLink_settings]
    by_cases same : k = l
    · have asleep : (x.answering != .held) = ((s.link l).answering != .held) := by
        rw [Bool.eq_iff_iff, bne_iff_ne, bne_iff_ne]
        exact kept.held.not
      rw [same, State.link_setLink_same, kept.attention, kept.notices, asleep]
      exact h l
    · rw [State.link_setLink_other _ _ _ _ same]
      exact h k

theorem State.setLink_inward {s : State} {l : Link} {x : LinkState} (kept : LinkKept (s.link l) x)
    (answering : x.answering = (s.link l).answering) : Inward s (s.setLink l x) := by
  refine ⟨State.setLink_orderly kept, fun k => ?_⟩
  by_cases same : k = l
  · rw [same, State.link_setLink_same, answering]
  · rw [State.link_setLink_other _ _ _ _ same]

/-- R171: a link whose pending set and mask may change, with the line settled after the change. -/
theorem State.settled_inward {s : State} {l : Link} {v : Settings} (n : NoticeSet)
    (masks : ∀ k, k ≠ l → v.maskOf k = s.settings.maskOf k) :
    Inward s ({ s with settings := v }.setLink l ({ s.link l with notices := n }.settle (v.maskOf l))) := by
  have other : ∀ k, k ≠ l → ({ s with settings := v }.setLink l
      ({ s.link l with notices := n }.settle (v.maskOf l))).link k = s.link k := fun k apart => by
    rw [State.link_setLink_other _ _ _ _ apart]
    cases k <;> rfl
  refine ⟨⟨State.setLink_pending _ _ _, by rw [State.setLink_now], fun h => ?_, fun h k => ?_, fun h k => ?_⟩, fun k => ?_⟩
  · rwa [State.queueDistinct, State.setLink_store]
  all_goals by_cases same : k = l
  · rw [same, State.link_setLink_same]
    exact h l
  · rw [other k same]
    exact h k
  · rw [same, State.link_setLink_same, State.setLink_settings]
    rfl
  · rw [other k same, State.setLink_settings]
    show _ = (_ && _ &&& v.maskOf k != 0)
    rw [masks k same]
    exact h k
  · rw [same, State.link_setLink_same]
    rfl
  · rw [other k same]

theorem State.settleLine_inward (s : State) (l : Link) : Inward s (s.settleLine l) :=
  State.settled_inward (v := s.settings) (s.link l).notices fun _ _ => rfl

/-- R173: LINK, raised on one link, settles its line. -/
theorem State.raiseLink_inward (s : State) (l : Link) : Inward s (s.raiseLink l) :=
  State.settled_inward (v := s.settings) ((s.link l).notices ||| Notice.link.flag) fun _ _ => rfl

theorem State.countError_inward (s : State) (l : Link) (c : ErrorCounter) : Inward s (s.countError l c) := by
  unfold State.countError
  split
  · refine Inward.trans (State.setLink_inward ?_ ?_) (State.raiseLink_inward _ _)
    · cases c <;> exact ⟨rfl, rfl, Iff.rfl, id⟩
    · cases c <;> rfl
  · exact .refl s

/-! ## The receiver (R162 to R164) -/

/-- A link whose buffer changes, with what its line goes by left alone. -/
theorem LinkKept.of_buffer {x : LinkState} {collecting : Option (List Byte)} {frames : List (List Byte)} {at' : Nat}
    {inHand : Option (List Byte)}
    (fits : x.held ≤ bufferSize →
      (frames.map List.length).sum + (inHand.getD []).length + (collecting.getD []).length ≤ bufferSize) :
    LinkKept x { x with collecting := collecting, lastByteAt := at', frames := frames, inHand := inHand } :=
  ⟨rfl, rfl, Iff.rfl, fits⟩

/-- R162, R163, R164: a frame being collected is abandoned and counted. -/
theorem State.abandon_inward (s : State) (l : Link) (c : ErrorCounter) :
    Inward s ((s.setLink l { s.link l with collecting := none }).countError l c) := by
  have hunting : LinkKept (s.link l) { s.link l with collecting := none } := .of_buffer fun fits => by
    simp only [LinkState.held, Option.getD_none, List.length_nil] at fits ⊢
    omega
  exact (State.setLink_inward hunting rfl).trans (State.countError_inward _ _ _)

/-- R164: a byte is stored in a buffer that holds fewer than 64. -/
theorem State.storeByte_inward {s : State} {l : Link} {bytes : List Byte} (collecting : (s.link l).collecting = some bytes)
    (room : ¬bufferSize ≤ (s.link l).held) (b : Byte) : Inward s (s.storeByte l bytes b) := by
  simp only [LinkState.held, collecting, Option.getD_some] at room
  simp only [State.storeByte]
  split
  · exact s.abandon_inward l _
  · split
    · refine State.setLink_inward (.of_buffer fun _ => ?_) rfl
      simp only [List.map_append, List.map_cons, List.map_nil, List.sum_append, List.sum_cons, List.sum_nil,
        List.length_append, List.length_singleton, Option.getD_none, List.length_nil]
      omega
    · refine State.setLink_inward (.of_buffer fun _ => ?_) rfl
      simp only [List.length_append, List.length_singleton, Option.getD_some]
      omega

theorem State.receive_inward (s : State) (l : Link) (b : Byte) : Inward s (s.receive l b) := by
  simp only [State.receive]
  split
  · rename_i hunt
    split
    · exact .refl s
    · split
      · exact s.countError_inward l _
      · rename_i room
        refine State.setLink_inward (.of_buffer fun _ => ?_) rfl
        simp only [LinkState.held, hunt, Option.getD_none, List.length_nil] at room
        simp only [Option.getD_some, List.length_singleton]
        omega
  · rename_i bytes collecting
    split
    · exact s.abandon_inward l _
    · rename_i room
      exact State.storeByte_inward collecting room b

theorem State.byteArrives_inward (s : State) (l : Link) (b : Byte) : Inward s (s.byteArrives l b) := by
  have counted := fun on => (s.receivers_update_untouched (s.choices + 1) on).inward rfl
  simp only [State.byteArrives]
  split
  · exact s.receive_inward l b
  · split
    · exact (counted true).trans (State.receive_inward _ l b)
    · exact counted s.receiversOn

theorem State.bytesArrive_inward (s : State) (l : Link) (bytes : List Byte) : Inward s (s.bytesArrive l bytes) := by
  induction bytes generalizing s with
  | nil => exact .refl s
  | cons b rest ih => exact (s.byteArrives_inward l b).trans (ih _)

theorem State.gapExpires_inward (s : State) (l : Link) : Inward s (s.gapExpires l) := by
  unfold State.gapExpires
  split
  · exact .refl s
  · exact (s.reach_inward _).trans (State.abandon_inward _ l _)

/-! ## Settings (R161, R170, R181) -/

theorem LinkState.applyRate_kept (x : LinkState) (rate : Nat) : LinkKept x (x.applyRate rate) := by
  unfold LinkState.applyRate
  split
  · refine ⟨rfl, rfl, Iff.rfl, fun fits => ?_⟩
    simp only [LinkState.held, List.map_nil, List.sum_nil, Option.getD_none, List.length_nil] at fits ⊢
    omega
  · exact ⟨rfl, rfl, Iff.rfl, id⟩

theorem LinkState.applyRate_answering (x : LinkState) (rate : Nat) : (x.applyRate rate).answering = x.answering := by
  unfold LinkState.applyRate
  split <;> rfl

theorem State.rateWritten_inward (s : State) (l : Link) : Inward s (s.rateWritten l) := by
  have due : LinkKept (s.link l) { s.link l with rateDue := true } := ⟨rfl, rfl, Iff.rfl, id⟩
  simp only [State.rateWritten]
  split
  · exact State.setLink_inward due rfl
  · obtain ⟨notices, attention, held, fits⟩ := LinkState.applyRate_kept { s.link l with rateDue := true } (s.settings.rateOf l)
    exact State.setLink_inward ⟨notices, attention, held, fits⟩ (LinkState.applyRate_answering _ _)

/-- R181: the mask of a link changes by a write of that mask alone. -/
theorem Settings.put_maskOf (v : Settings) {i : SettingId} (n : Nat) {l : Link} (other : i ≠ .mask l) :
    (v.put i n).maskOf l = v.maskOf l :=
  BitVec.eq_of_toNat_eq (v.get_put_other (j := .mask l) n (Ne.symm other))

theorem State.settingPut_inward (s : State) {i : SettingId} (n : Nat) (other : ∀ l, i ≠ .mask l) :
    Inward s (s.settingPut i n) where
  pending := rfl
  now := Nat.le_refl _
  queue h := h
  buffers h l := by have same := h l; cases l <;> exact same
  lines h l := by
    show _ = (_ && _ &&& (s.settings.put i n).maskOf l != 0)
    rw [s.settings.put_maskOf n (other l)]
    have same := h l
    cases l <;> exact same
  answering l := by cases l <;> rfl

theorem State.settingWritten_inward (s : State) (i : SettingId) : Inward s (s.settingWritten i) := by
  cases i with
  | lifeLimit | warningMargin => exact s.deriveStatus_inward.trans (State.handAccount_inward _ _)
  | missLimit => exact s.missLimitWritten_inward
  | panelWidth | panelHeight => exact s.putGeometry_inward _
  | tiltGain | tiltAveraging =>
    show Inward s s.tiltSettingWritten
    unfold State.tiltSettingWritten
    split
    · exact .refl s
    · exact s.putGeometry_inward _
  | idleLevel | walkupLevel => exact s.setBase_inward _ _
  | rate l => exact s.rateWritten_inward l
  | mask l => exact s.settleLine_inward l
  | _ => exact .refl s

theorem State.settingTaken_inward (s : State) (i : SettingId) (n : Nat) : Inward s (s.settingTaken i n) := by
  have put : Inward s ((s.settingPut i n).settingWritten i) := by
    by_cases mask : ∃ l, i = .mask l
    · obtain ⟨l, rfl⟩ := mask
      have link : (s.settingPut (.mask l) n).link l = s.link l := by cases l <;> rfl
      have settled := State.settled_inward (v := s.settings.put (.mask l) n) (s.link l).notices
        fun k apart => s.settings.put_maskOf n fun same => apart (SettingId.mask.inj same).symm
      show Inward s ((s.settingPut (.mask l) n).settleLine l)
      rw [State.settleLine, link]
      exact settled
    · exact (s.settingPut_inward n (not_exists.mp mask)).trans (State.settingWritten_inward _ i)
  exact put.trans (State.queueKind_inward _ _)

/-! ## The owners of requests -/

theorem ownCountersClear_inward (s : State) : Inward s (ownCountersClear s).state where
  pending := rfl
  now := Nat.le_refl _
  queue h := h
  buffers h l := by have same := h l; cases l <;> exact same
  lines h l := by have same := h l; cases l <;> exact same
  answering l := by cases l <;> rfl

theorem Owned.inward {l : Link} {own : State → Answer} (owned : Owned l own) (s : State) : Inward s (own s).state := by
  cases owned with
  | roomRead | countersRead | lampRead | sourceRead | plateRead | lockoutRead | clockRead | entryList | occurrenceRead =>
    exact .refl s
  | noticeRead => exact State.settled_inward (v := s.settings) 0 fun _ _ => rfl
  | countersClear => exact ownCountersClear_inward s
  | restart => exact .of_same rfl (Nat.le_refl _) rfl rfl fun l => by cases l <;> rfl
  | sessionStart | sessionEnd | sessionExtend | lampLevel => exact answerSession_inward s _
  | lampReplaced =>
    unfold ownLampReplaced
    split
    · exact s.serviceAccount_inward _
    · exact .refl s
  | accountSet hours =>
    unfold ownAccountSet
    split
    · exact s.serviceAccount_inward _
    · exact .refl s
  | sourceSelect plate => exact s.requestSwitch_inward _ _
  | pictureMute onOff =>
    unfold ownPictureMute
    split
    · exact .refl s
    · exact s.settleNewSwitch_inward _
  | geometrySet mode v hor trim =>
    unfold ownGeometrySet
    split
    · exact .refl s
    · exact s.putGeometry_inward _
  | geometryTrim | tiltReport => exact s.putGeometry_inward _
  | presetStore => exact ((s.geometry_update_untouched _).inward rfl).trans (State.queueKind_inward _ _)
  | geometryRead plate =>
    unfold ownGeometryRead
    split
    · exact .refl s
    · split <;> exact .refl s
  | engineReport temperature =>
    unfold ownEngineReport
    split
    · exact .refl s
    · exact s.setTemp_inward _
  | overrideSet level minutes =>
    unfold ownOverrideSet
    split
    · exact .refl s
    · split
      · exact .refl s
      · exact s.setOverride_inward _
  | overrideClear => exact s.setOverride_inward _
  | clockSet date hour minute =>
    unfold ownClockSet
    split
    · exact .refl s
    · exact s.setClock_inward _
  | entryPut raw =>
    unfold ownEntryPut
    split
    · exact .refl s
    · split
      · exact s.putEntry_inward _
      · exact .refl s
  | entryDelete id =>
    unfold ownEntryDelete
    split
    · exact s.changeTable_inward _ _
    · exact .refl s
  | entryRead id =>
    unfold ownEntryRead
    split <;> exact .refl s
  | scheduleClear =>
    unfold ownScheduleClear
    split
    · exact .refl s
    · exact s.changeTable_inward _ _
  | settingWrite id value =>
    unfold ownSettingWrite
    split
    · exact .refl s
    · exact s.settingTaken_inward _ _
  | settingRead id =>
    unfold ownSettingRead
    split <;> exact .refl s

/-! ## The taking of requests (R165 to R167) -/

/-- R166, R171: a link that is not HELD begins to send; its line stands. -/
theorem State.respond_orderly {l : Link} (code : Byte) {a : Answer} (awake : (a.state.link l).answering ≠ .held) :
    Orderly a.state (State.respond l code a) :=
  State.setLink_orderly ⟨rfl, rfl, ⟨(nomatch ·), fun held => (awake held).elim⟩, id⟩

theorem State.hear_inward (s : State) (l : Link) : Inward s (s.hear l) := (s.hear_untouched l).inward rfl

theorem judged_inward (s : State) (c : Command) (l : Link) (payload : List Byte) :
    Inward s (judged c l (lengthChecked (ownerOf c l payload)) s).state := by
  unfold judged
  split
  · exact .refl s
  · cases fields : ownerOf c l payload with
    | none => exact .refl s
    | some own => exact (owned_of_ownerOf fields).inward s

/-- What is carried out behind the links is answered by a link that is not HELD. -/
theorem Inward.answered {s : State} {l : Link} {a : Answer} (carried : Inward s a.state)
    (awake : (s.link l).answering ≠ .held) (code : Byte) : Orderly s (State.respond l code a) :=
  carried.toOrderly.trans (State.respond_orderly code (by rwa [carried.answering]))

theorem State.decodeFrame_orderly {s : State} {l : Link} (awake : (s.link l).answering ≠ .held) (code : Byte)
    (payload : List Byte) : Orderly s (s.decodeFrame l code payload) := by
  have heard := s.hear_inward l
  unfold State.decodeFrame
  split
  · exact heard.answered awake _
  · exact (heard.trans (judged_inward _ _ l payload)).answered awake _

/-- R165, R166: a frame taken is in hand, in the place of the one before, or out of the buffer. -/
theorem State.takeFrame_orderly {s : State} {l : Link} {f : List Byte} {rest : List (List Byte)}
    (awake : (s.link l).answering ≠ .held) (waiting : (s.link l).frames = f :: rest) : Orderly s (s.takeFrame l f rest) := by
  simp only [State.takeFrame]
  split
  · refine Orderly.trans (State.setLink_orderly (.of_buffer fun fits => ?_)) (State.decodeFrame_orderly ?_ _ _)
    · simp only [LinkState.held, waiting, List.map_cons, List.sum_cons, Option.getD_some] at fits ⊢
      omega
    · rwa [State.link_setLink_same]
  · refine Orderly.trans (State.setLink_orderly (.of_buffer fun fits => ?_)) (State.countError_inward _ _ _).toOrderly
    simp only [LinkState.held, waiting, List.map_cons, List.sum_cons] at fits ⊢
    omega

theorem State.takeNext_orderly (s : State) (l : Link) : Orderly s (s.takeNext l) := by
  unfold State.takeNext
  split
  · rename_i ready waiting
    exact State.takeFrame_orderly (by rw [ready]; decide) waiting
  · exact .refl s

/-- R166: a link that sends comes to be READY; its line stands and its buffer holds no more. -/
theorem State.finishResponse_orderly {s : State} {l : Link} (sending : (s.link l).answering = .sending) :
    Orderly s (s.finishResponse l) := by
  rw [State.finishResponse_eq]
  obtain ⟨notices, attention, held, fits⟩ := (s.link l).answeredOut.applyRate_kept (s.settings.rateOf l)
  refine (s.reach_inward _).toOrderly.trans (State.setLink_orderly ?_)
  rw [State.link_reach]
  refine ⟨notices, attention, held.trans ⟨(nomatch ·), fun asleep => ?_⟩, fun room => fits ?_⟩
  · rw [sending] at asleep
    cases asleep
  · simp only [LinkState.held, LinkState.answeredOut, Option.getD_none, List.length_nil] at room ⊢
    omega

theorem State.takeTurn_orderly (s : State) (l : Link) : Orderly s (s.takeTurn l) := by
  unfold State.takeTurn
  split
  · rename_i sending
    split
    · exact .refl s
    · exact (State.finishResponse_orderly sending).trans (State.takeNext_orderly _ l)
  · exact s.takeNext_orderly l

theorem State.takeTurns_orderly (l : Link) (n : Nat) (s : State) : Orderly s (State.takeTurns l n s) := by
  induction n generalizing s with
  | zero => exact .refl s
  | succ n ih => exact (s.takeTurn_orderly l).trans (ih _)

theorem State.takeRequest_orderly (s : State) (c : Command) (l : Link) (payload : List Byte) :
    Orderly s (s.takeRequest c l payload) := by
  have arrived := (s.bytesArrive_inward l (requestFrame c payload)).toOrderly
  simp only [State.takeRequest]
  split
  · exact arrived.trans (State.takeTurns_orderly _ _ _)
  · exact arrived

/-! ## Resets and start-up -/

/-- R42, R176, R178: after any reset the queue and the buffers are empty and the lines released. -/
theorem State.afterReset_orderly (s : State) (cause : Cause) (cut : SlotLeft) : Orderly s (s.afterReset cause cut) where
  pending := rfl
  now := Nat.le_refl _
  queue _ := List.nodup_nil
  buffers _ l := by cases l <;> exact Nat.zero_le _
  lines _ l := by cases l <;> rfl

theorem State.responseSent_orderly (s : State) (l : Link) (cut : SlotLeft) : Orderly s (s.responseSent l cut) := by
  unfold State.responseSent
  split
  · rename_i sending
    split
    · exact (s.reach_inward _).toOrderly.trans (State.afterReset_orderly _ _ _)
    · exact State.finishResponse_orderly sending
  · exact .refl s

theorem State.backed_queue (s : State) : s.backed.store.queue = s.store.queue := by
  have checked : s.backed.store = s.preset.deriveLoaded.store := s.preset.deriveLoaded.checked_untouched .store (by decide)
  have derived : s.preset.deriveLoaded.store = s.preset.store := s.preset.deriveLoaded_untouched .store (by decide)
  rw [checked, derived]
  rfl

theorem LinkState.held_quiet (x : LinkState) : x.quiet.held = x.held := rfl

/-- R161, R177: loading the records moves no queue, no buffer and no time; the lines are settled only as the links are released. -/
theorem State.backed_keeps (s : State) : s.backed.pending = s.pending ∧ s.backed.now = s.now
    ∧ s.backed.store.queue = s.store.queue ∧ ∀ l, (s.backed.link l).held = (s.link l).held := by
  refine ⟨s.backed_untouched .queue (by decide), s.backed_untouched .time (by decide), s.backed_queue, fun l => ?_⟩
  have loaded : (s.backed.link l).quiet = (s.configured.link l).quiet := s.backed_untouched .links (by decide) l
  rw [← LinkState.held_quiet, loaded, (s.configured_link l).2]
  rfl

/-- R171, R184: start-up releases the links with their lines settled, so that these follow whatever came before. -/
theorem State.release_linesFollow (s : State) : s.release.linesFollow := fun l => by
  have settings : s.release.settings = s.settings := s.release_untouched .settings (by decide)
  rw [State.release_link, settings]
  rfl

theorem State.release_keeps (s : State) : s.release.pending = s.pending ∧ s.release.now = s.now
    ∧ s.release.store = s.store ∧ ∀ l, (s.release.link l).held = (s.link l).held :=
  ⟨s.release_untouched .queue (by decide), s.release_untouched .time (by decide), s.release_untouched .store (by decide),
    fun l => by rw [State.release_link]; rfl⟩

theorem State.startUp_orderly (s : State) : Orderly s s.startUp := by
  unfold State.startUp
  split
  · exact .refl s
  · rw [State.backed_eq]
    obtain ⟨pending, now, queue, held⟩ := s.backed_keeps
    have evaluated : Inward s.backed s.backed.evaluateSession :=
      (State.recompute_inward _ true).trans (State.runner_inward _ { quiet := true })
    obtain ⟨pending', now', store, held'⟩ := s.backed.evaluateSession.release_keeps
    have released : Orderly s s.backed.evaluateSession.release := {
      pending := pending'.trans (evaluated.pending.trans pending)
      now := by rw [now', ← now]; exact evaluated.now
      queue := fun h => by
        rw [State.queueDistinct, store]
        exact evaluated.queue (by rwa [State.queueDistinct, queue])
      buffers := fun h l => by
        rw [held']
        exact evaluated.buffers (fun k => by rw [held]; exact h k) l
      lines := fun _ => State.release_linesFollow _ }
    have watched : Inward s.backed.evaluateSession.release s.backed.evaluateSession.release.watchSupply := by
      unfold State.watchSupply
      split
      · exact State.warnSupply_inward _
      · exact .refl _
    exact released.trans (watched.trans ((State.startWrite_inward _).trans (State.startCycle_inward _))).toOrderly

/-! ## Every command -/

theorem exec_orderly (c : Instr) (s : State) : ∃ t, exec c s = .next t ∧ Orderly s t := by
  cases c
  case powerOn cut backup =>
    exact ⟨_, rfl, ((s.clock_update_untouched _).inward rfl).toOrderly.trans (State.afterReset_orderly _ _ _)⟩
  case resetPin cut => exact ⟨_, rfl, s.afterReset_orderly _ _⟩
  case supplyDrop cut => exact ⟨_, rfl, s.afterReset_orderly _ _⟩
  case startUpComplete => exact ⟨_, rfl, s.startUp_orderly⟩
  case receiveByte l b => exact ⟨_, rfl, (s.byteArrives_inward l b).toOrderly⟩
  case gap l => exact ⟨_, rfl, (s.gapExpires_inward l).toOrderly⟩
  case frameTake l => exact ⟨_, rfl, s.takeNext_orderly l⟩
  case responseSent l cut => exact ⟨_, rfl, s.responseSent_orderly l cut⟩
  case engineSilence => exact ⟨_, rfl, s.silenceFound_inward.toOrderly⟩
  case secondEvent => exact ⟨_, rfl, (s.secondPasses_inward _ _).toOrderly⟩
  case litChange high dt =>
    exact ⟨_, rfl, ((s.elapse_inward dt).trans ((State.litChanges_untouched _ high).inward rfl)).toOrderly⟩
  case litConfirmed => exact ⟨_, rfl, s.litConfirms_inward.toOrderly⟩
  case outage => exact ⟨_, rfl, s.outageFalls_inward.toOrderly⟩
  case strikeWindowExpiry => exact ⟨_, rfl, s.strikeWindowEnds_inward.toOrderly⟩
  case retryWaitExpiry => exact ⟨_, rfl, s.retryWaitEnds_inward.toOrderly⟩
  case warmUpExpiry => exact ⟨_, rfl, s.warmUpEnds_inward.toOrderly⟩
  case cooldownExpiry => exact ⟨_, rfl, s.cooldownEnds_inward.toOrderly⟩
  case pollSent => exact ⟨_, rfl, s.pollEnds_inward.toOrderly⟩
  case busByteReceived b => exact ⟨_, rfl, (s.busByte_inward b).toOrderly⟩
  case replyWindowExpiry => exact ⟨_, rfl, s.windowEnds_inward.toOrderly⟩
  case cycleGapExpiry => exact ⟨_, rfl, s.cycleGapEnds_inward.toOrderly⟩
  case vsyncEdge edge dt => exact ⟨_, rfl, ((s.elapse_inward dt).trans (State.vsync_inward _ edge)).toOrderly⟩
  case muteLeadExpiry => exact ⟨_, rfl, s.muteLeadEnds_inward.toOrderly⟩
  case maskExpiry => exact ⟨_, rfl, s.maskEnds_inward.toOrderly⟩
  case seekWindowExpiry => exact ⟨_, rfl, s.seekEnds_inward.toOrderly⟩
  case confirmDelayExpiry => exact ⟨_, rfl, s.confirmEnds_inward.toOrderly⟩
  case syncWatchExpiry => exact ⟨_, rfl, s.watchEnds_inward.toOrderly⟩
  case tiltSilenceExpiry => exact ⟨_, rfl, s.tiltGoesSilent_inward.toOrderly⟩
  case writeComplete readBack => exact ⟨_, rfl, (s.completeWrite_inward readBack).toOrderly⟩
  case supplyWarning =>
    have fallen : Inward s { s with supply := { s.supply with senseLow := true } } :=
      .of_same rfl (Nat.le_refl _) rfl rfl fun l => by cases l <;> rfl
    refine ⟨_, rfl, Inward.toOrderly ?_⟩
    split
    · exact fallen.trans (State.warnSupply_inward _)
    · exact fallen
  case supplyRecover =>
    refine ⟨_, rfl, Inward.toOrderly ?_⟩
    exact .of_same rfl (Nat.le_refl _) rfl rfl fun l => by cases l <;> rfl
  all_goals exact ⟨_, exec_request rfl s, s.takeRequest_orderly _ _ _⟩

/-- Settles O2: what every command keeps, by the operations it is made of. -/
theorem everyCommandAnswersAndKeepsTheQueue : Obligations.EveryCommandAnswersAndKeepsTheQueue := by
  intro c s
  obtain ⟨t, taken, kept⟩ := exec_orderly c s
  exact ⟨t, taken, kept.pending, kept.now⟩

/-- A law that what every command keeps gives, and that reads neither the waiting commands nor the time. -/
theorem keptByEveryStep_of_orderly {Inv : State → Prop} (frame : ∀ {s t : State}, Untouched [.queue, .time] s t → Inv s → Inv t)
    (kept : ∀ {s t : State}, Orderly s t → Inv s → Inv t) : KeptByEveryStep Inv := by
  refine keptByEveryStep_of_exec frame fun c s t h taken => ?_
  obtain ⟨u, answer, orderly⟩ := exec_orderly c s
  rw [answer] at taken
  cases taken
  exact kept orderly h

/-- Settles O3: raising, reading and masking settle the lines they bear on, and no link leaves or enters HELD but with its line
settled. -/
theorem attentionLinesFollowThePendingSets : Obligations.AttentionLinesFollowThePendingSets := by
  refine keptByEveryStep_of_orderly (fun {s t} frame h l => ?_) Orderly.lines
  have interface : (t.link l).quiet = (s.link l).quiet := frame .links (by decide) l
  have notices : (t.link l).notices = (s.link l).notices := notices_ext fun n => frame (.notice n) (by simp) l
  have attention : (t.link l).attention = (s.link l).attention := frame .attention (by decide) l
  have settings : t.settings = s.settings := frame .settings (by decide)
  have answering : (t.link l).answering = (s.link l).answering := (congrArg LinkState.answering interface :)
  rw [attention, answering, notices, settings]
  exact h l

/-- Settles O6: a kind is queued only when absent, and a byte is stored only where there is room. -/
theorem queueAndBuffersKeepTheirBounds : Obligations.QueueAndBuffersKeepTheirBounds := by
  refine ⟨keptByEveryStep_of_orderly (fun {s t} frame h => ?_) Orderly.queue,
    keptByEveryStep_of_orderly (fun {s t} frame h l => ?_) Orderly.buffers⟩
  · have store : t.store = s.store := frame .store (by decide)
    rwa [State.queueDistinct, store]
  · have interface : (t.link l).quiet = (s.link l).quiet := frame .links (by decide) l
    rw [← LinkState.held_quiet, interface]
    exact h l

end Sys2Proof.Machine
end


section
/-! Frames on a link: what a receiver does with a byte, frames that cannot be used, how a response is formed, and NOTICE_READ
(R161 to R168, R172). -/

namespace Sys2Proof.Machine

open Sys2Proof.Config

/-! ## Responses (R161, R166) -/

/-- R165, R166: the length of a response is five bytes and its payload. -/
theorem responseFrame_length (code status : Byte) (payload : List Byte) :
    (responseFrame code status payload).length = payload.length + 5 := by simp [responseFrame]

/-- R161, R166: what the forming of a response leaves on its link. -/
theorem State.respond_link (l : Link) (code : Byte) (u : State) (status : Status) (payload : List Byte) :
    (State.respond l code ⟨u, status, payload⟩).link l =
      { u.link l with
        answering := .sending
        response := responseFrame (responseCode code) status.code payload
        sendEnd := u.now + sendTime (payload.length + 5) (u.link l).rate } := by
  simp only [State.respond, State.link_setLink_same, responseFrame_length]

/-- Settles O17: the frame is formed and timed on the answering link, which alone is written. -/
theorem responsesAreFramed : Obligations.ResponsesAreFramed := by
  intro c l u status payload
  refine ⟨_, rfl, ?_, State.setLink_otherLinks _ _ _, State.setLink_untouched_links rfl rfl⟩
  rw [State.respond_link, responseCode_of_command]
  rfl

/-! ## The receiver (R162 to R164) -/

/-- What counting an error leaves, on a link written just before. -/
theorem State.setLink_countError (s : State) {l : Link} {x : LinkState} (notices : x.notices = (s.link l).notices)
    (c : ErrorCounter) :
    Counted c x (((s.setLink l x).countError l c).link l) ∧ OtherLinksSame l s ((s.setLink l x).countError l c)
      ∧ Untouched [.links, .notice .link, .attention] s ((s.setLink l x).countError l c) := by
  refine ⟨?_, (s.setLink_otherLinks l x).trans (State.countError_otherLinks _ _ _),
    (State.setLink_untouched_of notices).andThen (State.countError_untouched _ _ _) rfl rfl⟩
  have counted := (s.setLink l x).countError_counted l c
  rwa [State.link_setLink_same] at counted

section
variable {s : State} {l : Link} {b : Byte}

theorem State.receive_ignored (hunt : (s.link l).collecting = none) (other : b ≠ sync) : s.receive l b = s := by
  simp [State.receive, hunt, other]

theorem State.receive_sync (hunt : (s.link l).collecting = none) (room : (s.link l).held < bufferSize) :
    s.receive l sync = s.setLink l { s.link l with collecting := some [sync], lastByteAt := s.now } := by
  simp [State.receive, hunt, Nat.not_le.mpr room]

theorem State.receive_stores {bytes : List Byte} (collecting : (s.link l).collecting = some bytes)
    (room : (s.link l).held < bufferSize) : s.receive l b = s.storeByte l bytes b := by
  simp [State.receive, collecting, Nat.not_le.mpr room]

/-- R164: in a full buffer the frame being collected, if there is one, is abandoned. -/
theorem State.receive_full (full : bufferSize ≤ (s.link l).held) (stored : b = sync ∨ (s.link l).collecting ≠ none) :
    s.receive l b = (s.setLink l { s.link l with collecting := none }).countError l .overrun := by
  cases collecting : (s.link l).collecting with
  | none =>
    have hunting : { s.link l with collecting := none } = s.link l := by rw [← collecting]
    have first : b = sync := stored.resolve_right fun some => some collecting
    rw [hunting, State.setLink_link]
    simp [State.receive, collecting, first, full]
  | some bytes => simp [State.receive, collecting, full]

theorem lenBad_iff : lenBad b = true ↔ b = 0 ∨ 60 < b.toNat := by simp [lenBad]

theorem State.storeByte_badLen {bytes : List Byte} (second : bytes.length = 1) (bad : lenBad b = true) :
    s.storeByte l bytes b = (s.setLink l { s.link l with collecting := none }).countError l .badCrc := by
  simp [State.storeByte, second, bad]

/-- R162: what is stored is a bad LEN when it is the second byte and out of range, and nothing else is. -/
theorem State.storeByte_good {bytes : List Byte} (good : ¬(bytes.length = 1 ∧ lenBad b = true)) :
    s.storeByte l bytes b = s.setLink l
      (if frameComplete (bytes ++ [b]) then
        { s.link l with collecting := none, frames := (s.link l).frames ++ [bytes ++ [b]], lastByteAt := s.now }
       else { s.link l with collecting := some (bytes ++ [b]), lastByteAt := s.now }) := by
  have stored : ¬((bytes ++ [b]).length = 2 ∧ lenBad b = true) := by simpa using good
  simp only [State.storeByte, if_neg stored]
  split <;> rfl

/-- R162: with LEN stored, a frame is complete at LEN + 3 bytes. -/
theorem frameComplete_append {bytes : List Byte} (len : 2 ≤ bytes.length) :
    frameComplete (bytes ++ [b]) = (bytes.length + 1 == (nth bytes 1 0).toNat + 3) := by
  have second : nth (bytes ++ [b]) 1 0 = nth bytes 1 0 := List.getD_append _ _ _ _ (by omega)
  rw [frameComplete, second, List.length_append, List.length_singleton]

/-- R162: a frame is not complete with its LEN. -/
theorem frameComplete_len {bytes : List Byte} (first : bytes.length = 1) : frameComplete (bytes ++ [b]) = false := by
  obtain ⟨a, rfl⟩ := List.length_eq_one_iff.mp first
  simp [frameComplete, nth]

end

/-- R176: a byte that comes before the receivers are enabled. -/
theorem State.byteArrives_early {s : State} (off : s.receiversOn = false) (l : Link) (b : Byte) :
    s.byteArrives l b =
      if receiversEnabledBy s.choices then { s with choices := s.choices + 1, receiversOn := true }.receive l b
      else { s with choices := s.choices + 1 } := by
  simp [State.byteArrives, off]

/-- Settles O18: by the receiver's state, the buffer's fill, and the bytes that are stored. -/
theorem receiverCollectsFramesByLength : Obligations.ReceiverCollectsFramesByLength := by
  refine ⟨fun l b s on => ?_, fun l b s on full stored => ?_, fun l b s off => ⟨fun closed => ?_, fun opened => ?_⟩⟩
  · have taken : exec (.receiveByte l b) s = .next (s.receive l b) :=
      congrArg Host.Outcome.next (State.byteArrives_enabled on l b)
    refine ⟨fun hunt other => ?_, fun hunt first room => ?_, fun y collecting room second bad => ?_,
      fun y collecting room len complete => ?_, fun y collecting room more => ?_⟩
    · rw [taken, State.receive_ignored hunt other]
    · subst first
      rw [taken]
      exact congrArg _ (State.receive_sync hunt room)
    · rw [State.receive_stores collecting room, State.storeByte_badLen second (lenBad_iff.mpr bad)] at taken
      exact ⟨_, taken, s.setLink_countError (by rfl) _⟩
    · have good : ¬(y.length = 1 ∧ lenBad b = true) := fun h => absurd len (by omega)
      rw [taken, State.receive_stores collecting room, State.storeByte_good good, frameComplete_append len,
        if_pos (by simpa using complete)]
    · have stored : ¬(y.length = 1 ∧ lenBad b = true) ∧ frameComplete (y ++ [b]) = false := by
        rcases more with ⟨second, nonzero, small⟩ | ⟨len, incomplete⟩
        · exact ⟨fun bad => (lenBad_iff.mp bad.2).elim nonzero (Nat.not_lt.mpr small), frameComplete_len second⟩
        · exact ⟨fun bad => absurd len (by omega), by rw [frameComplete_append len]; simpa using incomplete⟩
      obtain ⟨good, incomplete⟩ := stored
      rw [taken, State.receive_stores collecting room, State.storeByte_good good, incomplete]
      rfl
  · refine ⟨_, congrArg Host.Outcome.next ((State.byteArrives_enabled on l b).trans (State.receive_full full stored)), ?_⟩
    exact s.setLink_countError (by rfl) _
  · show Host.Outcome.next _ = _
    rw [State.byteArrives_early off, closed]
    rfl
  · refine ⟨_, congrArg Host.Outcome.next ((State.byteArrives_early off l b).trans (if_pos opened)), ?_⟩
    exact congrArg Host.Outcome.next (State.byteArrives_enabled rfl l b)

/-! ## Frames that cannot be used (R165, R167, R187) -/

/-- R187: a payload whose fields its command takes is of a length that the command carries. -/
theorem payloadFits_of_ownerOf {c : Command} {l : Link} {payload : List Byte} {own : State → Answer}
    (fields : ownerOf c l payload = some own) : payloadFits c payload = true := by
  cases c
  case entryPut =>
    have put : (rawEntryOf payload).map ownEntryPut = some own := fields
    obtain ⟨raw, carried, _⟩ := Option.map_eq_some_iff.mp put
    unfold rawEntryOf at carried
    split at carried
    · split at carried
      · rename_i label
        simp only [payloadFits, nth, List.length_cons, label]
        simp
        omega
      · cases carried
    · cases carried
  case settingWrite =>
    rcases payload with _ | ⟨_, _ | ⟨_, _ | ⟨_, _ | ⟨_, _ | ⟨_, _ | ⟨_, _⟩⟩⟩⟩⟩⟩ <;> cases fields
    rfl
  case clockSet =>
    rcases payload with _ | ⟨_, _ | ⟨_, _ | ⟨_, _ | ⟨_, _ | ⟨_, _ | ⟨_, _ | ⟨_, _⟩⟩⟩⟩⟩⟩⟩ <;> cases fields
    rfl
  case geometrySet =>
    rcases payload with _ | ⟨_, _ | ⟨_, _ | ⟨_, _ | ⟨_, _ | ⟨_, _⟩⟩⟩⟩⟩ <;> cases fields
    rfl
  case overrideSet =>
    rcases payload with _ | ⟨_, _ | ⟨_, _ | ⟨_, _ | ⟨_, _⟩⟩⟩⟩ <;> cases fields <;> rfl
  case accountSet | geometryTrim | tiltReport =>
    rcases payload with _ | ⟨_, _ | ⟨_, _ | ⟨_, _⟩⟩⟩ <;> cases fields
    rfl
  case geometryRead => rcases payload with _ | ⟨_, _ | ⟨_, _⟩⟩ <;> cases fields <;> rfl
  case lampLevel | sourceSelect | pictureMute | engineReport | entryDelete | entryRead | settingRead =>
    rcases payload with _ | ⟨_, _ | ⟨_, _⟩⟩ <;> cases fields
    rfl
  all_goals
    cases payload <;> cases fields
    rfl

theorem ownerOf_unfit {c : Command} {payload : List Byte} (unfit : payloadFits c payload = false) (l : Link) :
    ownerOf c l payload = none := by
  cases fields : ownerOf c l payload with
  | none => rfl
  | some own =>
    rw [payloadFits_of_ownerOf fields] at unfit
    cases unfit

/-- R165: a frame that ends with the CRC-8 of the bytes from LEN on is valid, and gives up its code and payload. -/
theorem State.takeFrame_valid (s : State) (l : Link) (len code : Byte) (payload : List Byte) (rest : List (List Byte)) :
    let frame := sync :: len :: code :: payload ++ [crc8 (len :: code :: payload)]
    s.takeFrame l frame rest
      = (s.setLink l { s.link l with frames := rest, inHand := some frame }).decodeFrame l code payload := by
  intro frame
  have body : frame.tail.dropLast = len :: code :: payload := List.dropLast_concat
  have last : frame.getLast? = some (crc8 (len :: code :: payload)) :=
    List.getLast?_concat (l := sync :: len :: code :: payload)
  have valid : frameValid frame = true := by simp [frameValid, body, last]
  have fields : (frame.drop 3).dropLast = payload := List.dropLast_concat
  simp only [State.takeFrame, valid, if_true, fields]
  rfl

theorem responseCode_below {code : Byte} (below : code.toNat < 128) : responseCode code = code + 0x80 := by
  have sign : code.msb = false := by simpa [BitVec.msb_eq_decide] using below
  simp [responseCode, sign]

/-- R111, R167: a permitted command goes to its owner. -/
theorem judged_permitted {c : Command} {l : Link} {s : State} (permitted : Permitted c l s) (owner : State → Answer) :
    judged c l owner s = owner s := by
  simp [judged, judge, permitted.1, permitted.2]

/-- Settles O15: a frame by its CRC, a valid one by its code and the length of its payload. -/
theorem unusableFramesAreCountedOrAnswered : Obligations.UnusableFramesAreCountedOrAnswered := by
  refine ⟨fun l s => ⟨fun f rest ready waiting bad => ?_, fun nothing => ?_⟩, fun l code payload rest s => ?_⟩
  · have invalid : ¬frameValid f = true := by simpa [frameValid] using bad
    refine ⟨_, congrArg Host.Outcome.next ((State.takeNext_ready ready waiting).trans (if_neg invalid)), ?_⟩
    exact s.setLink_countError (by rfl) _
  · rcases nothing with empty | other
    · exact congrArg _ (State.takeNext_empty empty)
    · refine congrArg Host.Outcome.next ?_
      unfold State.takeNext
      split
      · rename_i ready _
        exact (other ready).elim
      · rfl
  · intro body frame u ready waiting
    have taken : exec (.frameTake l) s
        = .next ((s.setLink l { s.link l with frames := rest, inHand := some frame }).decodeFrame l code payload) :=
      congrArg Host.Outcome.next ((State.takeNext_ready ready waiting).trans (s.takeFrame_valid l _ code payload rest))
    refine ⟨fun unknown below => ?_, fun c named unfit permitted => ?_⟩
    · rw [taken, State.decodeFrame, commandOfCode_eq_none.mpr unknown]
      refine congrArg Host.Outcome.next ?_
      simp only [State.respond, responseCode_below below, responseFrame_length]
      rfl
    · subst named
      have level : u.policy = s.policy := by simp [u]
      have admitted : Permitted c l u := by rwa [Permitted, level]
      rw [taken, State.decodeFrame, commandOfCode_code]
      exact congrArg (fun a => Host.Outcome.next (State.respond l c.code a))
        ((judged_permitted admitted _).trans (by rw [ownerOf_unfit unfit]; rfl))

/-! ## NOTICE_READ (R172) -/

/-- R171, R172: the link whose pending set is read has its line released. -/
theorem ownNoticeRead_state (l : Link) (s : State) :
    (ownNoticeRead l s).state = s.setLink l { s.link l with notices := 0, attention := false } := by
  have released : attentionLow (s.link l).answering 0 (s.settings.maskOf l) = false := by simp [attentionLow]
  show s.setLink l { s.link l with
    notices := 0, attention := attentionLow (s.link l).answering 0 (s.settings.maskOf l) } = _
  rw [released]

/-- Settles O30: the owner's answer on the state that has heard the frame. -/
theorem noticeReadReturnsAndRemovesThePendingSet : Obligations.NoticeReadReturnsAndRemovesThePendingSet := by
  intro l s listening
  have taken := exec_admitted (i := .noticeRead l) rfl (admitted_of_enquiry listening rfl rfl) (Nat.zero_le _) rfl
  have pending : ((s.hearing (.noticeRead l)).link l).notices = (s.link l).notices := (s.hearing_link _ l).2.1
  have left := ownNoticeRead_state l (s.hearing (.noticeRead l))
  refine ⟨(ownNoticeRead l (s.hearing (.noticeRead l))).state, ?_, ?_, ?_, ?_, ?_⟩
  · rw [taken, ← pending]
    rfl
  · rw [left, State.link_setLink_same]
  · rw [left, State.setLink_silence]
    exact s.hearing_silence rfl
  · rw [left]
    exact (s.hearing_otherLinks rfl).trans (State.setLink_otherLinks _ _ _)
  · intro b notices attention
    rw [left]
    cases b with
    | notice n => exact (notices n rfl).elim
    | attention => exact (attention rfl).elim
    | links =>
      intro k
      by_cases same : k = l
      · rw [same, State.link_setLink_same]
        rfl
      · rw [State.link_setLink_other _ _ _ _ same]
    | _ => cases l <;> rfl

end Sys2Proof.Machine
end


section
/-! O14: no owner of a request reads the receive buffer the request came through, so a request does the same whatever waits
behind its frame (log entry 4). -/

namespace Sys2Proof.Machine

open Sys2Proof.Config

/-! ## Another content of a receive buffer -/

/-- R162, R164: what the receiver of a link holds, the frame in hand aside. -/
structure Buffer where
  collecting : Option (List Byte)
  lastByteAt : Nat
  frames : List (List Byte)

/-- A link with another content of its buffer. -/
def LinkState.rebuffer (x : LinkState) (b : Buffer) : LinkState :=
  { x with collecting := b.collecting, lastByteAt := b.lastByteAt, frames := b.frames }

/-- The state with another content of the buffer of one link. -/
def State.rebuffer (s : State) (l : Link) (b : Buffer) : State :=
  { s with
    engine := match l with
      | .engine => s.engine.rebuffer b
      | _ => s.engine
    lectern := match l with
      | .lectern => s.lectern.rebuffer b
      | _ => s.lectern
    campus := match l with
      | .campus => s.campus.rebuffer b
      | _ => s.campus }

theorem State.rebuffer_eq (s : State) (l : Link) (b : Buffer) : s.rebuffer l b = s.setLink l ((s.link l).rebuffer b) := by
  cases l <;> rfl

@[simp] theorem State.rebuffer_store (s : State) (l : Link) (b : Buffer) : (s.rebuffer l b).store = s.store := rfl
@[simp] theorem State.rebuffer_lamp (s : State) (l : Link) (b : Buffer) : (s.rebuffer l b).lamp = s.lamp := rfl
@[simp] theorem State.rebuffer_session (s : State) (l : Link) (b : Buffer) : (s.rebuffer l b).session = s.session := rfl
@[simp] theorem State.rebuffer_clock (s : State) (l : Link) (b : Buffer) : (s.rebuffer l b).clock = s.clock := rfl
@[simp] theorem State.rebuffer_now (s : State) (l : Link) (b : Buffer) : (s.rebuffer l b).now = s.now := rfl
@[simp] theorem State.rebuffer_table (s : State) (l : Link) (b : Buffer) : (s.rebuffer l b).table = s.table := rfl
@[simp] theorem State.rebuffer_policy (s : State) (l : Link) (b : Buffer) : (s.rebuffer l b).policy = s.policy := rfl

/-- An operation that does the same whatever the receive buffers hold. -/
def Blind (f : State → State) : Prop := ∀ s l b, (f s).rebuffer l b = f (s.rebuffer l b)

section
variable {l : Link} {b : Buffer}

/-- A blind operation behind another one. -/
theorem Blind.after {f : State → State} (blind : Blind f) {u v : State} (h : u.rebuffer l b = v) :
    (f u).rebuffer l b = f v := (blind u l b).trans (congrArg f h)

/-- A choice that does not go by the buffers. -/
theorem State.rebuffer_ite {c : Prop} [Decidable c] {x y x' y' : State} (yes : x.rebuffer l b = x')
    (no : y.rebuffer l b = y') : (if c then x else y).rebuffer l b = if c then x' else y' := by
  rw [apply_ite (State.rebuffer · l b), yes, no]

end

/-! ## Notices, the write queue, MUTE -/

theorem State.raise_blind (n : Notice) : Blind (·.raise n) := fun s l b => by cases l <;> rfl

theorem State.raiseIf_blind (c : Bool) (n : Notice) : Blind (·.raiseIf c n) := fun s l b => by
  cases c
  · rfl
  · exact State.raise_blind n s l b

theorem State.startWrite_blind : Blind State.startWrite := fun s l b => by
  refine State.rebuffer_ite ?_ rfl
  rw [State.rebuffer_store]
  cases s.store.queue <;> rfl

theorem State.queueKind_blind (k : Kind) : Blind (·.queueKind k) := fun _ l b => State.startWrite_blind _ l b

theorem State.settleMute_blind : Blind State.settleMute := fun _ l b =>
  State.rebuffer_ite rfl (State.raise_blind _ _ l b)

/-! ## The lamp account and the lamp controller -/

theorem State.deriveStatus_blind : Blind State.deriveStatus := fun _ l b =>
  State.rebuffer_ite rfl (State.raise_blind _ _ l b)

theorem State.chargeStrike_blind : Blind State.chargeStrike := fun _ l b => State.deriveStatus_blind _ l b

theorem State.settleLamp_blind (old : Lamp) : Blind (·.settleLamp old) := fun _ l b =>
  State.settleMute_blind.after (State.raiseIf_blind _ _ _ l b)

theorem State.startAttempt_blind (first : Bool) : Blind (·.startAttempt first) := fun s l b =>
  (State.settleLamp_blind s.lamp).after (State.chargeStrike_blind _ l b)

theorem State.holdStrike_blind (cause : Blocked) : Blind (·.holdStrike cause) := fun s l b =>
  (State.raiseIf_blind _ _).after (State.settleLamp_blind s.lamp _ l b)

theorem State.strikeOrHold_blind : Blind State.strikeOrHold := fun s l b =>
  State.rebuffer_ite (State.startAttempt_blind _ s l b) (State.holdStrike_blind _ s l b)

theorem State.recheckStrike_blind : Blind State.recheckStrike := fun s l b => by
  unfold State.recheckStrike
  rw [State.rebuffer_lamp]
  have checked : ∀ c, (if s.gatePasses then s.startAttempt true else if s.blockCause = c then s else s.holdStrike
      s.blockCause).rebuffer l b = if (s.rebuffer l b).gatePasses then (s.rebuffer l b).startAttempt true
        else if (s.rebuffer l b).blockCause = c then s.rebuffer l b
        else (s.rebuffer l b).holdStrike (s.rebuffer l b).blockCause := fun c =>
    State.rebuffer_ite (State.startAttempt_blind _ s l b) (State.rebuffer_ite rfl (State.holdStrike_blind _ s l b))
  cases s.lamp.state with
  | off c =>
    cases c with
    | none => rfl
    | account => exact checked _
    | thermal => exact checked _
  | _ => rfl

theorem State.handAccount_blind (old : Account) : Blind (·.handAccount old) := fun s l b =>
  State.rebuffer_ite rfl (State.recheckStrike_blind.after (State.settleLamp_blind s.lamp s l b))

theorem State.extinguish_blind (outage : Bool) : Blind (·.extinguish outage) := fun s l b =>
  (State.settleLamp_blind s.lamp).after (State.queueKind_blind _ _ l b)

theorem State.setDemand_blind (on : Bool) : Blind (·.setDemand on) := fun s l b => by
  refine State.rebuffer_ite rfl ?_
  rw [State.rebuffer_lamp]
  cases s.lamp.state with
  | off _ =>
    cases on
    · exact State.settleLamp_blind _ _ l b
    · exact State.strikeOrHold_blind _ l b
  | cooling _ => exact State.settleLamp_blind _ _ l b
  | failed =>
    cases on
    · exact State.settleLamp_blind _ _ l b
    · rfl
  | _ =>
    cases on
    · exact State.extinguish_blind _ _ l b
    · rfl

theorem State.setRequested_blind (level : LampLevel) : Blind (·.setRequested level) := fun s l b =>
  State.rebuffer_ite rfl (State.settleLamp_blind s.lamp _ l b)

theorem State.setTemp_blind (t : TempState) : Blind (·.setTemp t) := fun s l b => by
  have heated := State.settleLamp_blind s.lamp { s with lamp := { s.lamp with temp := t } } l b
  have same : ∀ u v : State, u.rebuffer l b = v → u.lamp = v.lamp := fun u v h => by rw [← h]; rfl
  refine State.rebuffer_ite rfl ?_
  dsimp only
  rw [same _ _ heated]
  exact State.rebuffer_ite ((State.extinguish_blind _).after heated) (State.recheckStrike_blind.after heated)

theorem State.serviceAccount_blind (a : Account) : Blind (·.serviceAccount a) := fun s l b =>
  (State.handAccount_blind s.account).after ((State.queueKind_blind _).after ((State.raiseIf_blind _ _).after
    (State.deriveStatus_blind _ l b)))

/-! ## The policy unit -/

theorem State.deriveEffective_blind (quiet : Bool) : Blind (·.deriveEffective quiet) := fun _ l b =>
  State.rebuffer_ite rfl (State.recheckStrike_blind.after (State.raiseIf_blind _ _ _ l b))

theorem State.setBase_blind (level : Level) (quiet : Bool) : Blind (·.setBase level quiet) := fun _ l b =>
  State.deriveEffective_blind _ _ l b

theorem State.setOverride_blind (o : Option Override) : Blind (·.setOverride o) := fun _ l b =>
  State.deriveEffective_blind _ _ l b

/-! ## The geometry unit and the switch sequencer -/

theorem State.putGeometry_blind (g : Geometry) : Blind (·.putGeometry g) := fun _ l b => State.raiseIf_blind _ _ _ l b

theorem State.routingAction_blind (t : Nat) : Blind (·.routingAction t) := fun _ l b =>
  State.settleMute_blind.after (State.putGeometry_blind _ _ l b)

theorem State.enterSeeking_blind (r : Option Nat) : Blind (·.enterSeeking r) := fun _ l b => State.settleMute_blind _ l b

theorem State.enterMuting_blind : Blind State.enterMuting := fun s l b => by
  have muting := State.settleMute_blind { s with switch := { s.switch with
    state := .muting, ring := [], streak := 0, missMark := false
    timerEnd := s.now + s.settings.muteLead * millisecond } } l b
  have same : ∀ u v : State, u.rebuffer l b = v → u.switch = v.switch := fun u v h => by rw [← h]; rfl
  simp only [State.enterMuting]
  rw [same _ _ muting]
  exact State.rebuffer_ite ((State.routingAction_blind _).after muting) muting

/-- A request to the sequencer, answered with a state and a status, on another content of a buffer. -/
def rebufferReply (r : State × Status) (l : Link) (b : Buffer) : State × Status := (r.1.rebuffer l b, r.2)

/-- A request to the sequencer that does the same whatever the receive buffers hold. -/
def BlindRequest (f : State → State × Status) : Prop := ∀ s l b, rebufferReply (f s) l b = f (s.rebuffer l b)

section
variable {l : Link} {b : Buffer}

theorem rebufferReply_ite {c : Prop} [Decidable c] {x y x' y' : State × Status} (yes : rebufferReply x l b = x')
    (no : rebufferReply y l b = y') : rebufferReply (if c then x else y) l b = if c then x' else y' := by
  rw [apply_ite (rebufferReply · l b), yes, no]

theorem rebufferReply_mk {u v : State} {status : Status} (h : u.rebuffer l b = v) :
    rebufferReply (u, status) l b = (v, status) := Prod.ext h rfl

end

theorem State.requestSettled_blind (t : Nat) (c : Requester) : BlindRequest (·.requestSettled t c) := fun _ l b =>
  rebufferReply_ite
    (rebufferReply_ite (rebufferReply_mk (State.enterSeeking_blind none _ l b)) rfl)
    (rebufferReply_ite (rebufferReply_mk (State.enterMuting_blind _ l b))
      (rebufferReply_mk (State.routingAction_blind t _ l b)))

theorem State.requestInTransit_blind (t : Nat) (c : Requester) : BlindRequest (·.requestInTransit t c) := fun _ l b =>
  rebufferReply_ite rfl (rebufferReply_ite rfl (rebufferReply_ite rfl
    (rebufferReply_mk (State.routingAction_blind t _ l b))))

theorem State.requestSwitch_blind (t : Nat) (c : Requester) : BlindRequest (·.requestSwitch t c) := fun s l b =>
  rebufferReply_ite rfl (rebufferReply_ite rfl
    (rebufferReply_ite (State.requestSettled_blind t c s l b) (State.requestInTransit_blind t c s l b)))

/-! ## The session controller -/

theorem State.handOver_blind (quiet : Bool) : Blind (·.handOver quiet) := fun s l b =>
  State.settleMute_blind.after (congrArg (fun u : State => { u with switch := { u.switch with
    bridgeMute := s.session.use.bridgeMute } }) ((State.setDemand_blind _).after ((State.setRequested_blind _).after
      (State.setBase_blind _ _ s l b))))

theorem State.recompute_blind (quiet : Bool) : Blind (·.recompute quiet) := fun _ l b => State.raiseIf_blind _ _ _ l b

theorem State.setOwed_blind (owed : Option Nat) : Blind (·.setOwed owed) := fun s l b => by
  simp only [State.setOwed, State.rebuffer_session]
  cases s.session.use <;> rfl

theorem State.issueSource_blind (plate : Nat) : Blind (·.issueSource plate) := fun s l b => by
  have asked := State.requestSwitch_blind plate .schedule s l b
  simp only [State.issueSource, ← asked]
  exact State.setOwed_blind _ _ l b

theorem State.serveSource_blind (started : Bool) : Blind (·.serveSource started) := fun s l b => by
  simp only [State.serveSource]
  rw [State.rebuffer_session]
  split
  · refine State.rebuffer_ite (State.rebuffer_ite rfl (State.issueSource_blind _ s l b)) (State.rebuffer_ite ?_ rfl)
    split
    · rfl
    · exact State.rebuffer_ite (State.issueSource_blind _ s l b) (State.setOwed_blind _ s l b)
  · rfl

/-- R143: the record handed over is compared as it stands then. -/
theorem State.noticeSession_blind (old : Session) (quiet : Bool) : Blind (·.noticeSession old quiet) := fun _ l b =>
  State.raiseIf_blind _ _ _ l b

theorem State.runner_blind (ev : RunnerEvent) : Blind (·.runner ev) := fun s l b =>
  (State.noticeSession_blind s.session _).after ((State.serveSource_blind _).after (State.handOver_blind _ _ l b))

theorem State.putSession_blind (r : Session) : Blind (·.putSession r) := fun s l b =>
  (State.noticeSession_blind s.session _).after (State.handOver_blind _ _ l b)

theorem State.changeTable_blind (table : List Entry) (replaced : Option Nat) : Blind (·.changeTable table replaced) :=
  fun _ l b => (State.runner_blind _).after ((State.recompute_blind _).after ((State.queueKind_blind _).after
    (State.raise_blind _ _ l b)))

theorem State.setClock_blind (c : Clock) : Blind (·.setClock c) := fun _ l b =>
  (State.runner_blind _).after ((State.recompute_blind _).after (State.raise_blind _ _ l b))

/-! ## Settings -/

theorem State.limitWritten_blind : Blind State.limitWritten := fun s l b =>
  (State.handAccount_blind s.account).after (State.deriveStatus_blind s l b)

theorem State.missLimitWritten_blind : Blind State.missLimitWritten := fun _ l b => State.raiseIf_blind _ _ _ l b

theorem State.tiltSettingWritten_blind : Blind State.tiltSettingWritten := fun s l b =>
  State.rebuffer_ite rfl (State.putGeometry_blind _ s l b)

/-- R161: the campus link's own rate waits, so that no write of a setting touches the buffer its request came through. -/
theorem State.settingWritten_campus (i : SettingId) (s : State) (b : Buffer) :
    (s.settingWritten i).rebuffer .campus b = (s.rebuffer .campus b).settingWritten i := by
  cases i with
  | rate k => cases k <;> rfl
  | mask k => cases k <;> rfl
  | lifeLimit | warningMargin => exact State.limitWritten_blind s .campus b
  | missLimit => exact State.missLimitWritten_blind s .campus b
  | panelWidth | panelHeight => exact State.putGeometry_blind _ s .campus b
  | tiltGain | tiltAveraging => exact State.tiltSettingWritten_blind s .campus b
  | idleLevel | walkupLevel => exact State.setBase_blind _ _ s .campus b
  | _ => rfl

theorem State.settingTaken_campus (i : SettingId) (n : Nat) (s : State) (b : Buffer) :
    (s.settingTaken i n).rebuffer .campus b = (s.rebuffer .campus b).settingTaken i n :=
  (State.queueKind_blind .settings).after (State.settingWritten_campus i (s.settingPut i n) b)

/-! ## The owners -/

/-- An answer, with another content of a buffer in the state it leaves. -/
def Answer.rebuffer (a : Answer) (l : Link) (b : Buffer) : Answer := ⟨a.state.rebuffer l b, a.status, a.payload⟩

/-- An owner that answers the same and leaves the same whatever the buffer of a link holds. -/
def BlindOn (l : Link) (own : State → Answer) : Prop := ∀ s b, (own s).rebuffer l b = own (s.rebuffer l b)

/-- An answer whose payload is read from the state it leaves, outside the buffers. -/
theorem Answer.rebuffer_mk {l : Link} {b : Buffer} {u v : State} {status : Status} {payload : State → List Byte}
    (moved : u.rebuffer l b = v) (same : payload (u.rebuffer l b) = payload u) :
    Answer.rebuffer ⟨u, status, payload u⟩ l b = ⟨v, status, payload v⟩ := by
  rw [← moved, same]
  rfl

theorem Answer.rebuffer_ite {l : Link} {b : Buffer} {c : Prop} [Decidable c] {x y x' y' : Answer}
    (yes : x.rebuffer l b = x') (no : y.rebuffer l b = y') :
    (if c then x else y).rebuffer l b = if c then x' else y' := by
  rw [apply_ite (Answer.rebuffer · l b), yes, no]

theorem answerSession_blind {l : Link} (r : State → Session × Status) (same : ∀ s b, r (s.rebuffer l b) = r s) :
    BlindOn l (fun s => answerSession s (r s)) := fun s b => by
  simp only [same]
  refine Answer.rebuffer_ite (Answer.rebuffer_mk (payload := State.roomBytes) ?_ rfl) rfl
  exact State.rebuffer_ite rfl (State.putSession_blind _ s l b)

theorem State.putStored_blind (asked stored : Preset) : Blind (·.putStored asked stored) := fun _ l b =>
  State.putGeometry_blind _ _ l b

theorem ownGeometrySet_blind (l : Link) (mode v h trim : Byte) : BlindOn l (ownGeometrySet mode v h trim) := fun s b => by
  unfold ownGeometrySet
  split
  · rfl
  · exact Answer.rebuffer_mk (payload := fun u => storedBytes u.geometry.active) (State.putStored_blind _ _ s l b) rfl

theorem ownGeometryTrim_blind (l : Link) (dv dh : Byte) : BlindOn l (ownGeometryTrim dv dh) := fun s b =>
  Answer.rebuffer_mk (payload := fun u => storedBytes u.geometry.active) (State.putStored_blind _ _ s l b) rfl

theorem ownGeometryRead_blind (l : Link) (plate : Option Byte) : BlindOn l (ownGeometryRead plate) := fun s b => by
  cases plate with
  | none => rfl
  | some p => exact Answer.rebuffer_ite rfl rfl

theorem ownOverrideSet_blind (l : Link) (level : Byte) (minutes : Option (BitVec 16)) :
    BlindOn l (ownOverrideSet level minutes) := fun s b => by
  unfold ownOverrideSet
  split
  · rfl
  · exact Answer.rebuffer_ite rfl (Answer.rebuffer_mk
      (payload := fun u => byte u.policy.effective.code :: overrideBytes u.policy.override)
      (State.setOverride_blind _ s l b) rfl)

theorem ownOverrideClear_blind (l : Link) : BlindOn l ownOverrideClear := fun s b =>
  Answer.rebuffer_mk (payload := fun u => [byte u.policy.effective.code]) (State.setOverride_blind none s l b) rfl

theorem ownSourceSelect_blind (l k : Link) (plate : Byte) : BlindOn l (ownSourceSelect k plate) := fun s b => by
  have asked := State.requestSwitch_blind plate.toNat (requesterOf k) s l b
  simp only [ownSourceSelect, ← asked]
  rfl

theorem ownPictureMute_blind (l : Link) (onOff : Byte) : BlindOn l (ownPictureMute onOff) := fun s b => by
  unfold ownPictureMute
  split
  · rfl
  · exact congrArg (Answer.mk · .ok []) (State.settleMute_blind _ l b)

theorem ownLampReplaced_blind (l : Link) : BlindOn l ownLampReplaced := fun s b =>
  Answer.rebuffer_ite (congrArg (Answer.mk · .ok []) (State.serviceAccount_blind _ s l b)) rfl

theorem ownAccountSet_blind (l : Link) (hours : BitVec 16) : BlindOn l (ownAccountSet hours) := fun s b =>
  Answer.rebuffer_ite (congrArg (Answer.mk · .ok []) (State.serviceAccount_blind _ s l b)) rfl

theorem ownEngineReport_blind (l : Link) (temperature : Byte) : BlindOn l (ownEngineReport temperature) := fun s b => by
  unfold ownEngineReport
  split
  · rfl
  · exact congrArg (Answer.mk · .ok []) (State.setTemp_blind _ s l b)

theorem ownClockSet_blind (l : Link) (date : RawDate) (hour minute : Byte) : BlindOn l (ownClockSet date hour minute) :=
  fun s b => by
    unfold ownClockSet
    rw [State.rebuffer_clock, State.rebuffer_now]
    split
    · rfl
    · exact Answer.rebuffer_mk (payload := fun u => clockBytes u.clock) (State.setClock_blind _ s l b) rfl

theorem State.putEntry_blind (l : Link) (e : Entry) : BlindOn l (·.putEntry e) := fun s b => by
  simp only [State.putEntry]
  rw [State.rebuffer_table]
  split
  · rfl
  · exact Answer.rebuffer_ite rfl (congrArg (Answer.mk · .ok [byte (insertEntry e s.table).length])
      (State.changeTable_blind _ _ s l b))

theorem ownEntryPut_blind (l : Link) (raw : RawEntry) : BlindOn l (ownEntryPut raw) := fun s b => by
  unfold ownEntryPut
  split
  · rfl
  · exact Answer.rebuffer_ite (State.putEntry_blind l _ s b) rfl

theorem ownEntryDelete_blind (l : Link) (id : Byte) : BlindOn l (ownEntryDelete id) := fun s b =>
  Answer.rebuffer_ite (congrArg (Answer.mk · .ok []) (State.changeTable_blind _ _ s l b)) rfl

theorem ownScheduleClear_blind (l : Link) : BlindOn l ownScheduleClear := fun s b =>
  Answer.rebuffer_ite rfl (congrArg (Answer.mk · .ok []) (State.changeTable_blind _ _ s l b))

theorem ownEntryRead_blind (l : Link) (id : Byte) : BlindOn l (ownEntryRead id) := fun s b => by
  unfold ownEntryRead
  rw [State.rebuffer_table]
  split <;> rfl

theorem ownSettingRead_blind (l : Link) (id : Byte) : BlindOn l (ownSettingRead id) := fun s b => by
  unfold ownSettingRead
  split <;> rfl

theorem ownSettingWrite_campus (id : Byte) (value : BitVec 32) : BlindOn .campus (ownSettingWrite id value) := fun s b => by
  unfold ownSettingWrite
  split
  · rfl
  · rename_i i _
    exact Answer.rebuffer_mk (payload := fun u => settingBytes u.settings i) (State.settingTaken_campus i _ s b) rfl

/-- R166: what a request does that its link accepts does not go by the buffer of that link. -/
theorem ownerOf_blind {c : Command} {l : Link} {payload : List Byte} {own : State → Answer}
    (fields : ownerOf c l payload = some own) (accepted : c.acceptedOn l = true) : BlindOn l own := by
  cases c
  case settingWrite =>
    have campus : l = .campus := eq_of_beq accepted
    rcases payload with _ | ⟨_, _ | ⟨_, _ | ⟨_, _ | ⟨_, _ | ⟨_, _ | ⟨_, _⟩⟩⟩⟩⟩⟩ <;> cases fields
    rw [campus]
    exact ownSettingWrite_campus _ _
  case noticeRead | countersRead | countersClear =>
    cases payload <;> cases fields
    intro s b
    cases l <;> rfl
  case roomRead | restart | lampRead | sourceRead | plateRead | lockoutRead | clockRead | entryList | occurrenceRead =>
    cases payload <;> cases fields
    exact fun s b => rfl
  case sessionStart | sessionEnd | sessionExtend =>
    cases payload <;> cases fields
    exact answerSession_blind _ fun s b => rfl
  case lampLevel =>
    rcases payload with _ | ⟨_, _ | ⟨_, _⟩⟩ <;> cases fields
    exact answerSession_blind _ fun s b => rfl
  case lampReplaced =>
    cases payload <;> cases fields
    exact ownLampReplaced_blind l
  case accountSet =>
    rcases payload with _ | ⟨_, _ | ⟨_, _ | ⟨_, _⟩⟩⟩ <;> cases fields
    exact ownAccountSet_blind l _
  case sourceSelect =>
    rcases payload with _ | ⟨_, _ | ⟨_, _⟩⟩ <;> cases fields
    exact ownSourceSelect_blind l l _
  case pictureMute =>
    rcases payload with _ | ⟨_, _ | ⟨_, _⟩⟩ <;> cases fields
    exact ownPictureMute_blind l _
  case geometrySet =>
    rcases payload with _ | ⟨_, _ | ⟨_, _ | ⟨_, _ | ⟨_, _ | ⟨_, _⟩⟩⟩⟩⟩ <;> cases fields
    exact ownGeometrySet_blind l _ _ _ _
  case geometryTrim =>
    rcases payload with _ | ⟨_, _ | ⟨_, _ | ⟨_, _⟩⟩⟩ <;> cases fields
    exact ownGeometryTrim_blind l _ _
  case presetStore =>
    cases payload <;> cases fields
    exact fun s b => congrArg (Answer.mk · .ok []) (State.queueKind_blind .presets _ l b)
  case geometryRead =>
    rcases payload with _ | ⟨_, _ | ⟨_, _⟩⟩ <;> cases fields
    · exact ownGeometryRead_blind l none
    · exact ownGeometryRead_blind l (some _)
  case tiltReport =>
    rcases payload with _ | ⟨_, _ | ⟨_, _ | ⟨_, _⟩⟩⟩ <;> cases fields
    exact fun s b => congrArg (Answer.mk · .ok []) (State.putGeometry_blind _ s l b)
  case engineReport =>
    rcases payload with _ | ⟨_, _ | ⟨_, _⟩⟩ <;> cases fields
    exact ownEngineReport_blind l _
  case overrideSet =>
    rcases payload with _ | ⟨_, _ | ⟨_, _ | ⟨_, _ | ⟨_, _⟩⟩⟩⟩ <;> cases fields
    · exact ownOverrideSet_blind l _ none
    · exact ownOverrideSet_blind l _ (some _)
  case overrideClear =>
    cases payload <;> cases fields
    exact ownOverrideClear_blind l
  case clockSet =>
    rcases payload with _ | ⟨_, _ | ⟨_, _ | ⟨_, _ | ⟨_, _ | ⟨_, _ | ⟨_, _ | ⟨_, _⟩⟩⟩⟩⟩⟩⟩
      <;> cases fields
    exact ownClockSet_blind l _ _ _
  case entryPut =>
    have put : (rawEntryOf payload).map ownEntryPut = some own := fields
    obtain ⟨raw, _, rfl⟩ := Option.map_eq_some_iff.mp put
    exact ownEntryPut_blind l raw
  case entryDelete =>
    rcases payload with _ | ⟨_, _ | ⟨_, _⟩⟩ <;> cases fields
    exact ownEntryDelete_blind l _
  case entryRead =>
    rcases payload with _ | ⟨_, _ | ⟨_, _⟩⟩ <;> cases fields
    exact ownEntryRead_blind l _
  case settingRead =>
    rcases payload with _ | ⟨_, _ | ⟨_, _⟩⟩ <;> cases fields
    exact ownSettingRead_blind l _
  case scheduleClear =>
    cases payload <;> cases fields
    exact ownScheduleClear_blind l

/-! ## Carrying out a request (R166) -/

theorem State.hear_blind (k : Link) : Blind (·.hear k) := fun s l b => by cases k <;> rfl

theorem State.respond_rebuffer (l : Link) (code : Byte) (a : Answer) (b : Buffer) :
    (State.respond l code a).rebuffer l b = State.respond l code (a.rebuffer l b) := by
  cases l <;> rfl

/-- R168: a request that is not refused is one that its link accepts. -/
theorem acceptedOn_of_unrefused {c : Command} {l : Link} {level : Level} (unrefused : judge c l level = none) :
    c.acceptedOn l = true := by
  by_contra refused
  rw [judge_not_accepted (eq_false_of_ne_true refused)] at unrefused
  cases unrefused

theorem judged_blind (c : Command) (l : Link) (payload : List Byte) :
    BlindOn l (judged c l (lengthChecked (ownerOf c l payload))) := fun s b => by
  unfold judged
  rw [State.rebuffer_policy]
  split
  · rfl
  · rename_i unrefused
    cases fields : ownerOf c l payload with
    | none => rfl
    | some own => exact ownerOf_blind fields (acceptedOn_of_unrefused unrefused) s b

/-- R166, log entry 4: a request does the same whatever waits in the buffer of its link, and leaves it waiting. -/
theorem State.carryOut_rebuffer (s : State) (c : Command) (l : Link) (payload : List Byte) (b : Buffer) :
    (s.carryOut c l (lengthChecked (ownerOf c l payload))).rebuffer l b
      = (s.rebuffer l b).carryOut c l (lengthChecked (ownerOf c l payload)) := by
  rw [State.carryOut, State.respond_rebuffer, judged_blind, State.hear_blind]
  rfl

/-! ## A request row and the taking of its frame (log entry 4) -/

section
variable {i : Instr} {l : Link} {c : Command} {s : State} (row : requestOf i = some (l, c)) (sendable : i.wellFormed = true)
include row sendable

/-- R166: with nothing waiting the row does what FRAME_TAKE does, but for what the buffer holds behind its frame. -/
theorem exec_row_eq_frameTake (on : s.receiversOn = true) (ready : (s.link l).answering = .ready)
    (free : (s.link l).inHand = none) {rest : List (List Byte)}
    (first : (s.link l).frames = requestFrame c (payloadOf i) :: rest) :
    ∃ t, exec i (s.setLink l { s.link l with frames := [], collecting := none }) = .next t
      ∧ exec (.frameTake l) s
          = .next (t.rebuffer l ⟨(s.link l).collecting, (s.link l).lastByteAt, rest⟩) := by
  have listening : Listening l (s.setLink l { s.link l with frames := [], collecting := none }) := by
    refine ⟨by simpa using on, ?_⟩
    rw [State.link_setLink_same]
    exact ⟨ready, rfl, rfl, free⟩
  refine ⟨_, (exec_request row _).trans (congrArg _ (State.takeRequest_listening listening
    (payloadOf_sendable sendable))), ?_⟩
  have taken : exec (.frameTake l) s = .next (s.takeNext l) := rfl
  rw [taken, State.takeNext_ready ready first, State.takeFrame_requestFrame, State.carryOut_rebuffer]
  congr 2
  cases l <;> rfl

/-- R162: on a listening link the row is the arrival of its frame and FRAME_TAKE. -/
theorem exec_row_listening (listening : Listening l s) :
    s.bytesArrive l (requestFrame c (payloadOf i)) = s.waiting i ∧ exec i s = exec (.frameTake l) (s.waiting i) := by
  obtain ⟨on, ready, hunt, empty, free⟩ := listening
  have short := payloadOf_sendable sendable
  have room : (s.link l).held + (requestFrame c (payloadOf i)).length ≤ bufferSize := by
    simp [LinkState.held, empty, free, hunt, requestFrame, bufferSize]
    omega
  refine ⟨(State.bytesArrive_requestFrame c on hunt short room).trans (State.waiting_eq row).symm, ?_⟩
  have turn : exec i s = .next ((s.waiting i).takeTurn l) := by
    rw [exec_waiting row sendable on hunt room, empty]
    rfl
  exact (exec_of_takeTurn turn).1 ((State.waiting_turns row).1.trans ready)

end

/-- Settles O14: the owners' blindness for the buffer of their own link, joined to the two ways a request is taken. -/
theorem frameTakenIsTheRequestItCarries : Obligations.FrameTakenIsTheRequestItCarries := by
  refine ⟨fun i l c rest s row sendable on ready free first => ?_, fun i l c s row sendable listening =>
    exec_row_listening row sendable listening⟩
  obtain ⟨t, done, taken⟩ := exec_row_eq_frameTake row sendable on ready free first
  rw [State.rebuffer_eq] at taken
  exact ⟨t, done, taken⟩

end Sys2Proof.Machine
end

section
/-! SETTING_READ (R182). -/

namespace Sys2Proof.Machine

open Sys2Proof.Config

/-- R181, R182: what the owner answers, by what the identifier names. -/
theorem ownSettingRead_code (i : SettingId) (s : State) :
    ownSettingRead i.code s = ⟨s, .ok, i.code :: be32 (s.settings.get i)⟩ := by
  simp only [ownSettingRead, settingOfCode_code, settingBytes]

theorem ownSettingRead_unknown {id : Byte} (unknown : ∀ i : SettingId, i.code ≠ id) (s : State) :
    ownSettingRead id s = ⟨s, .badArgument, []⟩ := by
  simp only [ownSettingRead, settingOfCode_eq_none.mpr unknown]

/-- Settles O29: the owner's answer on the state that has heard the frame, which holds the same settings. -/
theorem settingReadReportsTheValueInForce : Obligations.SettingReadReportsTheValueInForce := by
  intro l id s listening
  have taken := exec_admitted (i := .settingRead l id) rfl (admitted_of_enquiry listening rfl rfl)
    (Nat.le_of_ble_eq_true rfl) rfl
  have settings : (s.hearing (.settingRead l id)).settings = s.settings := s.hearing_untouched _ .settings (by decide)
  refine ⟨fun i code => ?_, fun unknown => ?_⟩
  · subst code
    rw [ownSettingRead_code, settings] at taken
    exact taken
  · rw [ownSettingRead_unknown unknown] at taken
    exact taken

end Sys2Proof.Machine
end

section
/-! The supply warning and the write-completion event: what becomes of the slots, the marks and the queue (R177 to R180). -/

namespace Sys2Proof.Machine

open Sys2Proof.Config

/-! ## Figures by kind -/

theorem PerKind.get_set {α : Type} (p : PerKind α) (j k : Kind) (x : α) :
    (p.set k x).get j = if j = k then x else p.get j := by cases j <;> cases k <;> rfl

@[simp] theorem PerKind.get_set_same {α : Type} (p : PerKind α) (k : Kind) (x : α) : (p.set k x).get k = x := by
  rw [PerKind.get_set, if_pos rfl]

theorem PerKind.get_set_other {α : Type} (p : PerKind α) {j k : Kind} (other : j ≠ k) (x : α) :
    (p.set k x).get j = p.get j := by
  rw [PerKind.get_set, if_neg other]

/-! ## The start of a write (R179) -/

theorem State.startWrite_busy {s : State} {w : Write} (writing : s.store.write = some w) : s.startWrite = s := by
  simp [State.startWrite, writing]

theorem State.startWrite_empty {s : State} (empty : s.store.queue = []) : s.startWrite = s := by
  simp [State.startWrite, empty]

/-- R179: the head of the queue is written with what its owner holds. -/
theorem State.startWrite_head {s : State} (up : s.startUpDone = true) (idle : s.store.write = none) {k : Kind}
    {rest : List Kind} (waiting : s.store.queue = k :: rest) :
    s.startWrite.store = { s.store with
      queue := rest, write := some ⟨k, (s.recordOf k).sealed, false, s.now + writeDuration k⟩ } := by
  simp [State.startWrite, up, idle, waiting]

/-- A write that begins changes the queue and the write in flight alone. -/
theorem State.startWrite_store (s : State) :
    ∃ queue write, s.startWrite.store = { s.store with queue := queue, write := write } := by
  unfold State.startWrite
  split
  · split <;> exact ⟨_, _, rfl⟩
  · exact ⟨_, _, rfl⟩

@[simp] theorem State.startWrite_slots (s : State) : s.startWrite.store.slots = s.store.slots := by
  obtain ⟨_, _, store⟩ := s.startWrite_store
  rw [store]

@[simp] theorem State.startWrite_faulted (s : State) : s.startWrite.store.faulted = s.store.faulted := by
  obtain ⟨_, _, store⟩ := s.startWrite_store
  rw [store]

/-- R179: the write in flight after an idle store has looked at its queue is one of the kinds that waited there. -/
theorem State.startWrite_queued {s : State} (idle : s.store.write = none) {w : Write}
    (writing : s.startWrite.store.write = some w) : w.kind ∈ s.store.queue := by
  unfold State.startWrite at writing
  split at writing
  · split at writing
    · rw [idle] at writing
      cases writing
    · rename_i k rest waiting
      cases writing
      rw [waiting]
      exact List.mem_cons_self ..
  · rw [idle] at writing
    cases writing

/-! ## The supply warning (R180) -/

/-- R180: SUPPLY_SENSE has fallen below the threshold. -/
def State.senseFallen (s : State) : State := { s with supply := { s.supply with senseLow := true } }

theorem exec_supplyWarning_watched {s : State} (up : s.startUpDone = true) (good : s.supply.warning = false) :
    exec .supplyWarning s = .next s.senseFallen.warned.startWrite :=
  congrArg Host.Outcome.next (if_pos (by rw [up, good]; rfl))

theorem exec_supplyWarning_unwatched {s : State} (h : s.startUpDone = false ∨ s.supply.warning = true) :
    exec .supplyWarning s = .next s.senseFallen :=
  congrArg Host.Outcome.next (if_neg (by rcases h with down | warned <;> simp [*]))

theorem State.supply_update_untouched (s : State) (x : Supply) : Untouched [.supply] s { s with supply := x } := by
  intro b outside
  cases b <;> first | rfl | (intro l; cases l <;> rfl) | exact (outside (by simp)).elim

theorem State.senseFallen_warned_untouched (s : State) : Untouched [.supply, .account, .store] s s.senseFallen.warned :=
  (s.supply_update_untouched _).andThen s.senseFallen.warned_untouched rfl rfl

/-! ## The write-completion event (R179) -/

/-- R179: the slot holds the content taken: both marks of its kind are clear. -/
def State.verified (s : State) (w : Write) : State :=
  { s.reach w.till with
    store := { s.store with
      slots := s.store.slots.set w.kind w.slot
      faulted := s.store.faulted.set w.kind false
      foundBad := s.store.foundBad.set w.kind false
      write := none } }

/-- R179: the first read-back differs: the same content is written again. -/
def State.retried (s : State) (w : Write) (found : StoreSlot) : State :=
  { s.reach w.till with
    store := { s.store with
      slots := s.store.slots.set w.kind found
      write := some { w with retry := true, till := max s.now w.till + writeDuration w.kind } } }

/-- R179: the second read-back differs: the kind is faulted. -/
def State.givenUp (s : State) (w : Write) (found : StoreSlot) : State :=
  { s.reach w.till with
    store := { s.store with
      slots := s.store.slots.set w.kind found
      faulted := s.store.faulted.set w.kind true
      write := none } }.raise .store

theorem State.completeWrite_idle {s : State} (idle : s.store.write = none) (left : SlotLeft) : s.completeWrite left = s := by
  simp only [State.completeWrite, idle]

section
variable {s : State} {w : Write} (writing : s.store.write = some w) {left : SlotLeft}
include writing

theorem State.completeWrite_agrees (agrees : slotAfter left (s.store.slots.get w.kind) w.slot = w.slot) :
    s.completeWrite left = (s.verified w).startWrite := by
  simp only [State.completeWrite, writing]
  refine (if_pos agrees).trans ?_
  exact congrArg (fun slot => State.startWrite { s.verified w with
    store := { (s.verified w).store with slots := s.store.slots.set w.kind slot } }) agrees

theorem State.completeWrite_differs (differs : slotAfter left (s.store.slots.get w.kind) w.slot ≠ w.slot) :
    s.completeWrite left =
      if w.retry then (s.givenUp w (slotAfter left (s.store.slots.get w.kind) w.slot)).startWrite
      else s.retried w (slotAfter left (s.store.slots.get w.kind) w.slot) := by
  simp only [State.completeWrite, writing]
  exact if_neg differs

end

theorem State.verified_untouched (s : State) (w : Write) : Untouched [.time, .store] s (s.verified w) :=
  (s.reach_untouched w.till).andThen (State.store_update_untouched _ _) rfl rfl

theorem State.retried_untouched (s : State) (w : Write) (found : StoreSlot) :
    Untouched [.time, .store] s (s.retried w found) :=
  (s.reach_untouched w.till).andThen (State.store_update_untouched _ _) rfl rfl

theorem State.givenUp_untouched (s : State) (w : Write) (found : StoreSlot) :
    Untouched [.time, .store, .notice .store, .attention] s (s.givenUp w found) :=
  ((s.reach_untouched w.till).andThen (State.store_update_untouched _ _) (C := [.time, .store]) rfl rfl).andThen
    (State.raise_untouched _ _) rfl rfl

/-- R179: a store back in IDLE takes the head of its queue; the owners hold what they held before the event. -/
theorem State.startWrite_next {s b : State} (idle : b.store.write = none) (queue : b.store.queue = s.store.queue)
    (up : b.startUpDone = s.startUpDone) (records : ∀ k, b.recordOf k = s.recordOf k) :
    (s.store.queue = [] → b.startWrite.store.write = none)
      ∧ (s.startUpDone = true → ∀ k rest, s.store.queue = k :: rest → b.startWrite.store.queue = rest
        ∧ b.startWrite.store.write = some ⟨k, (s.recordOf k).sealed, false, b.startWrite.now + writeDuration k⟩) := by
  refine ⟨fun empty => ?_, fun done k rest waiting => ?_⟩
  · rw [State.startWrite_empty (queue.trans empty), idle]
  · rw [State.startWrite_head (up.trans done) idle (queue.trans waiting), records, State.startWrite_now]
    exact ⟨rfl, rfl⟩

/-- Settles O22: the warning by whether it is watched and the store idle, a completed write by what its read-back finds. -/
theorem supplyAndStoreEventsGovernTheWrites : Obligations.SupplyAndStoreEventsGovernTheWrites := by
  refine ⟨fun s => ⟨fun up good => ⟨_, exec_supplyWarning_watched up good, ?_, ?_, fun w writing => ?_,
    fun idle => ?_, ?_⟩, exec_supplyWarning_unwatched, rfl⟩, fun s => ⟨fun left idle => congrArg _ (State.completeWrite_idle idle left),
    fun w left writing => ?_⟩⟩
  · exact State.startWrite_supply _
  · exact State.startWrite_account _
  · have busy : s.senseFallen.warned.store.write = some w := writing
    rw [State.startWrite_busy busy]
    rfl
  · have begun := State.startWrite_head (s := s.senseFallen.warned) up idle rfl
    rw [begun]
    rfl
  · exact s.senseFallen_warned_untouched.andThen (State.startWrite_untouched _) rfl rfl
  · intro found
    have is_found : found = slotAfter left (s.store.slots.get w.kind) w.slot := by cases left <;> rfl
    clear_value found
    by_cases agrees : found = w.slot
    · have done := State.completeWrite_agrees writing (is_found.symm.trans agrees)
      obtain ⟨rests, next⟩ := State.startWrite_next (s := s) (b := s.verified w) rfl rfl rfl fun k => by cases k <;> rfl
      refine ⟨_, congrArg Host.Outcome.next done, State.startWrite_now _, ?_, fun k other => ?_, fun _ => ⟨?_, ?_, ?_⟩,
        fun differs => (differs agrees).elim, fun differs => (differs agrees).elim, fun _ => rests, fun _ => next⟩
      · simp [State.verified, agrees]
      · simp [State.verified, State.startWrite_foundBad, PerKind.get_set_other _ other]
      · simp [State.verified]
      · simp [State.verified, State.startWrite_foundBad]
      · exact (s.verified_untouched w).andThen (State.startWrite_untouched _) rfl rfl
    · have done := State.completeWrite_differs writing (is_found ▸ agrees)
      rw [← is_found] at done
      cases retry : w.retry with
      | false =>
        rw [retry, if_neg Bool.false_ne_true] at done
        refine ⟨_, congrArg Host.Outcome.next done, rfl, PerKind.get_set_same _ _ _, fun k other =>
          ⟨PerKind.get_set_other _ other _, rfl, rfl⟩, fun same => (agrees same).elim,
          fun _ _ => ⟨rfl, rfl, rfl, s.retried_untouched w found⟩, nofun, fun h => ?_, fun h => ?_⟩ <;>
          exact (h.elim agrees nofun).elim
      | true =>
        rw [retry, if_pos rfl] at done
        obtain ⟨rests, next⟩ := State.startWrite_next (s := s) (b := s.givenUp w found) rfl rfl rfl
          fun k => by cases k <;> rfl
        refine ⟨_, congrArg Host.Outcome.next done, State.startWrite_now _, ?_, fun k other => ?_,
          fun same => (agrees same).elim, nofun, fun _ _ => ⟨?_, ?_, ?_⟩, fun _ => rests, fun _ => next⟩
        · simp [State.givenUp]
        · simp [State.givenUp, State.startWrite_foundBad, PerKind.get_set_other _ other]
        · simp [State.givenUp]
        · exact State.startWrite_keeps _ _ (Pending.of_raise _ _)
        · exact (s.givenUp_untouched w found).andThen (State.startWrite_untouched _) rfl rfl

end Sys2Proof.Machine
end

section
/-! The records of the four kinds read back from their slots as their owners wrote them (R89, R138, R177, R184). -/

namespace Sys2Proof.Machine

open Sys2Proof.Config

/-- R177: a record sealed with its own CRC is good. -/
theorem Record.good_sealed (r : Record) : r.sealed.good = some r := if_pos rfl

/-! ## The settings (R184) -/

theorem levelOfCode_code (level : Level) : levelOfCode level.code = some level := by cases level <;> rfl

theorem Level.code_injective : Function.Injective Level.code := fun a b same => by
  have read := congrArg levelOfCode same
  rwa [levelOfCode_code, levelOfCode_code, Option.some.injEq] at read

/-- R182: the values of all identifiers are the settings. -/
theorem Settings.ext_get {v w : Settings} (same : ∀ i, v.get i = w.get i) : v = w := by
  have follow : v.follow = w.follow := by
    have code := same .follow
    revert code
    simp only [Settings.get]
    cases v.follow <;> cases w.follow <;> simp
  have fallback : v.fallback = w.fallback := by
    have code := same .fallback
    revert code
    simp only [Settings.get]
    cases v.fallback <;> cases w.fallback <;> simp
  have mask : ∀ l, v.maskOf l = w.maskOf l := fun l => BitVec.eq_of_toNat_eq (same (.mask l))
  have idle := Level.code_injective (same .idleLevel)
  have walkup := Level.code_injective (same .walkupLevel)
  cases v
  cases w
  rw [Settings.mk.injEq]
  exact ⟨same .lifeLimit, same .warningMargin, same .graceSetting, same .strikeCost, same .warmWindow, same .cooldown,
    same .warmUp, same .strikeWindow, same .retryWait, same .attempts, same .finalAddress, same .missLimit, follow,
    same .muteLead, same .maskTime, same .seekWindow, same .averaging, same .tolerance, same .stableCount,
    same .confirmFactor, fallback, same .panelWidth, same .panelHeight, same .tiltGain, same .tiltAveraging, same .lead,
    same .bridgeMax, same .walkupLength, same .extendStep, idle, walkup, same (.rate .engine), same (.rate .lectern),
    same (.rate .campus), mask .engine, mask .lectern, mask .campus⟩

theorem mem_allSettings (i : SettingId) : i ∈ allSettings := List.mem_of_find?_eq_some (settingOfCode_code i)

/-- R184: settings that a write would leave as they are come back from their record. -/
theorem settingsOf_values {v : Settings} (clamped : ∀ i, (v.put i (v.get i)).get i = v.get i) : settingsOf v.values = v := by
  refine Settings.ext_get fun i => ?_
  have write : (i, v.get i) ∈ allSettings.zip v.values := by
    rw [Settings.values, ← List.map_prod_left_eq_zip]
    exact List.mem_map_of_mem (mem_allSettings i)
  rw [settingsOf_get write, Settings.get_put_same _ v, clamped]

/-! ## The schedule (R138) -/

/-- 11, ENCODINGS: a 16-bit field as its two bytes. -/
theorem be16_word (n : Nat) : (byte (n / 256) ++ byte n : BitVec 16) = BitVec.ofNat 16 n := by
  apply BitVec.eq_of_toNat_eq
  rw [BitVec.toNat_append, byte, byte, BitVec.toNat_ofNat, BitVec.toNat_ofNat, BitVec.toNat_ofNat,
    ← Nat.shiftLeft_add_eq_or_of_lt (by omega), Nat.shiftLeft_eq]
  omega

theorem rawOfDate_eq (d : Date) : rawOfDate d = rawOfDateBytes d := by
  rw [rawOfDate, rawOfDateBytes, rawDateOf, be16_word]

theorem rawOfBound_eq (o : Option Date) : rawOfBound o = rawOfBoundBytes o := by
  cases o with
  | none => rfl
  | some d => exact rawOfDate_eq d

/-- R138: the record's fields of an entry name what the fields sent of it name, since those its kind does not use are not read. -/
theorem entryOfRaw_raw_eq_sent (e : Entry) : entryOfRaw e.raw = entryOfRaw e.sent := by
  obtain ⟨id, kind, start, stop, label⟩ := e
  cases kind <;> simp only [Entry.raw, Entry.sent, be16_word, rawOfDate_eq, rawOfBound_eq] <;> rfl

theorem entriesOfRaw_raw {t : List Entry} (good : entriesGood t = true) : entriesOfRaw (t.map Entry.raw) = some t := by
  induction t with
  | nil => rfl
  | cons e rest ih =>
    obtain ⟨valid, -, later⟩ := entriesGood_cons good
    rw [List.map_cons, entriesOfRaw, entryOfRaw_raw_eq_sent, entryOfRaw_sent valid, ih later]

theorem tableOfStored_raw {t : List Entry} (taken : tableTaken t = true) : tableOfStored (t.map Entry.raw) = some (inIdOrder t) :=
  tableOfStored_taken (entriesOfRaw_raw (Bool.and_eq_true_iff.mp taken).1) taken

/-! ## The presets (R88, R89) -/

theorem Preset.clamp_eq_self {p : Preset} (inRange : p.inRange) : p.clamp = p := by
  obtain ⟨mode, vManual, h, vTrim⟩ := p
  simp only [Preset.inRange] at inRange
  simp only [Preset.clamp, clampInt, Preset.mk.injEq, true_and]
  omega

theorem Preset.taken_stored {p : Preset} (inRange : p.inRange) : p.stored.taken = p := by
  have mode : (modeOfCode (byte p.mode.code).toNat).getD .manual = p.mode := by cases p.mode <;> rfl
  rw [StoredPreset.taken, Preset.stored, mode]
  exact Preset.clamp_eq_self inRange

theorem takePresets_stored {p : List Preset} (thirteen : p.length = 13) (inRange : ∀ x ∈ p, x.inRange) :
    takePresets (p.map Preset.stored) = p := by
  rw [takePresets_eq (by rw [List.length_map, thirteen]), List.map_map]
  exact (List.map_congr_left fun x member => Preset.taken_stored (inRange x member)).trans p.map_id

end Sys2Proof.Machine
end

section
/-! A verified record is loaded after the next reset (R177, R179, R184, R185). -/

namespace Sys2Proof.Machine

open Sys2Proof.Config

/-! ## The slot between the verify and start-up (R185) -/

/-- R185: a reset leaves the slot of a kind that is not being written as it is. -/
theorem Store.afterReset_spared {x : Store} {k : Kind} (spared : ∀ w, x.write = some w → w.kind ≠ k) (cut : SlotLeft) :
    (x.afterReset cut).slots.get k = x.slots.get k := by
  cases writing : x.write with
  | none => rw [Store.afterReset_idle writing]
  | some w => rw [Store.afterReset_slot writing, if_neg (spared w writing).symm]

/-- R179, R185: the write that follows a verified one is of another kind, so a reset leaves the verified slot whole. -/
theorem State.verified_survives {s : State} {w : Write} (unqueued : w.kind ∉ s.store.queue) (cause : Cause) (cut : SlotLeft) :
    ((s.verified w).startWrite.afterReset cause cut).store.slots.get w.kind = w.slot := by
  have spared : ∀ x, (s.verified w).startWrite.store.write = some x → x.kind ≠ w.kind := fun x next same =>
    unqueued (same ▸ State.startWrite_queued (s := s.verified w) rfl next)
  calc ((s.verified w).startWrite.afterReset cause cut).store.slots.get w.kind
    _ = (s.verified w).startWrite.store.slots.get w.kind := Store.afterReset_spared spared cut
    _ = w.slot := by rw [State.startWrite_slots]; exact PerKind.get_set_same _ _ _

theorem State.afterReset_startingUp (s : State) (cause : Cause) (cut : SlotLeft) : StartingUp (s.afterReset cause cut) :=
  ⟨rfl, fun l => by cases l <;> rfl, s, cause, cut, rfl⟩

/-! ## What start-up takes of a sealed record (R184) -/

section
variable {s : State} (h : StartingUp s)
include h

theorem StartingUp.startUp_sealed_settings {v : Settings} (slot : s.store.slots.settings = (Record.settings v.values).sealed)
    (clamped : ∀ i, (v.put i (v.get i)).get i = v.get i) :
    s.startUp.settings = v ∧ s.startUp.store.foundBad.settings = false := by
  have loaded := loadedSettings_good ((congrArg StoreSlot.good slot).trans (Record.good_sealed _))
  rw [settingsOf_values clamped] at loaded
  rw [h.startUp_settings, h.startUp_foundBad, settingsTaken, marksOf, loaded]
  exact ⟨rfl, rfl⟩

theorem StartingUp.startUp_sealed_account {r : AccountRecord} (slot : s.store.slots.account = (Record.account r).sealed) :
    s.startUp.account.record = clampRecord r ∧ s.startUp.store.foundBad.account = false := by
  have loaded := loadedAccount_good ((congrArg StoreSlot.good slot).trans (Record.good_sealed _))
  rw [h.startUp_account.1, h.startUp_foundBad, recordTaken, marksOf, loaded]
  exact ⟨rfl, rfl⟩

theorem StartingUp.startUp_sealed_schedule {t : List Entry}
    (slot : s.store.slots.schedule = (Record.schedule (t.map Entry.raw)).sealed) (taken : tableTaken t = true) :
    s.startUp.table = inIdOrder t ∧ s.startUp.store.foundBad.schedule = false := by
  have loaded := (loadedTable_good ((congrArg StoreSlot.good slot).trans (Record.good_sealed _))).trans
    (tableOfStored_raw taken)
  rw [h.startUp_table, h.startUp_foundBad, marksOf, loaded]
  exact ⟨rfl, rfl⟩

theorem StartingUp.startUp_sealed_presets {p : List Preset}
    (slot : s.store.slots.presets = (Record.presets (p.map Preset.stored)).sealed) (thirteen : p.length = 13)
    (inRange : ∀ x ∈ p, x.inRange) : s.startUp.geometry.presets = p ∧ s.startUp.store.foundBad.presets = false := by
  have loaded := loadedPresets_good ((congrArg StoreSlot.good slot).trans (Record.good_sealed _))
  rw [takePresets_stored thirteen inRange] at loaded
  rw [h.startUp_geometry, h.startUp_foundBad, marksOf, loaded]
  refine ⟨?_, rfl⟩
  show s.backed.geometry.presets = p
  rw [s.backed_presets, loaded]
  rfl

end

/-- Settles O23: the verified slot outlasts the reset, and start-up reads it back kind by kind. -/
theorem verifiedRecordsAreLoadedAfterTheNextReset : Obligations.VerifiedRecordsAreLoadedAfterTheNextReset := by
  intro s w cause cut writing unqueued
  have starting := (s.verified w).startWrite.afterReset_startingUp cause cut
  have survives := State.verified_survives unqueued cause cut
  refine ⟨_, _, congrArg Host.Outcome.next (State.completeWrite_agrees writing rfl), rfl, fun v kind slot clamped => ?_,
    fun r kind slot => ?_, fun e kind slot taken => ?_, fun p kind slot thirteen inRange => ?_⟩ <;>
    rw [kind, slot] at survives
  · exact starting.startUp_sealed_settings survives clamped
  · exact starting.startUp_sealed_account survives
  · exact starting.startUp_sealed_schedule survives taken
  · exact starting.startUp_sealed_presets survives thirteen inRange

end Sys2Proof.Machine
end

section
/-! One step, by what waits in the model's queue of commands (log entries 1 and 26). -/

namespace Sys2Proof.Machine

/-- The front command leaves the queue before it is carried out, so that it finds only the rest waiting. -/
theorem step_of_pending_cons {s : State} {c : Instr} {rest : List Instr} (waiting : s.pending = c :: rest) :
    step s = exec c { s with pending := rest } := by
  simp only [step, waiting]

/-- An idle step is one microsecond of the model's time. -/
theorem step_of_pending_nil {s : State} (idle : s.pending = []) : step s = .next (s.elapse 1) := by
  simp only [step, idle]

/-- Settles O1, by the two forms of the queue. -/
theorem stepTakesTheFrontCommand : Obligations.StepTakesTheFrontCommand :=
  ⟨fun _ _ _ waiting => step_of_pending_cons waiting, fun _ idle => step_of_pending_nil idle⟩

end Sys2Proof.Machine
end
